-- ==== Sys2Proof/Word.lean ====
section
/-! DEFINITION. Bytes, characters and the 48-bit serial: the plain words the two ports carry. -/
namespace Sys2Proof

/-- One byte of either port. -/
abbrev Byte := BitVec 8

/-- A run of bytes in the order they are sent. -/
abbrev Bytes := List Byte

/-- Characters as their codes (R214: a printable character is a byte from 0x20 to 0x7E). -/
abbrev Text := List Byte

/-- The 48-bit identity a node carries from manufacture. -/
abbrev Serial := BitVec 48

/-- The all-ones serial: no node carries it (R50). -/
def Serial.none : Serial := BitVec.allOnes 48

/-- The character codes of a string literal. -/
def ascii (s : String) : Text := s.toList.map fun c => BitVec.ofNat 8 c.toNat

end Sys2Proof
end

