-- ==== Sys2Proof/Config.lean ====
section
/-! DEFINITION. The sizes and fixed times of the part, each from the rule that states it. Every KZ260 has the same values, so there is no implementation constant; the one free value stands at the end. -/
namespace Sys2Proof.Config

/-- Record slots of the record queue (R199). -/
def recordSlots : Nat := 256
/-- Entries of the command queue (R63). -/
def commandSlots : Nat := 16
/-- Reports of the attention queue (R71). -/
def reportSlots : Nat := 16
/-- Frames of the request buffer (R196). -/
def requestSlots : Nat := 4
/-- Entries of the pass-through list (R206). -/
def passSlots : Nat := 8
/-- Open visits (R151). -/
def visitSlots : Nat := 64
/-- Vehicle entries (R130). -/
def vehicleSlots : Nat := 1024
/-- Account entries (R135). -/
def accountSlots : Nat := 256
/-- Rows of one tariff bank (R144). -/
def tariffRows : Nat := 64
/-- Tickets of one printer's queue (section 8.1). -/
def ticketSlots : Nat := 4
/-- Commands sent in one cycle's command part (R65). -/
def commandsPerCycle : Nat := 4
/-- Attention windows of one cycle (R68). -/
def windowsPerCycle : Nat := 4
/-- Largest body of an office frame (R193). -/
def maxBody : Nat := 1024
/-- Largest value of the saturating 16-bit counts (R53, R54, R201) and of the audit counter (R33). -/
def max16 : Nat := 65535
/-- Largest value of the seconds count (R127) and of a record number (R199). -/
def max32 : Nat := 4294967295
/-- Largest ticket number (R180). -/
def maxTicket : Nat := 99999999
/-- Largest balance in cents (R135). -/
def maxBalance : Int := 2000000000
/-- Saturation bound of W_fine (R7). -/
def maxFine : Int := 2000000000

/-- LEVEL_1 ladder time in ms (R59). -/
def level1Time : Nat := 2000
/-- LEVEL_2 ladder time in ms (R59). -/
def level2Time : Nat := 10000
/-- Enumeration hold-off in ms (R72). -/
def holdOffTime : Nat := 10000
/-- Attention retry time in ms (R86). -/
def attentionRetryTime : Nat := 1000
/-- Time of a calibration step in ms (R37). -/
def stepTime : Nat := 60000
/-- Empty timer of an intrusion pause in ms (R104). -/
def emptyTime : Nat := 5000
/-- Retry time of a station command refused QUEUE_FULL or DROPPED, in ms (R111). -/
def stationRetryTime : Nat := 100
/-- Retry time of a SIGNAL answered NAK REFUSED, in ms (R111). -/
def signalRetryTime : Nat := 1000
/-- Retry time of a drive command in ms (R117). -/
def driveRetryTime : Nat := 100
/-- Retry time of a print command in ms (R185). -/
def printRetryTime : Nat := 100
/-- Print limit of a printer whose lane has no configuration, in seconds (R185). -/
def defaultPrintLimit : Nat := 20
/-- Period of the zero-tracking timer in ms (R16). -/
def trackTime : Nat := 1000

/-- The free value of the model: the four bytes sent for a weight that four signed bytes cannot hold. R32 and R39 bound no
Z_cal, and R214 gives a weight four bytes, so that the spec states no encoding for such a number (DESIGN CHOICE,
notes/assumptions/33.md). -/
opaque wideWeight : Int → BitVec 32

end Sys2Proof.Config
end

