-- ==== Sys2Proof/Syntax.lean ====
section
/-! DEFINITION. The commands of the part: one constructor per row of spec/opcode_table.json.
A row that is an answer on the lane bus carries the received frame; a row that is a timer's expiry
names the timer's owner. A request row and a report row carry no operand of their own: their
operands are the fields of the frame at the head of the request buffer (R196) and of the report at
the head of the attention queue (R71). -/
namespace Sys2Proof

/-- A bridge, 0 for bridge 1 to 3 for bridge 4. -/
abbrev BridgeId := Fin 4
/-- A lane, 0 for lane 1 to 7 for lane 8. -/
abbrev LaneId := Fin 8
/-- A node table entry, 0 for address 1 to 31 for address 32 (R53). -/
abbrev NodeId := Fin 32

/-- The two barrier stations of a lane (R82): ENTRY and EXIT. -/
inductive LaneEnd
  | entry
  | exit
  deriving DecidableEq, Repr

/-- A framed answer as it arrives on the lane bus (R215), less its kind byte, which the row names. -/
structure BusAnswer where
  /-- Byte 0: bits 5 to 0 the address, bits 7 and 6 ignored on receipt. -/
  address : Byte
  /-- Byte 2: the length field. -/
  length : Byte
  /-- The payload bytes received. -/
  payload : Bytes
  /-- The two check bytes, most significant first. -/
  check : BitVec 16
  deriving DecidableEq, Repr

/-- A frame as it arrives on the office link (R217), after its start marker. -/
structure OfficeFrame where
  /-- The length field. -/
  length : BitVec 16
  /-- The kind byte. -/
  kind : Byte
  /-- The request tag. -/
  tag : Byte
  /-- The body bytes received. -/
  body : Bytes
  /-- The two check bytes, most significant first. -/
  check : BitVec 16
  deriving DecidableEq, Repr

/-- The commands of the part, in the order of spec/opcode_table.json. -/
inductive Instr
  | coldReset
  | warmReset
  | calEnableAssert
  | calEnableDeassert
  | yardStopAssert
  | yardStopDeassert
  | scanCycleStart
  | sample (f : BusAnswer)
  | present (f : BusAnswer)
  | noResponse
  | ack (f : BusAnswer)
  | nakRefused (f : BusAnswer)
  | reply (f : BusAnswer)
  | attentionWindow (v : BitVec 6)
  | report (kind : Byte) (f : BusAnswer)
  | enumerationSlot (v : Serial)
  | descriptor (f : BusAnswer)
  | beam
  | station
  | identify
  | key
  | attendant
  | help
  | done
  | paperOut
  | jam
  | zeroTrackingExpiry (b : BridgeId)
  | level1Expiry (a : NodeId)
  | level2Expiry (a : NodeId)
  | holdOffExpiry
  | attentionRetryExpiry (a : NodeId)
  | calStepTimeout
  | intrusionEmptyExpiry (b : BridgeId)
  | entryTimerExpiry (l : LaneId)
  | askTimerExpiry (l : LaneId)
  | stabilityTimerExpiry (l : LaneId)
  | clearanceTimerExpiry (l : LaneId)
  | motionTimerExpiry (l : LaneId) (e : LaneEnd)
  | stationRetryExpiry (l : LaneId) (e : LaneEnd)
  | driveRetryExpiry (l : LaneId) (e : LaneEnd)
  | printTimerExpiry (l : LaneId)
  | printRetryExpiry (l : LaneId)
  | silenceTimerExpiry
  | liveIntervalExpiry
  | frameGapTimeout
  | secondsTick
  | commitRecordWriteDone
  | commitCounterWriteDone
  | ticketNumberWriteDone
  | setTicketNumberWriteDone
  | officeFrame (f : OfficeFrame)
  | frameSent
  | zeroBridge
  | setBridgeParameters
  | setBridgeService
  | readBridge
  | calBegin
  | calZero
  | calSpan
  | calCorner
  | calTrim
  | calSetLimits
  | calCommit
  | calAbort
  | readCalibration
  | setScanPeriod
  | enumerate
  | resetNode
  | releaseNode
  | readNode
  | readBus
  | putPlanEntry
  | dropPlanEntry
  | readPlanEntry
  | putLane
  | openLane
  | closeLane
  | holdLane
  | releaseLane
  | barrierOverride
  | readLane
  | setClock
  | putVehicle
  | dropVehicle
  | readVehicle
  | readVehicleNext
  | putAccount
  | dropAccount
  | setBalance
  | readAccount
  | readAccountNext
  | putTariffRow
  | dropTariffRow
  | setTariffSwitch
  | readTariffRow
  | readTariffRowNext
  | readTables
  | openVisit
  | voidVisit
  | resolveVisit
  | restoreVisit
  | setTareTolerance
  | readVisit
  | readVisitByVehicle
  | readVisitNext
  | setTicketNumber
  | reprintTicket
  | setTicketHeader
  | readTickets
  | setSilenceTimeout
  | readRecords
  | releaseRecords
  | subscribeLive
  | sendToNode
  | readStatus
  | restart
  | powerLoss
  | frameDiscard (f : OfficeFrame)
  | unknownRequest
  | responseError (kind : Byte) (f : BusAnswer)
  deriving DecidableEq, Repr

end Sys2Proof
end

