-- ==== Sys2Proof/Decode.lean ====
section
/-! DEFINITION. The command a word spells by the opcode table's bits. The part is a block: it takes events and requests, and no row of spec/opcode_table.json gives bits. -/
namespace Sys2Proof

/-- No row of the table gives bits, so no word spells a command. (A request's bytes are read where the part reads
them: Machine/Operands.lean, at the head of the request buffer.) -/
def decodeTableWord (_nbits _w : Nat) : Option Instr := none

end Sys2Proof
end

