-- ==== Sys2Proof/Machine/Bytes.lean ====
section
/-! DEFINITION. The check code of R213, the field encodings of R214, and the two rounding rules of the Introduction. -/
namespace Sys2Proof.Machine

/-- One bit of the check code: the register moves up one place and the generator
x^16 + x^12 + x^5 + 1 is taken out when a one leaves it (R213). -/
def crcBit (r : Nat) : Nat :=
  if r.testBit 15 then ((r <<< 1) % 65536) ^^^ 0x1021 else (r <<< 1) % 65536

/-- One byte of the check code, most significant bit first (R213). -/
def crcByte (r : Nat) (b : Byte) : Nat :=
  crcBit (crcBit (crcBit (crcBit (crcBit (crcBit (crcBit (crcBit (r ^^^ (b.toNat <<< 8)))))))))

/-- The check value of a run of bytes: the register starts at all ones, no inversion at the end (R213). -/
def crc16 (bytes : Bytes) : BitVec 16 := BitVec.ofNat 16 (bytes.foldl crcByte 0xFFFF)

/-- `k` bytes of a number, most significant byte first (R214). -/
def beBytes : Nat → Nat → Bytes
  | 0, _ => []
  | k + 1, n => BitVec.ofNat 8 (n / 256 ^ k) :: beBytes k n

/-- The number a run of bytes spells, most significant byte first (R214). -/
def beNat (bytes : Bytes) : Nat := bytes.foldl (fun n b => n * 256 + b.toNat) 0

/-- `k` bytes of a signed number in two's complement (R214). -/
def beInt (k : Nat) (i : Int) : Bytes := beBytes k ((i % (256 ^ k : Nat)).toNat)

/-- The signed number a run of bytes spells in two's complement (R214). -/
def beSigned (bytes : Bytes) : Int :=
  let n := beNat bytes
  if 2 * n < 256 ^ bytes.length then (n : Int) else (n : Int) - (256 ^ bytes.length : Nat)

/-- Count or number up to 255: one byte (R214). -/
def u8 (n : Nat) : Bytes := beBytes 1 n
/-- Number up to 65,535: two bytes (R214). -/
def u16 (n : Nat) : Bytes := beBytes 2 n
/-- Number up to 4,294,967,295, or a rate: four bytes (R214). -/
def u32 (n : Nat) : Bytes := beBytes 4 n
/-- Weight in kg or in fine units: four bytes signed (R214). What is sent for a number outside them is free (DESIGN CHOICE,
notes/assumptions/33.md). -/
def weight4 (i : Int) : Bytes :=
  if -2147483648 ≤ i ∧ i ≤ 2147483647 then beInt 4 i else beBytes 4 (Config.wideWeight i).toNat
/-- Money in cents: eight bytes signed (R214). -/
def money8 (i : Int) : Bytes := beInt 8 i
/-- Serial: six bytes (R214). -/
def serial6 (x : Serial) : Bytes := beBytes 6 x.toNat
/-- Character string: a count, then the characters (R214). -/
def string1 (t : Text) : Bytes := u8 t.length ++ t
/-- A run of marks in one byte, bit 0 first (R214). -/
def marks1 : List Bool → Bytes
  | ms => [BitVec.ofNat 8 (ms.foldr (fun m n => 2 * n + m.toNat) 0)]
/-- An enumerated field of two values listed as yes, no or set, clear: codes from 1 upward in that order (R214). -/
def flag1 (b : Bool) : Bytes := if b then [1] else [2]
/-- An optional field: presence byte 0, or 1 and the field (R214). -/
def opt {α : Type} (f : α → Bytes) : Option α → Bytes
  | none => [0]
  | some x => 1 :: f x

/-- A printable character is a byte from 0x20 to 0x7E (R214). -/
def printable (c : Byte) : Bool := 0x20 ≤ c.toNat && c.toNat ≤ 0x7E

/-- A vehicle id has 1 to 12 printable characters (R130). -/
def validId (t : Text) : Bool := 1 ≤ t.length && t.length ≤ 12 && t.all printable

/-- Order of vehicle ids: character codes from the first character, a shorter id before a longer id that begins with it (R130). -/
def idBefore : Text → Text → Bool
  | [], [] => false
  | [], _ :: _ => true
  | _ :: _, [] => false
  | a :: as, b :: bs => if a.toNat < b.toNat then true else if b.toNat < a.toNat then false else idBefore as bs

/-- The quotient of two integers to the nearest integer with halves away from zero (Introduction, Arithmetic).
The divisor is positive where a rule uses it. -/
def roundDiv (a : Int) (d : Nat) : Int :=
  if 0 ≤ a then (2 * a + d) / (2 * d) else -((2 * -a + d) / (2 * d))

/-- The quotient of two non-negative numbers rounded half up (Introduction, Arithmetic: money). -/
def roundHalfUp (a d : Nat) : Nat := (2 * a + d) / (2 * d)

/-- A value taken to the nearer end of its range when it lies outside (Introduction, Settings out of range). -/
def clamp (lo hi v : Nat) : Nat := if v < lo then lo else if hi < v then hi else v

/-- The first entry of a list kept in order by `before` is inserted at its place. -/
def insertBy {α : Type} (before : α → α → Bool) (x : α) : List α → List α
  | [] => [x]
  | y :: ys => if before x y then x :: y :: ys else y :: insertBy before x ys

end Sys2Proof.Machine
end

