-- ==== Sys2Proof/Machine/State.lean ====
section
/-! DEFINITION. The state of the part, block by block as the Introduction divides it, and its value right after power-on. Plain data throughout: no field has a function type. A timer is `some t` with `t` milliseconds remaining, or `none` when stopped. -/
namespace Sys2Proof.Machine

/-! ## Names shared by the blocks -/

/-- A cell position of a bridge, 0 for position 1 to 7 for position 8. -/
abbrev CellPos := Fin 8
/-- An entry of the plan table, 0 for entry 1 to 31 for entry 32 (R82). -/
abbrev PlanId := Fin 32
/-- A tariff bank (R144). -/
abbrev BankId := Fin 2

/-- The two ends, and position beams, of a bridge (R103). -/
inductive BeamEnd
  | a
  | b
  deriving DecidableEq, Repr

/-- A time stamp: the seconds count and the set flag as they stood (R127, R214). -/
structure Stamp where
  secs : Nat
  set : Bool
  deriving DecidableEq, Repr

/-- The five node kinds, in the order of their descriptor codes (R216). -/
inductive NodeKind
  | loadCell
  | beamPair
  | barrierStation
  | laneTerminal
  | printer
  deriving DecidableEq, Repr

/-- Node states (R53), in code order (R214). -/
inductive NodeState
  | free
  | active
  | silent
  | lost
  deriving DecidableEq, Repr

/-- The fill of a role (R88), in code order (R214). -/
inductive Fill
  | filled
  | degraded
  | empty
  deriving DecidableEq, Repr

/-- The 68 attachments of the yard (R82). The form of an attachment is its expected kind. -/
inductive Attach
  | cell (b : BridgeId) (p : CellPos)
  | beams (b : BridgeId)
  | station (l : LaneId) (e : LaneEnd)
  | terminal (l : LaneId)
  | printer (l : LaneId)
  deriving DecidableEq, Repr

/-- Lane states (R96), in code order (R214). -/
inductive LaneState
  | closed
  | idle
  | asking
  | waitBridge
  | entering
  | weighing
  | ticketing
  | releasing
  | held
  | fault
  deriving DecidableEq, Repr

/-- Visit states (R153), in code order (R214). -/
inductive VisitState
  | admitted
  | onSite
  | leaving
  | weighedOut
  | ticketing
  | held
  deriving DecidableEq, Repr

/-- Hold reasons of lanes and visits (R114, R170), in code order (R214). -/
inductive HoldReason
  | unstable
  | notForTrade
  | noZeroReturn
  | tareMismatch
  | netNegative
  | noTariff
  | printFailed
  | restart
  | office
  | yardStop
  deriving DecidableEq, Repr

/-- Fault reasons of a lane (R112), in code order (R216). -/
inductive FaultReason
  | armTimeout
  | armFault
  | stationLost
  | clearance
  deriving DecidableEq, Repr

/-- Reasons of a void (R168), in code order (R214). -/
inductive VoidReason
  | abandoned
  | letOff
  | office
  deriving DecidableEq, Repr

/-- Reasons a ticket fails (R187, R192), in code order (R218). -/
inductive TicketFailure
  | paperOut
  | jam
  | timeout
  | refused
  | printerLost
  | noPrinter
  | reset
  deriving DecidableEq, Repr

/-- Kinds of reset a STARTED record names (R211). -/
inductive ResetKind
  | cold
  | warmLine
  | warmRestart
  deriving DecidableEq, Repr

/-- A timer that holds its limit beside its time remaining, both in ms (section 5.1, section 8.1). -/
structure Countdown where
  limit : Nat
  left : Nat
  deriving DecidableEq, Repr

/-! ## Weighing engine (Chapter 1) -/

/-- The sample table entry of one position (section 1.1, R2, R3). -/
structure SampleEntry where
  /-- Latest count; absent while the entry holds no sample. -/
  count : Option Int
  /-- Latest sequence number. -/
  seq : Option Byte
  /-- Cycles without advance, 0 to 3; the position is STALE at 3. -/
  stale : Nat
  /-- Overrange flag of the latest good answer. -/
  overrange : Bool
  /-- Underrange flag. -/
  underrange : Bool
  /-- Cell fault flag. -/
  cellFault : Bool
  /-- Missed mark, set at the start of each scan cycle. -/
  missed : Bool
  /-- The sequence has advanced since the end of the last cell-poll part (R3). -/
  advanced : Bool
  deriving DecidableEq, Repr

/-- An entry that holds no sample (R3). -/
def SampleEntry.noSample : SampleEntry :=
  { count := none, seq := none, stale := 3, overrange := false, underrange := false, cellFault := false,
    missed := true, advanced := false }

/-- Live states (R11), in code order (R217). -/
inductive LiveState
  | invalid
  | overMax
  | underMin
  | zeroUnset
  | stable
  | motion
  deriving DecidableEq, Repr

/-- Bridge states (R23), in code order (R217). -/
inductive BridgeStatus
  | outOfService
  | notReady
  | calibrating
  | restricted
  | ready
  deriving DecidableEq, Repr

/-- The reason list of a bridge (R23). -/
structure Reasons where
  calibrationInvalid : Bool
  cellUnfilled : Bool
  beamUnfilled : Bool
  zeroUnset : Bool
  deriving DecidableEq, Repr

/-- Legality of a weight record (R20). -/
inductive Legality
  | ready
  | restricted
  deriving DecidableEq, Repr

/-- A weight record (R20, R218). -/
structure WeightRecord where
  /-- Bridge number, 1 to 4. -/
  bridge : Nat
  /-- W in kg. -/
  weight : Int
  /-- Division e in kg. -/
  e : Nat
  /-- Capture time. -/
  time : Stamp
  stableMark : Bool
  zeroReturn : Bool
  trade : Bool
  legality : Legality
  deriving DecidableEq, Repr

/-- The working zero and its anchor, in fine units (section 1.5). -/
structure Zero where
  zb : Int
  zinit : Int
  deriving DecidableEq, Repr

/-- A held capture request (R19). -/
structure CaptureRequest where
  lane : LaneId
  far : BeamEnd
  deriving DecidableEq, Repr

/-- The five bridge parameters (R25). -/
structure BridgeParams where
  /-- Filter length N. -/
  n : Nat
  /-- Motion window M. -/
  m : Nat
  /-- Motion band in fine units, absent while unset. -/
  band : Option Int
  /-- Stability hold. -/
  hold : Nat
  /-- Occupancy threshold in divisions. -/
  threshold : Nat
  deriving DecidableEq, Repr

/-- The defaults of R25. -/
def BridgeParams.default : BridgeParams := { n := 8, m := 8, band := none, hold := 10, threshold := 20 }

/-- The engine's state for one bridge (section 1.1). -/
structure Engine where
  samples : Vector SampleEntry 8
  /-- Filter window, oldest first. -/
  filter : List Int
  /-- Motion window, oldest first. -/
  motion : List Int
  /-- Stability hold count, 0 to 64. -/
  hold : Nat
  /-- Invalid run count. -/
  invalidRun : Nat
  /-- Z_b and Z_init; present when the zero is established. -/
  zero : Option Zero
  /-- W in kg. -/
  w : Option Int
  live : LiveState
  /-- Latest W_avg in fine units. -/
  wAvg : Option Int
  zeroReturn : Bool
  capture : Option CaptureRequest
  last : Option WeightRecord
  previous : Option WeightRecord
  params : BridgeParams
  outOfService : Bool
  status : BridgeStatus
  reasons : Reasons
  /-- Zero-range episode open (R14). -/
  episode : Bool
  /-- Zero-limit flag (R16). -/
  zeroLimit : Bool
  /-- Zero-tracking timer, ms remaining (R16). -/
  trackTimer : Nat
  /-- The latest bridge sample was judged stable (R9). -/
  stable : Bool
  /-- The latest bridge sample was judged occupied (R13); occupied while none has been taken (R103). -/
  occupied : Bool
  deriving DecidableEq, Repr

/-! ## Calibration unit (Chapter 2) -/

/-- One position of a calibration record or working copy (R32). -/
structure CalCell where
  serial : Option Serial
  /-- Calibrated zero count z_i. -/
  z : Int
  /-- Trim s_i. -/
  s : Nat
  deriving DecidableEq, Repr

/-- What a calibration source supplies (R1), with the serials (R32). -/
structure CalData where
  /-- Cell count n. -/
  n : Nat
  cells : Vector CalCell 8
  /-- Gain G. -/
  gain : Nat
  /-- Calibrated zero Z_cal in fine units. -/
  zCal : Int
  /-- Division e in kg. -/
  e : Nat
  /-- Capacity Max in kg. -/
  max : Nat
  deriving DecidableEq, Repr

/-- The defaults of R36 with a given cell count. -/
def CalData.default (n : Nat) : CalData :=
  { n := n, cells := Vector.replicate 8 { serial := none, z := 0, s := 65536 }, gain := 1048576,
    zCal := 0, e := 10, max := 50000 }

/-- A calibration record (R32). -/
structure CalRecord where
  data : CalData
  commitTime : Stamp
  audit : Nat
  deriving DecidableEq, Repr

/-- A store item: its contents with the check value held beside them, and its status (R30). -/
structure StoreItem (α : Type) where
  content : α
  check : BitVec 16
  valid : Bool
  deriving DecidableEq, Repr

/-- A write of the store (R31). -/
inductive StoreWrite
  /-- The record write of a commit. -/
  | record (b : BridgeId) (r : CalRecord)
  /-- The counter write of a commit. -/
  | counter (b : BridgeId) (value : Nat)
  /-- The next-ticket-number write of a numbering (R180). -/
  | ticket (next : Nat)
  /-- The write of SET TICKET NUMBER, with the request's tag (R182). -/
  | setTicket (value : Nat) (tag : Byte)
  deriving DecidableEq, Repr

/-- The nonvolatile store (section 2.1): six items, one write at a time. -/
structure Store where
  records : Vector (StoreItem CalRecord) 4
  counter : StoreItem Nat
  ticket : StoreItem Nat
  inFlight : Option StoreWrite
  /-- Writes asked for while another is in flight, oldest first. -/
  asked : List StoreWrite
  deriving DecidableEq, Repr

/-- A calibration step (section 2.5). -/
inductive CalStep
  | zero
  | span (mass : Nat)
  | corner (k : CellPos)
  deriving DecidableEq, Repr

/-- The step in progress: its kind, its request's tag and its timer (R37). -/
structure StepRun where
  step : CalStep
  tag : Byte
  timer : Nat
  deriving DecidableEq, Repr

/-- An open calibration session (section 2.4). It holds one record claim for as long as it is open. -/
structure Session where
  bridge : BridgeId
  work : CalData
  corners : Vector (Option Int) 8
  savedZero : Option Zero
  savedReturn : Bool
  step : Option StepRun
  /-- The tag of the CAL COMMIT taken, until its writes complete. -/
  commit : Option Byte
  deriving DecidableEq, Repr

/-- The calibration unit. -/
structure Cal where
  store : Store
  session : Option Session
  /-- The legality judgement of each bridge: restricted or not (R47). -/
  restricted : Vector Bool 4
  deriving DecidableEq, Repr

/-! ## Lane bus controller (Chapter 3) -/

/-- What a DESCRIPTOR gives (R90). -/
structure NodeDesc where
  kind : NodeKind
  maxPayload : Nat
  /-- Line width of a PRINTER; 0 for the other kinds. -/
  width : Nat
  deriving DecidableEq, Repr

/-- The ladder step of a SILENT entry with its timer (R59). The LEVEL_2 timer starts when the reset is sent. -/
inductive Ladder
  | level1 (timer : Nat)
  | level2 (timer : Option Nat)
  deriving DecidableEq, Repr

/-- A node table entry (R53). -/
structure NodeEntry where
  state : NodeState
  /-- Present, or remembered in FREE. -/
  serial : Option Serial
  desc : Option NodeDesc
  /-- Consecutive miss count. -/
  misses : Nat
  /-- Error total. -/
  errors : Nat
  attention : Bool
  ladder : Option Ladder
  deriving DecidableEq, Repr

/-- The serial a report of the entry names. Every entry that is reported holds one; the serial that stands for none is
there for the others (notes/assumptions/5.md). -/
def NodeEntry.serialNow (n : NodeEntry) : Serial := n.serial.getD Serial.none

/-- The kind a report of the entry names. Every entry that is reported has a descriptor
(notes/assumptions/5.md). -/
def NodeEntry.kindNow (n : NodeEntry) : NodeKind := (n.desc.map (·.kind)).getD .loadCell

/-- A FREE entry with no serial and no remembered serial (R81). -/
def NodeEntry.fresh : NodeEntry :=
  { state := .free, serial := none, desc := none, misses := 0, errors := 0, attention := false, ladder := none }

/-- Arm commands of a barrier station. -/
inductive ArmCommand
  | raise
  | lower
  deriving DecidableEq, Repr

/-- Signal aspects (R216), in code order. -/
inductive Aspect
  | red
  | green
  | dark
  deriving DecidableEq, Repr

/-- The messages of a lane terminal (R96, R98, R216). -/
inductive Display
  | laneClosed
  | presentTag
  | enterMaterial
  | waitForGreen (visit : Nat)
  | driveOn
  | weighing
  | reverse
  | weight (w : Int) (visit : Nat)
  | printing
  | proceed
  | held (reason : HoldReason)
  | outOfOrder (reason : FaultReason)
  /-- Messages 20 to 29, the refusals of R98. -/
  | refusal (number : Nat)
  deriving DecidableEq, Repr

/-- The command frames of the command queue (R51, R63). -/
inductive CommandFrame
  | nodeReset (level : Nat)
  | attentionOn
  | attentionOff
  | arm (c : ArmCommand)
  | driveOff
  | driveOn
  | signal (a : Aspect)
  | display (d : Display)
  | printLine (last : Bool) (part : Text)
  | printEnd (tag : Nat)
  | message (payload : Bytes)
  deriving DecidableEq, Repr

/-- An entry of the pass-through list (section 9.6). -/
structure PassEntry where
  tag : Byte
  role : Attach
  node : NodeId
  serial : Option Serial
  deriving DecidableEq, Repr

/-- The originator of a command (R63). -/
inductive Origin
  | controller
  | office
  | plan
  | display (l : LaneId)
  | station (l : LaneId) (e : LaneEnd)
  | ticket (l : LaneId) (tag : Nat)
  | pass (p : PassEntry)
  deriving DecidableEq, Repr

/-- A queued command (R63). -/
structure Command where
  node : NodeId
  frame : CommandFrame
  origin : Origin
  /-- Its exchange is open now. -/
  sent : Bool
  deriving DecidableEq, Repr

/-- A NODE RESET of the controller's own, held while the command queue is full (R63): its node and its level. -/
structure HeldReset where
  node : NodeId
  level : Nat
  deriving DecidableEq, Repr

/-- The command a held reset is placed as. -/
def HeldReset.command (r : HeldReset) : Command :=
  { node := r.node, frame := .nodeReset r.level, origin := .controller, sent := false }

/-- Arm images of a station (R109); the first seven in code order (R216). -/
inductive ArmImage
  | down
  | raising
  | up
  | lowering
  | obstructed
  | fault
  | off
  | unknown
  deriving DecidableEq, Repr

/-- Loop images (R109). -/
inductive LoopImage
  | clear
  | occupied
  | unknown
  deriving DecidableEq, Repr

/-- Drive images (R109). -/
inductive DriveImage
  | on
  | off
  | unknown
  deriving DecidableEq, Repr

/-- What a KEY report says (R216). -/
inductive KeyAction
  | number (value : Nat)
  | cancel
  deriving DecidableEq, Repr

/-- A report of a node (R67, R216). -/
inductive Report
  /-- Beams A and B, true for BROKEN. -/
  | beam (a b : Bool)
  | station (arm : ArmImage) (loop : LoopImage) (signal : Aspect) (drive : DriveImage)
  | identify (id : Text)
  | key (k : KeyAction)
  | attendant
  | help (code : Nat)
  | done (tag : Nat)
  | paperOut (tag : Nat)
  | jam (tag : Nat)
  deriving DecidableEq, Repr

/-- A report in the attention queue, with the plan entry bound to its node when it was taken (R69). -/
structure QueuedReport where
  node : NodeId
  report : Report
  plan : Option PlanId
  deriving DecidableEq, Repr

/-- Where the running scan cycle stands (R54). -/
inductive ScanPart
  /-- Cell polls; the next address to consider. -/
  | cellPolls (next : Nat)
  /-- Slow polls; the next address to consider. -/
  | slowPolls (next : Nat)
  /-- Commands; how many have counted toward the 4. -/
  | commands (done : Nat)
  /-- Attention windows; how many have been opened. -/
  | attention (windows : Nat)
  | slot
  deriving DecidableEq, Repr

/-- The open exchange: the frame sent and the entry whose answer is expected (R51). -/
inductive Exchange
  /-- READ SAMPLE of the cell-poll part. -/
  | cellPoll (a : NodeId)
  /-- READ SAMPLE of the slow-poll part. -/
  | slowSample (a : NodeId)
  | presence (a : NodeId)
  /-- A command of the queue; the entry marked sent, with its frame. -/
  | command (a : NodeId) (f : CommandFrame)
  | attentionCall
  | go (a : NodeId)
  | enumerate
  /-- ASSIGN to an entry in an enumeration slot; the mark tells that the entry was FREE before the slot (R58). -/
  | assign (a : NodeId) (serial : Serial) (wasFree : Bool)
  deriving DecidableEq, Repr

/-- Scan state (R54, R56). -/
structure Scan where
  /-- The scan period as set, in ms. -/
  period : Nat
  /-- The period the latest cycle started under. -/
  periodInUse : Nat
  overrun : Nat
  /-- Slow-poll phase. -/
  phase : Nat
  /-- The next cycle is the first after a reset (R81). -/
  startup : Bool
  /-- A cycle start fell due while the cycle before was still running (R54). -/
  overdue : Bool
  part : Option ScanPart
  /-- Entries polled in this cycle's cell-poll part. -/
  polled : List NodeId
  exchange : Option Exchange
  deriving DecidableEq, Repr

/-- Enumeration state (R72). -/
structure Enumeration where
  running : Bool
  /-- An ASSIGN with address 0 was sent in this round. -/
  gaveZero : Bool
  /-- Serials whose DESCRIPTOR has failed in this round, one entry per failure (R74). -/
  failed : List Serial
  holdOff : Option Nat
  joinPending : Bool
  deriving DecidableEq, Repr

/-- A frame the part puts on the lane bus (R50). -/
structure BusFrame where
  address : Nat
  kind : Nat
  payload : Bytes
  deriving DecidableEq, Repr

/-- The lane bus controller. -/
structure Bus where
  nodes : Vector NodeEntry 32
  /-- Command queue, oldest first. -/
  queue : List Command
  /-- The controller's own NODE RESETs held while the queue is full, oldest first (R63). Only resets can be held. -/
  heldResets : List HeldReset
  /-- Attention queue, oldest first. -/
  reports : List QueuedReport
  scan : Scan
  enum : Enumeration
  deriving DecidableEq, Repr

/-! ## Site plan (Chapter 4) -/

/-- A valid plan entry (R82); its expected kind is the form of its attachment. -/
structure PlanEntry where
  serial : Serial
  attach : Attach
  deriving DecidableEq, Repr

/-- The binding of a node (R83). -/
inductive Binding
  | bound (p : PlanId)
  | misfit (p : PlanId)
  | unplanned
  deriving DecidableEq, Repr

/-- The attention offer of a node (R86). -/
inductive AttentionOffer
  | none
  | onOffered
  | offOffered
  deriving DecidableEq, Repr

/-- What the plan keeps for a node table entry: its binding (absent for a FREE entry), its offer and the retry timer. -/
structure PlanNode where
  binding : Option Binding
  offer : AttentionOffer
  retry : Option Nat
  deriving DecidableEq, Repr

/-- The fill of an attachment and the node bound to its entry (R88, R89). -/
structure Role where
  fill : Fill
  node : Option (NodeId × Serial)
  deriving DecidableEq, Repr

/-- An attachment with no node. -/
def Role.vacant : Role := { fill := .empty, node := none }

/-- The fills of the 68 attachments. -/
structure Roles where
  cells : Vector (Vector Role 8) 4
  beams : Vector Role 4
  entries : Vector Role 8
  exits : Vector Role 8
  terminals : Vector Role 8
  printers : Vector Role 8
  deriving DecidableEq, Repr

/-- All fills EMPTY (R94). -/
def Roles.vacant : Roles :=
  { cells := Vector.replicate 4 (Vector.replicate 8 Role.vacant), beams := Vector.replicate 4 Role.vacant,
    entries := Vector.replicate 8 Role.vacant, exits := Vector.replicate 8 Role.vacant,
    terminals := Vector.replicate 8 Role.vacant, printers := Vector.replicate 8 Role.vacant }

/-- The site plan. -/
structure Plan where
  /-- Plan table; an absent entry is not valid. -/
  entries : Vector (Option PlanEntry) 32
  nodes : Vector PlanNode 32
  roles : Roles
  deriving DecidableEq, Repr

/-! ## Lane sequencer (Chapter 5) -/

/-- Direction of a lane (R95). -/
inductive Direction
  | aToB
  | bToA
  deriving DecidableEq, Repr

/-- Function of a lane (R95). -/
inductive LaneFunction
  | inbound
  | outbound
  deriving DecidableEq, Repr

/-- A lane's configuration (R95); times in seconds. -/
structure LaneConfig where
  bridge : BridgeId
  direction : Direction
  function : LaneFunction
  releaseOnFailure : Bool
  entryTime : Nat
  askTime : Nat
  stabilityTime : Nat
  clearanceTime : Nat
  motionTime : Nat
  printTime : Nat
  deriving DecidableEq, Repr

/-- The four lane timers (R95). -/
inductive LaneTimer
  | entry
  | ask
  | stability
  | clearance
  deriving DecidableEq, Repr

/-- Desired arm positions (R96). -/
inductive WantedArm
  | down
  | up
  | none
  deriving DecidableEq, Repr

/-- A barrier station's image and command state (R109, R110, R111, R117). -/
structure Station where
  arm : ArmImage
  loop : LoopImage
  /-- Signal image, absent while UNKNOWN. -/
  signal : Option Aspect
  drive : DriveImage
  wantArm : WantedArm
  wantSignal : Aspect
  /-- In-DRIVE-OFF mark. -/
  driveOffMark : Bool
  /-- Outstanding arm command. -/
  outArm : Option ArmCommand
  /-- Outstanding SIGNAL. -/
  outSignal : Option Aspect
  /-- A DRIVE OFF is outstanding. -/
  outOff : Bool
  /-- A DRIVE ON is outstanding. -/
  outOn : Bool
  /-- Motion timer with the command it runs for. -/
  motion : Option (ArmCommand × Nat)
  /-- Command retry timer (R111). -/
  retry : Option Nat
  /-- Drive retry timer of DRIVE OFF (R117). -/
  retryOff : Option Nat
  /-- Drive retry timer of DRIVE ON (R117). -/
  retryOn : Option Nat
  deriving DecidableEq, Repr

/-- A station after a cold reset with the yard stop line at the given level (R125). -/
def Station.cold (stop : Bool) : Station :=
  { arm := .unknown, loop := .unknown, signal := none, drive := .unknown, wantArm := .down,
    wantSignal := .red, driveOffMark := stop, outArm := none, outSignal := none, outOff := false,
    outOn := false, motion := none, retry := none, retryOff := none, retryOn := none }

/-- Resolutions a lane acts on (R116). -/
inductive Resolution
  | release
  | ticket
  | reweigh
  | void
  deriving DecidableEq, Repr

/-- The state of one lane (section 5.1). -/
structure Lane where
  config : Option LaneConfig
  /-- Open flag. -/
  isOpen : Bool
  state : LaneState
  /-- The visit carried. -/
  visit : Option Nat
  /-- Pending admission. -/
  asking : Option Text
  /-- Hold reason and resume state. -/
  hold : Option (HoldReason × LaneState)
  /-- Fault reason and the state the lane left. -/
  fault : Option (FaultReason × LaneState)
  /-- Pending ticket outcome: true for PRINTED. -/
  outcome : Option Bool
  /-- Reweigh-pending mark. -/
  reweigh : Bool
  /-- Near-beam mark. -/
  nearBeam : Bool
  timer : Option (LaneTimer × Countdown)
  /-- 7 REVERSE was displayed in WEIGHING and 6 WEIGHING has not been displayed since (R106). -/
  reversing : Bool
  /-- A resolution kept while the yard stop line is asserted (R116). -/
  kept : Option Resolution
  entry : Station
  exit : Station
  deriving DecidableEq, Repr

/-- A lane after a cold reset (R125). -/
def Lane.cold (stop : Bool) : Lane :=
  { config := none, isOpen := false, state := .closed, visit := none, asking := none, hold := none,
    fault := none, outcome := none, reweigh := false, nearBeam := false, timer := none,
    reversing := false, kept := none, entry := Station.cold stop, exit := Station.cold stop }

/-- Beam images (R103). -/
inductive BeamImage
  | broken
  | clear
  | unknown
  deriving DecidableEq, Repr

/-- What the sequencer holds for a bridge (section 5.1). -/
structure BridgeSeq where
  /-- Grant holder. -/
  holder : Option LaneId
  /-- Grant queue, oldest first. -/
  queue : List LaneId
  beamA : BeamImage
  beamB : BeamImage
  /-- An intrusion pause is active. -/
  pause : Bool
  /-- The pause's empty timer. -/
  pauseTimer : Option Nat
  deriving DecidableEq, Repr

/-- A bridge of the sequencer after a cold reset (R125). -/
def BridgeSeq.cold : BridgeSeq :=
  { holder := none, queue := [], beamA := .unknown, beamB := .unknown, pause := false, pauseTimer := none }

/-- The lane sequencer. -/
structure Seq where
  lanes : Vector Lane 8
  bridges : Vector BridgeSeq 4
  deriving DecidableEq, Repr

/-! ## Table unit (Chapter 6) -/

/-- The yard clock (section 6.1). -/
structure Clock where
  secs : Nat
  /-- Sub-second count, 0 to 999. -/
  ms : Nat
  set : Bool
  deriving DecidableEq, Repr

/-- A vehicle entry (R130). -/
structure Vehicle where
  id : Text
  account : Nat
  tare : Option Nat
  expiry : Option Nat
  maxGross : Option Nat
  material : Option Nat
  permit : Bool
  attendance : Bool
  deriving DecidableEq, Repr

/-- Account kinds (R135). -/
inductive AccountKind
  | credit
  | prepaid
  | council
  deriving DecidableEq, Repr

/-- An account entry (R135). -/
structure Account where
  number : Nat
  kind : AccountKind
  balance : Int
  limit : Nat
  reserve : Nat
  isHeld : Bool
  overLimit : Bool
  reserved : Nat
  visits : Nat
  deriving DecidableEq, Repr

/-- Material kinds (R144). -/
inductive MaterialKind
  | delivery
  | collection
  deriving DecidableEq, Repr

/-- A tariff row (R144). -/
structure TariffRow where
  material : Nat
  kind : MaterialKind
  gate : Nat
  levy : Nat
  minimum : Nat
  restricted : Bool
  deriving DecidableEq, Repr

/-- A tariff bank with its reference count (R144). -/
structure Bank where
  rows : List TariffRow
  refs : Nat
  deriving DecidableEq, Repr

/-- The table unit. -/
structure Tables where
  clock : Clock
  /-- In order of id. -/
  vehicles : List Vehicle
  /-- In order of account number. -/
  accounts : List Account
  banks : Vector Bank 2
  active : BankId
  switchTime : Option Nat
  deriving DecidableEq, Repr

/-! ## Visit unit (Chapter 7) -/

/-- Tare sources (R151). -/
inductive TareSource
  | stored (value : Nat)
  | declared (value : Nat)
  | twoPass
  deriving DecidableEq, Repr

/-- Which weighing a held weight is for (R151). -/
inductive WeightSlot
  | first
  | second
  deriving DecidableEq, Repr

/-- Net in kg and the fees in cents (R162). -/
structure Charge where
  net : Nat
  gate : Nat
  levy : Nat
  total : Nat
  deriving DecidableEq, Repr

/-- A visit record (R151). -/
structure Visit where
  number : Nat
  vehicle : Text
  account : Nat
  material : Nat
  tare : TareSource
  reserve : Nat
  bank : Option BankId
  maxGross : Option Nat
  first : Option WeightRecord
  second : Option WeightRecord
  held : Option (WeightSlot × WeightRecord)
  inLane : Option LaneId
  outLane : Option LaneId
  lane : Option LaneId
  state : VisitState
  hold : Option (HoldReason × VisitState)
  charge : Option Charge
  posted : Bool
  saturated : Bool
  overweight : Bool
  /-- Outstanding claims. -/
  claims : Nat
  opened : Stamp
  officeOpened : Bool
  attendance : Bool
  restored : Bool
  deriving DecidableEq, Repr

/-- The visit unit. -/
structure Visits where
  /-- In order of visit number. -/
  table : List Visit
  next : Nat
  /-- Tare tolerance in per cent (R175). -/
  tolerance : Nat
  deriving DecidableEq, Repr

/-! ## Ticket unit (Chapter 8) -/

/-- Ticket kinds. -/
inductive TicketKind
  | original
  | copy
  deriving DecidableEq, Repr

/-- Stages of a ticket (section 8.1). -/
inductive TicketStage
  | unnumbered
  | numbering
  | waiting
  | printing
  | awaitingDone
  deriving DecidableEq, Repr

/-- What a ticket is composed from (R183). -/
structure TicketContent where
  visit : Nat
  vehicle : Text
  account : Nat
  material : Nat
  first : WeightRecord
  second : WeightRecord
  tare : TareSource
  /-- Tare in kg; the unladen weight for TWO_PASS. -/
  tareValue : Int
  charge : Charge
  overweight : Bool
  deriving DecidableEq, Repr

/-- A ticket in a queue (section 8.1). -/
structure Ticket where
  kind : TicketKind
  number : Option Nat
  stage : TicketStage
  content : TicketContent
  /-- The PRINT LINE parts of the composed lines, true for LAST (R184). -/
  parts : List (Bool × Text)
  /-- Position of the part now offered; the number of parts stands for PRINT END. -/
  pos : Nat
  jobTag : Option Nat
  deriving DecidableEq, Repr

/-- The last job of a printer (section 8.1). -/
structure LastJob where
  kind : TicketKind
  number : Option Nat
  jobTag : Option Nat
  /-- Absent for PRINTED. -/
  failure : Option TicketFailure
  deriving DecidableEq, Repr

/-- A printer context (section 8.1). -/
structure Printer where
  /-- Ticket queue, oldest first. -/
  queue : List Ticket
  jobTag : Nat
  /-- Print timer. -/
  timer : Option Countdown
  /-- A PRINT LINE or PRINT END is outstanding. -/
  outstanding : Bool
  retry : Option Nat
  lastJob : Option LastJob
  deriving DecidableEq, Repr

/-- A printer context after a cold reset (R192). -/
def Printer.cold : Printer :=
  { queue := [], jobTag := 0, timer := none, outstanding := false, retry := none, lastJob := none }

/-- The ticket unit. -/
structure Tickets where
  printers : Vector Printer 8
  /-- Hand-over list: visit number and the printer's lane, oldest first. -/
  handOver : List (Nat × LaneId)
  /-- Numbering list: visit number and the printer's lane of each ORIGINAL waiting, oldest first. -/
  numbering : List (Nat × LaneId)
  /-- Numbering in flight: visit, printer's lane and the number k read. -/
  inFlight : Option (Nat × LaneId × Nat)
  headers : Vector (Option Text) 4
  deriving DecidableEq, Repr

/-! ## Office link port (Chapter 9) -/

/-- The fields of a VISIT_CLOSED record (R167, R218). -/
structure ClosedVisit where
  content : TicketContent
  bank : Option BankId
  posted : Bool
  saturated : Bool
  restored : Bool
  ticket : Option Nat
  /-- Absent for PRINTED. -/
  failure : Option TicketFailure
  deriving DecidableEq, Repr

/-- What a NODE_STATE record names beside the node and its states: the error total at a change of state (R62), or the plan
entry the node became MISFIT to with that entry's expected kind (R85). -/
inductive NodeReport
  | change (errors : Nat)
  | misfit (p : PlanId) (expected : NodeKind)
  deriving DecidableEq, Repr

/-- The 19 kinds of record with their fields, in the order of the table after R201. -/
inductive RecordBody
  | visitOpened (visit : Nat) (vehicle : Text) (account material : Nat) (tare : TareSource) (reserve : Nat)
      (inLane : Option LaneId) (attendance : Bool) (opened : Stamp) (restored : Bool)
  | firstWeight (visit : Nat) (vehicle : Text) (w : WeightRecord) (bank : Option BankId) (overweight : Bool)
  | secondWeight (visit : Nat) (w : WeightRecord) (tare : TareSource) (tareValue : Int) (charge : Charge)
      (bank : Option BankId) (saturated overweight : Bool)
  | visitClosed (c : ClosedVisit)
  | visitVoid (visit : Nat) (vehicle : Text) (account material : Nat) (reason : VoidReason) (state : VisitState)
      (first held : Option WeightRecord)
  | calibrationCommitted (b : BridgeId) (audit : Nat) (time : Stamp) (n e max gain : Nat) (zCal : Int)
      (serials : List Serial)
  | visitHeld (visit : Nat) (vehicle : Text) (reason : HoldReason) (resume : VisitState) (lane : Option LaneId)
      (held : Option WeightRecord)
  | bridgeState (b : BridgeId) (status : BridgeStatus) (reasons : Reasons)
  | nodeState (a : NodeId) (serial : Serial) (kind : NodeKind) (former now : NodeState) (report : NodeReport)
  | nodeTableFull (serial : Serial)
  | laneFault (l : LaneId) (reason : FaultReason) (stationEnd : Option LaneEnd) (left : LaneState) (grant : Bool)
  | intrusion (b : BridgeId) (beam : BeamEnd) (w : Option Int)
  | zeroRange (b : BridgeId) (difference : Int)
  | zeroLimit (b : BridgeId) (zb zinit : Int)
  | tariffSwitched (former now : BankId) (time secs : Nat)
  | accountOverLimit (account : Nat) (balance : Int) (limit : Nat)
  | yardStop (asserted : Bool)
  | helpCall (l : LaneId) (a : NodeId) (code : Nat) (state : LaneState) (visit : Option Nat)
  | started (kind : ResetKind) (items : List Bool) (clockSet calEnable yardStop : Bool) (queued claims : Nat)
  deriving DecidableEq, Repr

/-- A record in the record queue (R199). -/
structure Record where
  number : Nat
  time : Stamp
  body : RecordBody
  deriving DecidableEq, Repr

/-- A frame in the request buffer (R196): what is left of it once it is found valid. -/
structure Request where
  kind : Byte
  tag : Byte
  body : Bytes
  deriving DecidableEq, Repr

/-- A frame ready to be sent (R198). A LIVE frame takes its values when it is sent (R205). -/
inductive OutFrame
  | answer (tag : Byte) (body : Bytes)
  /-- The answer to RESTART, after which the warm reset is asked (R210). -/
  | restartAnswer (tag : Byte) (body : Bytes)
  | notice (body : Bytes)
  | live
  | passResult (tag : Byte) (body : Bytes)
  deriving DecidableEq, Repr

/-- The frame being sent, with all its bytes (R217). -/
structure Sending where
  frame : OutFrame
  bytes : Bytes
  deriving DecidableEq, Repr

/-- The live subscription (R205). -/
structure Live where
  bridges : List BridgeId
  interval : Nat
  timer : Nat
  deriving DecidableEq, Repr

/-- The office link port. -/
structure Port where
  /-- The link is UP. -/
  up : Bool
  silence : Option Nat
  /-- Silence timeout in seconds. -/
  timeout : Nat
  /-- Request buffer, oldest first. -/
  buffer : List Request
  /-- Record queue, oldest first. -/
  records : List Record
  nextRecord : Nat
  /-- Claim total. -/
  claims : Nat
  dropped : Nat
  live : Option Live
  /-- Pass-through list, oldest first. -/
  pass : List PassEntry
  sending : Option Sending
  waiting : List OutFrame
  /-- RESTART has been taken; no further request is taken (R210). -/
  restarting : Bool
  /-- A warm reset asked for that waits for a store write in flight (R31). -/
  resetAsked : Option ResetKind
  lastReset : ResetKind
  deriving DecidableEq, Repr

/-! ## The whole part -/

/-- The state of the part. `calEnable` and `yardStop` are the levels of the two lines; `sentFrames` (the
model's own) holds the frames the latest step put on the lane bus; `pending` is the queue of commands waiting. -/
structure State where
  /-- The part is supplied; false from POWER_LOSS to the next COLD_RESET. -/
  powered : Bool
  calEnable : Bool
  yardStop : Bool
  engine : Vector Engine 4
  cal : Cal
  bus : Bus
  plan : Plan
  seq : Seq
  tables : Tables
  visits : Visits
  tickets : Tickets
  port : Port
  sentFrames : List BusFrame
  pending : List Instr
  deriving DecidableEq, Repr

/-- The ways a step can stop with a fault: none. Every event the spec describes has an outcome it gives,
and an event that finds nothing to act on has no effect; so nothing raises a fault. -/
inductive Fault
  deriving DecidableEq, Repr

/-- The ways a step can refuse. -/
inductive Refusal
  /-- Raised by exec for a command that has no meaning yet; safe. -/
  | notModelled (mnemonic : String)
  deriving DecidableEq, Repr

/-! ## Reset -/

/-- The engine's state for a bridge after a cold reset, its bridge state derived with all fills EMPTY and no
session (R28). `valid` says whether the bridge's calibration record passes its check, `n` its cell count is at least 1. -/
def Engine.cold (valid : Bool) : Engine :=
  { samples := Vector.replicate 8 SampleEntry.noSample, filter := [], motion := [], hold := 0, invalidRun := 0,
    zero := none, w := none, live := .invalid, wAvg := none, zeroReturn := false, capture := none, last := none,
    previous := none, params := BridgeParams.default, outOfService := false, status := .notReady,
    reasons := { calibrationInvalid := !valid, cellUnfilled := valid, beamUnfilled := true, zeroUnset := true },
    episode := false, zeroLimit := false, trackTimer := Config.trackTime, stable := false, occupied := true }

/-- The scan state after a reset with the given period (R81): the first cycle is due at once. -/
def Scan.cold (period : Nat) : Scan :=
  { period := period, periodInUse := period, overrun := 0, phase := 0, startup := true, overdue := false,
    part := none, polled := [], exchange := none }

/-- The lane bus controller after a reset (R81). -/
def Bus.cold (period : Nat) : Bus :=
  { nodes := Vector.replicate 32 NodeEntry.fresh, queue := [], heldResets := [], reports := [],
    scan := Scan.cold period,
    enum := { running := false, gaveZero := false, failed := [], holdOff := none, joinPending := false } }

/-- The site plan after a reset, with the given plan entries (R94). -/
def Plan.cold (entries : Vector (Option PlanEntry) 32) : Plan :=
  { entries := entries, nodes := Vector.replicate 32 { binding := none, offer := .none, retry := none },
    roles := Roles.vacant }

/-- The sequencer after a cold reset (R125). -/
def Seq.cold (stop : Bool) : Seq :=
  { lanes := Vector.replicate 8 (Lane.cold stop), bridges := Vector.replicate 4 BridgeSeq.cold }

/-- The table unit after a cold reset (R150). -/
def Tables.cold : Tables :=
  { clock := { secs := 0, ms := 0, set := false }, vehicles := [], accounts := [],
    banks := Vector.replicate 2 { rows := [], refs := 0 }, active := 0, switchTime := none }

/-- The visit unit after a cold reset (R177). -/
def Visits.cold : Visits := { table := [], next := 1, tolerance := 5 }

/-- The ticket unit after a cold reset (R192). -/
def Tickets.cold : Tickets :=
  { printers := Vector.replicate 8 Printer.cold, handOver := [], numbering := [], inFlight := none,
    headers := Vector.replicate 4 none }

/-- The office link port after a cold reset, before STARTED is queued (R212). -/
def Port.cold : Port :=
  { up := false, silence := none, timeout := 30, buffer := [], records := [], nextRecord := 1, claims := 0,
    dropped := 0, live := none, pass := [], sending := none, waiting := [], restarting := false,
    resetAsked := none, lastReset := .cold }

/-- The contents an INVALID record of a part as delivered is given here; nothing reads them (R30). -/
def CalRecord.blank : CalRecord :=
  { data := CalData.default 2, commitTime := { secs := 0, set := false }, audit := 0 }

/-- The store of a part as delivered (R30): four INVALID records, an audit counter of 0 and a next ticket
number of 1, both VALID, their check values those of the contents as Machine/Layout.lean encodes them. The records'
check value is 0, which is not that of their contents, so that their check fails. -/
def Store.delivered : Store :=
  { records := Vector.replicate 4 { content := CalRecord.blank, check := 0#16, valid := false },
    counter := { content := 0, check := crc16 (u16 0), valid := true },
    ticket := { content := 1, check := crc16 (u32 1), valid := true }, inFlight := none, asked := [] }

/-- The STARTED record of a cold reset of a part as delivered, both lines deasserted (R211). -/
def Record.firstStarted : Record :=
  { number := 1, time := { secs := 0, set := false },
    body := .started .cold [false, false, false, false, true, true] false false false 0 0 }

/-- The part right after power-on as delivered, both lines deasserted: every block at its cold reset value
and the STARTED record queued as number 1 (R28, R30, R49, R81, R94, R125, R150, R177, R192, R211, R212). -/
def State.reset : State :=
  { powered := true, calEnable := false, yardStop := false,
    engine := Vector.replicate 4 (Engine.cold false),
    cal := { store := Store.delivered, session := none, restricted := Vector.replicate 4 false },
    bus := Bus.cold 20, plan := Plan.cold (Vector.replicate 32 none), seq := Seq.cold false,
    tables := Tables.cold, visits := Visits.cold, tickets := Tickets.cold,
    port := { Port.cold with records := [Record.firstStarted], nextRecord := 2 },
    sentFrames := [], pending := [] }

end Sys2Proof.Machine
end

