-- ==== Sys2Proof/Machine/Layout.lean ====
section
/-! DEFINITION. How named fields are laid down as bytes (Chapter 10): enumerated codes, store items, lane bus frames, office frames, weight records and records. Bodies that no table of Chapter 10 lays out follow R214 and R218: the fields in the order their rule names them (notes/assumptions/5.md). -/
namespace Sys2Proof.Machine

/-! ## Enumerated codes (R214, R216, R217, R218) -/

def LaneState.code : LaneState → Nat
  | .closed => 1 | .idle => 2 | .asking => 3 | .waitBridge => 4 | .entering => 5
  | .weighing => 6 | .ticketing => 7 | .releasing => 8 | .held => 9 | .fault => 10

def VisitState.code : VisitState → Nat
  | .admitted => 1 | .onSite => 2 | .leaving => 3 | .weighedOut => 4 | .ticketing => 5 | .held => 6

def HoldReason.code : HoldReason → Nat
  | .unstable => 1 | .notForTrade => 2 | .noZeroReturn => 3 | .tareMismatch => 4 | .netNegative => 5
  | .noTariff => 6 | .printFailed => 7 | .restart => 8 | .office => 9 | .yardStop => 10

def FaultReason.code : FaultReason → Nat
  | .armTimeout => 1 | .armFault => 2 | .stationLost => 3 | .clearance => 4

def VoidReason.code : VoidReason → Nat
  | .abandoned => 1 | .letOff => 2 | .office => 3

def NodeState.code : NodeState → Nat
  | .free => 1 | .active => 2 | .silent => 3 | .lost => 4

def NodeKind.code : NodeKind → Nat
  | .loadCell => 1 | .beamPair => 2 | .barrierStation => 3 | .laneTerminal => 4 | .printer => 5

def Fill.code : Fill → Nat
  | .filled => 1 | .degraded => 2 | .empty => 3

def Binding.code : Binding → Nat
  | .bound _ => 1 | .misfit _ => 2 | .unplanned => 3

def LiveState.code : LiveState → Nat
  | .invalid => 1 | .overMax => 2 | .underMin => 3 | .zeroUnset => 4 | .stable => 5 | .motion => 6

def BridgeStatus.code : BridgeStatus → Nat
  | .outOfService => 1 | .notReady => 2 | .calibrating => 3 | .restricted => 4 | .ready => 5

def Legality.code : Legality → Nat
  | .ready => 1 | .restricted => 2

def Aspect.code : Aspect → Nat
  | .red => 1 | .green => 2 | .dark => 3

def TicketFailure.code : TicketFailure → Nat
  | .paperOut => 1 | .jam => 2 | .timeout => 3 | .refused => 4 | .printerLost => 5 | .noPrinter => 6 | .reset => 7

def ResetKind.code : ResetKind → Nat
  | .cold => 1 | .warmLine => 2 | .warmRestart => 3

def laneEndCode : LaneEnd → Nat
  | .entry => 1 | .exit => 2

/-- The code of a bridge end: A 1 and B 2. No layout gives the far end of a capture request (R27) or the beam of an INTRUSION
its code, and R19, which names end B first, lists no values (R214; DESIGN CHOICE, notes/assumptions/5.md). -/
def BeamEnd.code : BeamEnd → Nat
  | .a => 1 | .b => 2

def TareSource.code : TareSource → Nat
  | .stored _ => 1 | .declared _ => 2 | .twoPass => 3

def AccountKind.code : AccountKind → Nat
  | .credit => 1 | .prepaid => 2 | .council => 3

def MaterialKind.code : MaterialKind → Nat
  | .delivery => 1 | .collection => 2

def Direction.code : Direction → Nat
  | .aToB => 1 | .bToA => 2

def LaneFunction.code : LaneFunction → Nat
  | .inbound => 1 | .outbound => 2

def LaneTimer.code : LaneTimer → Nat
  | .entry => 1 | .ask => 2 | .stability => 3 | .clearance => 4

def ArmImage.code : ArmImage → Nat
  | .down => 1 | .raising => 2 | .up => 3 | .lowering => 4 | .obstructed => 5 | .fault => 6 | .off => 7 | .unknown => 8

def LoopImage.code : LoopImage → Nat
  | .clear => 1 | .occupied => 2 | .unknown => 3

def DriveImage.code : DriveImage → Nat
  | .on => 1 | .off => 2 | .unknown => 3

def BeamImage.code : BeamImage → Nat
  | .broken => 1 | .clear => 2 | .unknown => 3

def WantedArm.code : WantedArm → Nat
  | .up => 1 | .down => 2 | .none => 3

def ArmCommand.code : ArmCommand → Nat
  | .raise => 1 | .lower => 2

def AttentionOffer.code : AttentionOffer → Nat
  | .none => 1 | .onOffered => 2 | .offOffered => 3

def TicketKind.code : TicketKind → Nat
  | .original => 1 | .copy => 2

def TicketStage.code : TicketStage → Nat
  | .unnumbered => 1 | .numbering => 2 | .waiting => 3 | .printing => 4 | .awaitingDone => 5

def WeightSlot.code : WeightSlot → Nat
  | .first => 1 | .second => 2

/-- The kind an attachment takes, which is its form (R82). -/
def Attach.kind : Attach → NodeKind
  | .cell _ _ => .loadCell
  | .beams _ => .beamPair
  | .station _ _ => .barrierStation
  | .terminal _ => .laneTerminal
  | .printer _ => .printer

/-- A role as three bytes: its form, its bridge or lane, and its position or end, 0 where the form has none. -/
def Attach.bytes : Attach → Bytes
  | .cell b p => u8 1 ++ u8 (b.val + 1) ++ u8 (p.val + 1)
  | .beams b => u8 2 ++ u8 (b.val + 1) ++ u8 0
  | .station l e => u8 3 ++ u8 (l.val + 1) ++ u8 (laneEndCode e)
  | .terminal l => u8 4 ++ u8 (l.val + 1) ++ u8 0
  | .printer l => u8 5 ++ u8 (l.val + 1) ++ u8 0

/-- A bridge, lane, address or entry number as one byte. -/
def idx1 {n : Nat} (i : Fin n) : Bytes := u8 (i.val + 1)

/-- A time: the seconds count, then the set flag (R214). -/
def Stamp.bytes (t : Stamp) : Bytes := u32 t.secs ++ u8 t.set.toNat

/-- A weight record (R218): 13 bytes wherever it is carried. -/
def WeightRecord.bytes (w : WeightRecord) : Bytes :=
  u8 w.bridge ++ weight4 w.weight ++ u8 w.e ++ w.time.bytes ++ marks1 [w.stableMark, w.zeroReturn, w.trade]
    ++ u8 w.legality.code

/-- A reason list (R23) as READ BRIDGE (R27) and BRIDGE_STATE (R24) carry it. No layout gives it: the model sends one marks byte,
bits 0 to 3 in the order of R23's table, and not a count and codes (DESIGN CHOICE, notes/assumptions/5.md). -/
def Reasons.bytes (r : Reasons) : Bytes :=
  marks1 [r.calibrationInvalid, r.cellUnfilled, r.beamUnfilled, r.zeroUnset]

/-- The value a tare source carries, absent for TWO_PASS. -/
def TareSource.value : TareSource → Option Nat
  | .stored v => some v
  | .declared v => some v
  | .twoPass => none

/-! ## Store items (R30, R32) -/

/-- The calibrated positions of a source: 1 to n. -/
def CalData.positions (d : CalData) : List CellPos := (List.finRange 8).filter (·.val < d.n)

/-- The fields of R32 of the positions 1 to n, then the bridge's. -/
def CalData.bytes (d : CalData) : Bytes :=
  u8 d.n
    ++ d.positions.flatMap (fun p =>
        opt serial6 (d.cells[p]).serial ++ weight4 (d.cells[p]).z ++ u32 (d.cells[p]).s)
    ++ u32 d.gain ++ weight4 d.zCal ++ u8 d.e ++ weight4 d.max

/-- The serials of the positions 1 to n. -/
def CalData.serials (d : CalData) : List Serial :=
  d.positions.map (fun p => (d.cells[p]).serial.getD Serial.none)

/-- The fields of a record in an answer, in the order of R32, its serials always present. R32 lists serials, zero counts and
trims as three rows; the model sends the three of position 1, then of position 2, and so on (DESIGN CHOICE,
notes/assumptions/5.md). -/
def CalRecord.items (r : CalRecord) : Bytes :=
  u8 r.data.n
    ++ r.data.positions.flatMap (fun p =>
        serial6 ((r.data.cells[p]).serial.getD Serial.none) ++ weight4 (r.data.cells[p]).z ++ u32 (r.data.cells[p]).s)
    ++ u32 r.data.gain ++ weight4 r.data.zCal ++ u8 r.data.e ++ weight4 r.data.max ++ r.commitTime.bytes ++ u16 r.audit

/-- A calibration record as held in the store. -/
def CalRecord.bytes (r : CalRecord) : Bytes := r.data.bytes ++ r.commitTime.bytes ++ u16 r.audit

/-! ## Lane bus frames (R215, R216) -/

/-- The message number and fields of a DISPLAY (R216). -/
def Display.bytes : Display → Bytes
  | .laneClosed => u8 1
  | .presentTag => u8 2
  | .enterMaterial => u8 3
  | .waitForGreen v => u8 4 ++ u16 v
  | .driveOn => u8 5
  | .weighing => u8 6
  | .reverse => u8 7
  | .weight w v => u8 8 ++ weight4 w ++ u16 v
  | .printing => u8 9
  | .proceed => u8 10
  | .held r => u8 11 ++ u8 r.code
  | .outOfOrder r => u8 12 ++ u8 r.code
  | .refusal n => u8 n

/-- The kind code of a command frame (R215). -/
def CommandFrame.code : CommandFrame → Nat
  | .nodeReset _ => 0x0B
  | .attentionOn => 0x0C
  | .attentionOff => 0x0D
  | .arm .raise => 0x10
  | .arm .lower => 0x11
  | .driveOff => 0x12
  | .driveOn => 0x13
  | .signal _ => 0x14
  | .display _ => 0x18
  | .printLine _ _ => 0x1C
  | .printEnd _ => 0x1D
  | .message _ => 0x20

/-- The payload of a command frame (R216). -/
def CommandFrame.payload : CommandFrame → Bytes
  | .nodeReset level => u8 level
  | .attentionOn => []
  | .attentionOff => []
  | .arm _ => []
  | .driveOff => []
  | .driveOn => []
  | .signal a => u8 a.code
  | .display d => d.bytes
  | .printLine last part => u8 last.toNat ++ part
  | .printEnd tag => u8 tag
  | .message m => m

/-- All bytes of a lane bus frame with its check (R213, R215). -/
def BusFrame.bytes (f : BusFrame) : Bytes :=
  let covered := u8 f.address ++ u8 f.kind ++ u8 f.payload.length ++ f.payload
  covered ++ u16 (crc16 covered).toNat

/-- The address the part uses on the bus for a node table entry. -/
def busAddress (a : NodeId) : Nat := a.val + 1

/-! ## Records (R218) -/

/-- The kind of a record, numbered from 1 in the order of the table after R201. -/
def RecordBody.code : RecordBody → Nat
  | .visitOpened .. => 1
  | .firstWeight .. => 2
  | .secondWeight .. => 3
  | .visitClosed .. => 4
  | .visitVoid .. => 5
  | .calibrationCommitted .. => 6
  | .visitHeld .. => 7
  | .bridgeState .. => 8
  | .nodeState .. => 9
  | .nodeTableFull .. => 10
  | .laneFault .. => 11
  | .intrusion .. => 12
  | .zeroRange .. => 13
  | .zeroLimit .. => 14
  | .tariffSwitched .. => 15
  | .accountOverLimit .. => 16
  | .yardStop .. => 17
  | .helpCall .. => 18
  | .started .. => 19

/-- A tariff bank's number as one byte. -/
def bank1 (b : BankId) : Bytes := u8 b.val

/-- The bank of a visit that has one (R218); 0 stands where a visit carries none, which no closed visit does. -/
def bankByte (b : Option BankId) : Bytes := u8 ((b.map (·.val)).getD 0)

/-- The VISIT_CLOSED body (R218). -/
def ClosedVisit.bytes (c : ClosedVisit) : Bytes :=
  u16 c.content.visit ++ string1 c.content.vehicle ++ u32 c.content.account ++ u8 c.content.material
    ++ bankByte c.bank ++ c.content.first.bytes ++ c.content.second.bytes
    ++ u8 c.content.tare.code ++ weight4 c.content.tareValue ++ weight4 c.content.charge.net
    ++ money8 c.content.charge.gate ++ money8 c.content.charge.levy ++ money8 c.content.charge.total
    ++ marks1 [c.posted, c.saturated, c.content.overweight, c.restored]
    ++ opt u32 c.ticket
    ++ u8 (if c.failure.isNone then 1 else 2) ++ u8 ((c.failure.map (·.code)).getD 0)

/-- The last fields of a NODE_STATE body: the error total of R62, or the binding MISFIT with the plan entry and its expected
kind of R85, which names no error total. -/
def NodeReport.bytes : NodeReport → Bytes
  | .change errors => u16 errors
  | .misfit p kind => u8 2 ++ idx1 p ++ u8 kind.code

/-- The body of a record: its rule's fields in the rule's order (R218). The restored mark, which R151 has carried in the
visit's records, stands at the end of every VISIT_OPENED and among the marks of VISIT_CLOSED, and in no other record
(DESIGN CHOICE, notes/assumptions/5.md). -/
def RecordBody.bytes : RecordBody → Bytes
  | .visitOpened visit vehicle account material tare reserve inLane attendance opened restored =>
      u16 visit ++ string1 vehicle ++ u32 account ++ u8 material ++ u8 tare.code
        ++ opt (fun v : Nat => weight4 v) tare.value ++ money8 reserve ++ opt idx1 inLane
        ++ flag1 attendance ++ opened.bytes ++ flag1 restored
  | .firstWeight visit vehicle w bank overweight =>
      u16 visit ++ string1 vehicle ++ w.bytes ++ bankByte bank ++ marks1 [overweight]
  | .secondWeight visit w tare tareValue charge bank saturated overweight =>
      u16 visit ++ w.bytes ++ u8 tare.code ++ weight4 tareValue ++ weight4 charge.net ++ money8 charge.gate
        ++ money8 charge.levy ++ money8 charge.total ++ bankByte bank ++ marks1 [saturated, overweight]
  | .visitClosed c => c.bytes
  | .visitVoid visit vehicle account material reason state first held =>
      u16 visit ++ string1 vehicle ++ u32 account ++ u8 material ++ u8 reason.code ++ u8 state.code
        ++ opt WeightRecord.bytes first ++ opt WeightRecord.bytes held
  | .calibrationCommitted b audit time n e max gain zCal serials =>
      idx1 b ++ u16 audit ++ time.bytes ++ u8 n ++ u8 e ++ weight4 max ++ u32 gain ++ weight4 zCal
        ++ serials.flatMap serial6
  | .visitHeld visit vehicle reason resume lane held =>
      u16 visit ++ string1 vehicle ++ u8 reason.code ++ u8 resume.code ++ opt idx1 lane
        ++ opt WeightRecord.bytes held
  | .bridgeState b status reasons => idx1 b ++ u8 status.code ++ reasons.bytes
  | .nodeState a serial kind former now report =>
      idx1 a ++ serial6 serial ++ u8 kind.code ++ u8 former.code ++ u8 now.code ++ report.bytes
  | .nodeTableFull serial => serial6 serial
  | .laneFault l reason stationEnd left grant =>
      idx1 l ++ u8 reason.code ++ opt (fun e : LaneEnd => u8 (laneEndCode e)) stationEnd ++ u8 left.code ++ flag1 grant
  | .intrusion b beam w => idx1 b ++ u8 beam.code ++ opt weight4 w
  | .zeroRange b difference => idx1 b ++ weight4 difference
  | .zeroLimit b zb zinit => idx1 b ++ weight4 zb ++ weight4 zinit
  | .tariffSwitched former now time secs => bank1 former ++ bank1 now ++ u32 time ++ u32 secs
  | .accountOverLimit account balance limit => u32 account ++ money8 balance ++ money8 limit
  | .yardStop asserted => flag1 asserted
  | .helpCall l a code state visit => idx1 l ++ idx1 a ++ u8 code ++ u8 state.code ++ opt u16 visit
  | .started kind items clockSet calEnable stop queued claims =>
      u8 kind.code ++ items.flatMap (fun ok => flag1 ok) ++ flag1 clockSet ++ flag1 calEnable ++ flag1 stop
        ++ u16 queued ++ u16 claims

/-- A record as READ RECORDS returns it: the 12-byte header, then the body (R218). -/
def Record.bytes (r : Record) : Bytes :=
  u32 r.number ++ u8 r.body.code ++ r.time.bytes ++ u16 r.body.bytes.length ++ r.body.bytes

/-! ## Office frames (R217) -/

/-- The result codes (R217). -/
inductive Result
  | done
  | doneClamped
  | busy
  | notFound
  | full
  | locked
  | state
  | range
  | mismatch
  | unknownRequest
  | malformed
  deriving DecidableEq, Repr

def Result.code : Result → Nat
  | .done => 0 | .doneClamped => 1 | .busy => 2 | .notFound => 3 | .full => 4 | .locked => 5
  | .state => 6 | .range => 7 | .mismatch => 8 | .unknownRequest => 9 | .malformed => 10

/-- The check value of an office frame, over its length, kind, tag and body (R213). -/
def officeCheck (length : Nat) (kind tag : Byte) (body : Bytes) : BitVec 16 :=
  crc16 (u16 length ++ [kind, tag] ++ body)

/-- The bytes of an office frame from its start marker on (R217). -/
def officeBytes (kind tag : Byte) (body : Bytes) : Bytes :=
  [0xA5] ++ u16 body.length ++ [kind, tag] ++ body ++ u16 (officeCheck body.length kind tag body).toNat

/-- A received frame is valid: its length is at most 1,024, that many body bytes arrived, and its check passes (R193). -/
def frameValid (f : OfficeFrame) : Bool :=
  f.length.toNat ≤ Config.maxBody && f.body.length == f.length.toNat
    && f.check == officeCheck f.length.toNat f.kind f.tag f.body

end Sys2Proof.Machine
end

