-- ==== Sys2Proof/Machine/Ops.lean ====
section
/-! DEFINITION. The named operations over the state that the blocks share: reading and writing the tables of fixed size, the office link's outgoing frames (R198), the record queue with its claims (R199 to R202), the command queue (R63, R64) and the store's queue of writes (R31). -/
namespace Sys2Proof.Machine

/-! ## Tables of fixed size -/

/-- Entry `i` of a table replaced. -/
def put {α : Type} {n : Nat} (v : Vector α n) (i : Fin n) (x : α) : Vector α n := v.set i.val x i.isLt

/-- Entry `i` of a table changed by `f`. -/
def alter {α : Type} {n : Nat} (v : Vector α n) (i : Fin n) (f : α → α) : Vector α n := put v i (f v[i])

def modEngine (b : BridgeId) (f : Engine → Engine) (s : State) : State :=
  { s with engine := alter s.engine b f }

def modCal (f : Cal → Cal) (s : State) : State := { s with cal := f s.cal }

def modStore (f : Store → Store) (s : State) : State := { s with cal := { s.cal with store := f s.cal.store } }

def modBus (f : Bus → Bus) (s : State) : State := { s with bus := f s.bus }

def modScan (f : Scan → Scan) (s : State) : State := { s with bus := { s.bus with scan := f s.bus.scan } }

def modEnum (f : Enumeration → Enumeration) (s : State) : State := { s with bus := { s.bus with enum := f s.bus.enum } }

def modNode (a : NodeId) (f : NodeEntry → NodeEntry) (s : State) : State :=
  { s with bus := { s.bus with nodes := alter s.bus.nodes a f } }

def modPlanNode (a : NodeId) (f : PlanNode → PlanNode) (s : State) : State :=
  { s with plan := { s.plan with nodes := alter s.plan.nodes a f } }

def modLane (l : LaneId) (f : Lane → Lane) (s : State) : State :=
  { s with seq := { s.seq with lanes := alter s.seq.lanes l f } }

def modBridge (b : BridgeId) (f : BridgeSeq → BridgeSeq) (s : State) : State :=
  { s with seq := { s.seq with bridges := alter s.seq.bridges b f } }

/-- The station at an end of a lane. -/
def Lane.station (lane : Lane) : LaneEnd → Station
  | .entry => lane.entry
  | .exit => lane.exit

def modStation (l : LaneId) (e : LaneEnd) (f : Station → Station) (s : State) : State :=
  modLane l (fun lane => match e with
    | .entry => { lane with entry := f lane.entry }
    | .exit => { lane with exit := f lane.exit }) s

def modPrinter (l : LaneId) (f : Printer → Printer) (s : State) : State :=
  { s with tickets := { s.tickets with printers := alter s.tickets.printers l f } }

def modTables (f : Tables → Tables) (s : State) : State := { s with tables := f s.tables }

def modVisits (f : Visits → Visits) (s : State) : State := { s with visits := f s.visits }

def modTickets (f : Tickets → Tickets) (s : State) : State := { s with tickets := f s.tickets }

def modPort (f : Port → Port) (s : State) : State := { s with port := f s.port }

/-- A frame is put on the lane bus (R50). -/
def sendBus (address kind : Nat) (payload : Bytes) (s : State) : State :=
  { s with sentFrames := s.sentFrames ++ [{ address := address, kind := kind, payload := payload }] }

/-- The stamp of an event: the seconds count and set flag as they stand (R127). -/
def stamp (s : State) : Stamp := { secs := s.tables.clock.secs, set := s.tables.clock.set }

/-- The role of an attachment (R88). -/
def roleOf (s : State) : Attach → Role
  | .cell b p => (s.plan.roles.cells[b])[p]
  | .beams b => s.plan.roles.beams[b]
  | .station l .entry => s.plan.roles.entries[l]
  | .station l .exit => s.plan.roles.exits[l]
  | .terminal l => s.plan.roles.terminals[l]
  | .printer l => s.plan.roles.printers[l]

def setRole (at_ : Attach) (r : Role) (s : State) : State :=
  let roles := s.plan.roles
  let roles := match at_ with
    | .cell b p => { roles with cells := alter roles.cells b (fun row => put row p r) }
    | .beams b => { roles with beams := put roles.beams b r }
    | .station l .entry => { roles with entries := put roles.entries l r }
    | .station l .exit => { roles with exits := put roles.exits l r }
    | .terminal l => { roles with terminals := put roles.terminals l r }
    | .printer l => { roles with printers := put roles.printers l r }
  { s with plan := { s.plan with roles := roles } }

/-- The fill of an attachment is FILLED. -/
def filled (s : State) (at_ : Attach) : Bool := (roleOf s at_).fill == .filled

/-! ## Calibration sources (R1) -/

/-- The calibration source of a bridge: the working copy of a session open on it, else its VALID record. -/
def source (s : State) (b : BridgeId) : Option CalData :=
  match s.cal.session with
  | some x =>
    if x.bridge = b then some x.work
    else if (s.cal.store.records[b]).valid then some (s.cal.store.records[b]).content.data else none
  | none => if (s.cal.store.records[b]).valid then some (s.cal.store.records[b]).content.data else none

/-- A session is open on the bridge. -/
def sessionOn (s : State) (b : BridgeId) : Bool :=
  match s.cal.session with
  | some x => x.bridge == b
  | none => false

/-- The calibrated positions of a bridge: 1 to n of its source. -/
def calibrated (s : State) (b : BridgeId) : List CellPos :=
  match source s b with
  | some d => d.positions
  | none => []

/-- No calibrated position reports overrange or underrange (section 1.5). The positions are those of the source as it stands
now: between a change of source and the next bridge sample, from which R1 has the new source apply, the tests outside a
sample read the new source already (DEDUCED, notes/assumptions/20.md). -/
def inRange (s : State) (b : BridgeId) : Bool :=
  (calibrated s b).all fun p =>
    !((s.engine[b]).samples[p]).overrange && !((s.engine[b]).samples[p]).underrange

/-! ## Beams and the grant as the other blocks read them -/

/-- The image of the beam at an end. -/
def BridgeSeq.beam (x : BridgeSeq) : BeamEnd → BeamImage
  | .a => x.beamA
  | .b => x.beamB

/-- A beam counts clear: its image is CLEAR and the beam pair's fill is FILLED (R103, section 1.4). -/
def beamClear (s : State) (b : BridgeId) (end_ : BeamEnd) : Bool :=
  (s.seq.bridges[b]).beam end_ == .clear && filled s (.beams b)

/-- A beam counts broken (R103). -/
def beamBroken (s : State) (b : BridgeId) (end_ : BeamEnd) : Bool :=
  (s.seq.bridges[b]).beam end_ == .broken

/-- Both beams count clear. -/
def beamsClear (s : State) (b : BridgeId) : Bool := beamClear s b .a && beamClear s b .b

/-- The bridge is empty: not occupied at its latest sample, and both beams count clear (R103). -/
def bridgeEmpty (s : State) (b : BridgeId) : Bool := !(s.engine[b]).occupied && beamsClear s b

/-- A lane holds the bridge's grant. -/
def granted (s : State) (b : BridgeId) : Bool := (s.seq.bridges[b]).holder.isSome

/-- The lane's bridge, when it is configured. -/
def Lane.bridge (lane : Lane) : Option BridgeId := lane.config.map (·.bridge)

/-- The lane holds its bridge's grant (R102). -/
def holdsGrant (s : State) (l : LaneId) : Bool :=
  match (s.seq.lanes[l]).bridge with
  | some b => (s.seq.bridges[b]).holder == some l
  | none => false

/-! ## Outgoing office frames (R198, R205) -/

/-- The five items of a bridge in a LIVE body (R217). -/
def liveItems (s : State) (b : BridgeId) : Bytes :=
  idx1 b ++ u8 (s.engine[b]).live.code ++ opt weight4 (s.engine[b]).w ++ u8 (s.engine[b]).status.code
    ++ u8 (s.engine[b]).occupied.toNat

/-- The body of a LIVE frame sent now (R205, R217). -/
def liveBody (s : State) : Bytes :=
  match s.port.live with
  | some x => (stamp s).bytes ++ u8 x.bridges.length ++ x.bridges.flatMap (liveItems s)
  | none => (stamp s).bytes ++ u8 0

/-- The bytes of a frame whose sending starts now (R217). -/
def frameBytes (s : State) : OutFrame → Bytes
  | .answer tag body => officeBytes 0x80 tag body
  | .restartAnswer tag body => officeBytes 0x80 tag body
  | .notice body => officeBytes 0x81 0 body
  | .live => officeBytes 0x82 0 (liveBody s)
  | .passResult tag body => officeBytes 0x83 tag body

/-- The transmitter starts on a frame. -/
def startSending (f : OutFrame) (s : State) : State :=
  modPort (fun p => { p with sending := some { frame := f, bytes := frameBytes s f } }) s

/-- A frame becomes ready: discarded while the link is DOWN, sent at once by an idle transmitter, and waiting in
the order of readiness otherwise (R198). -/
def makeReady (f : OutFrame) (s : State) : State :=
  if !s.port.up then s
  else if s.port.sending.isNone then startSending f s
  else modPort (fun p => { p with waiting := p.waiting ++ [f] }) s

/-- An answer with its result and result body (R196, R217). -/
def answer (tag : Byte) (r : Result) (body : Bytes) (s : State) : State :=
  makeReady (.answer tag (u8 r.code ++ body)) s

/-- The NOTICE of the record queue as it stands (R202). -/
def noticeBody (s : State) : Bytes :=
  u32 ((s.port.records.head?.map (·.number)).getD 0) ++ u16 s.port.records.length

/-! ## The record queue (R199 to R202) -/

/-- Slots neither queued nor claimed (R200). -/
def unclaimedFree (s : State) : Nat := Config.recordSlots - s.port.records.length - s.port.claims

/-- The record number after `n` (R199). -/
def nextNumber (n : Nat) : Nat := if n = Config.max32 then 1 else n + 1

/-- A record joins the tail of the queue under the next record number, with a NOTICE when the queue was empty and
the link is UP (R199, R202). -/
def enqueueRecord (body : RecordBody) (s : State) : State :=
  let s' := modPort (fun p => { p with
    records := p.records ++ [{ number := p.nextRecord, time := stamp s, body := body }],
    nextRecord := nextNumber p.nextRecord }) s
  if s.port.records.isEmpty then makeReady (.notice (noticeBody s')) s' else s'

/-- An unclaimed record: queued while an unclaimed free slot exists, else dropped and counted (R201). -/
def queueRecord (body : RecordBody) (s : State) : State :=
  if 1 ≤ unclaimedFree s then enqueueRecord body s
  else modPort (fun p => { p with dropped := min Config.max16 (p.dropped + 1) }) s

/-- A claimed record: one claim is spent and the record joins the queue (R200). Every caller holds a claim; were
there none, the record would travel unclaimed. -/
def spendClaim (body : RecordBody) (s : State) : State :=
  if 1 ≤ s.port.claims then enqueueRecord body (modPort (fun p => { p with claims := p.claims - 1 }) s)
  else queueRecord body s

/-- The port can grant `k` claims (R200). -/
def canClaim (k : Nat) (s : State) : Bool := decide (k ≤ unclaimedFree s)

/-- `k` claims are granted when the unclaimed free slots reach (R200); a refusal changes nothing. -/
def takeClaims (k : Nat) (s : State) : State :=
  if k ≤ unclaimedFree s then modPort (fun p => { p with claims := p.claims + k }) s else s

/-- `k` claims are given back (R200). -/
def releaseClaims (k : Nat) (s : State) : State := modPort (fun p => { p with claims := p.claims - k }) s

/-! ## Pass-through outcomes (R207) -/

/-- A pass-through entry has left the list, which is now `left`: a PASS RESULT is made ready (discarded while the link is
DOWN). -/
def passEnds (e : PassEntry) (left : List PassEntry) (body : Bytes) (s : State) : State :=
  makeReady (.passResult e.tag body) (modPort (fun p => { p with pass := left }) s)

/-- The outcome of a pass-through command that was answered or not delivered. Of several entries alike (a request repeated
under one tag) the oldest leaves, since their commands stand in the queue in the order of the list and end from its head. -/
def passOutcome (e : PassEntry) (body : Bytes) (s : State) : State := passEnds e (s.port.pass.erase e) body s

/-- A pass-through command was pushed out at the tail of the queue: of several entries alike the newest leaves, and
NO_RESPONSE is returned. -/
def passDropped (e : PassEntry) (s : State) : State := passEnds e (s.port.pass.reverse.erase e).reverse [4] s

/-! ## The command queue (R63, R64) -/

/-- Refusals of an offered command (R63). -/
inductive OfferRefusal
  | notActive
  | tooLong
  | queueFull
  deriving DecidableEq, Repr

/-- A controller's own NODE RESET joins the tail, or is held while the queue is full (R63). -/
def queueReset (a : NodeId) (level : Nat) (s : State) : State :=
  let r : HeldReset := { node := a, level := level }
  modBus (fun x =>
    if x.queue.length < Config.commandSlots then { x with queue := x.queue ++ [r.command] }
    else { x with heldResets := x.heldResets ++ [r] }) s

/-- After `k` removals, up to `k` held resets are placed at the tail, oldest first (R63). -/
def placeHeld (k : Nat) (x : Bus) : Bus :=
  let room := min k (Config.commandSlots - x.queue.length)
  { x with queue := x.queue ++ (x.heldResets.take room).map HeldReset.command, heldResets := x.heldResets.drop room }

/-- The queued commands that meet `p` leave the queue; held resets take the places they free. -/
def removeCommands (p : Command → Bool) (s : State) : State :=
  modBus (fun x =>
    placeHeld (x.queue.filter p).length { x with queue := x.queue.filter (fun c => !p c) }) s

/-- The controller's own NODE RESET for a node still waiting is removed, from the queue or from the held ones (R60). -/
def dropOwnResets (a : NodeId) (s : State) : State :=
  removeCommands (fun c => c.origin == .controller && c.node == a)
    (modBus (fun x => { x with heldResets := x.heldResets.filter (fun r => r.node ≠ a) }) s)

/-- The head ticket of a printer is the one a command of a given job tag belongs to, and waits for its outcome. -/
def ticketWaits (s : State) (l : LaneId) (tag : Nat) : Bool :=
  match (s.tickets.printers[l]).queue with
  | t :: _ => t.jobTag == some tag && t.stage == .printing && (s.tickets.printers[l]).outstanding
  | [] => false

/-- A station's arm or signal command ends without an answer: its outstanding mark clears and the retry timer of
100 ms starts; a drive command starts its own retry timer (R111, R117). -/
def stationRetry (l : LaneId) (e : LaneEnd) (f : CommandFrame) (s : State) : State :=
  match f with
  | .arm _ => modStation l e (fun x => { x with outArm := none, retry := some Config.stationRetryTime }) s
  | .signal _ => modStation l e (fun x => { x with outSignal := none, retry := some Config.stationRetryTime }) s
  | .driveOff => modStation l e (fun x => { x with outOff := false, retryOff := some Config.driveRetryTime }) s
  | .driveOn => modStation l e (fun x => { x with outOn := false, retryOn := some Config.driveRetryTime }) s
  | _ => s

/-- A NODE RESET of the controller's own that a DRIVE OFF pushed out of the queue is held, behind those held already,
and placed again (R64). The controller offers no other frame. -/
def holdReset (c : Command) (s : State) : State :=
  match c.frame with
  | .nodeReset level => modBus (fun x => { x with heldResets := x.heldResets ++ [{ node := c.node, level := level }] }) s
  | _ => s

/-- The originator of a command that left the queue unsent is told DROPPED (R64): the plan retries after 1 s (R86),
a station (R111, R117) and a ticket (R185) after 100 ms, a pass-through returns NO_RESPONSE (R66), the controller holds its
own reset and places it again (R64); a DISPLAY and a RESET NODE are not acted on (R96, R77). -/
def tellDropped (c : Command) (s : State) : State :=
  match c.origin with
  | .controller => holdReset c s
  | .office => s
  | .plan => modPlanNode c.node (fun n => { n with offer := .none, retry := some Config.attentionRetryTime }) s
  | .display _ => s
  | .station l e => stationRetry l e c.frame s
  | .ticket l tag =>
    if ticketWaits s l tag then
      modPrinter l (fun p => { p with outstanding := false, retry := some Config.printRetryTime }) s
    else s
  | .pass e => passDropped e s

/-- The command is a RAISE for the node. -/
def isRaiseFor (a : NodeId) (c : Command) : Bool := c.node == a && c.frame == .arm .raise

/-- A DRIVE OFF is placed behind the DRIVE OFFs at the head and ahead of every other command (R64). -/
def insertDriveOff (c : Command) : List Command → List Command
  | [] => [c]
  | x :: xs => if x.frame = .driveOff then x :: insertDriveOff c xs else c :: x :: xs

/-- A DRIVE OFF is placed: the tail makes room when 16 commands were queued and its originator is told DROPPED; every
RAISE for its station leaves, the places these free are taken by held resets (R63), among them a reset of the controller's
own just pushed out, and their originators are told DROPPED (R64). -/
def placeDriveOff (c : Command) (s : State) : State :=
  let q := s.bus.queue
  let pushed := if Config.commandSlots ≤ q.length then q.drop (Config.commandSlots - 1) else []
  let q := if Config.commandSlots ≤ q.length then q.take (Config.commandSlots - 1) else q
  let raises := q.filter (isRaiseFor c.node)
  let q := insertDriveOff c (q.filter (fun x => !isRaiseFor c.node x))
  let s := pushed.foldl (fun s c => tellDropped c s) (modBus (fun x => { x with queue := q }) s)
  raises.foldl (fun s c => tellDropped c s) (modBus (placeHeld raises.length) s)

/-- A command offered to the queue is taken or refused by the first check that fails (R63). A DRIVE OFF offered while the queue
holds 16 DRIVE OFFs is refused QUEUE_FULL, as R64's last sentence on it has it, and none is pushed out, though the sentence
before has the newest DRIVE OFF at the tail pushed out when DRIVE OFFs fill the queue (DESIGN CHOICE, notes/assumptions/36.md). -/
def offer (a : NodeId) (f : CommandFrame) (o : Origin) (s : State) : State × Option OfferRefusal :=
  let c : Command := { node := a, frame := f, origin := o, sent := false }
  let node := s.bus.nodes[a]
  let reset := match f with | .nodeReset _ => true | _ => false
  if node.state ≠ .active ∧ !reset then (s, some .notActive)
  else if (node.desc.map (·.maxPayload)).getD 32 < f.payload.length then (s, some .tooLong)
  else if f = .driveOff then
    if Config.commandSlots ≤ s.bus.queue.length ∧ s.bus.queue.all (fun x => x.frame == .driveOff) then
      (s, some .queueFull)
    else (placeDriveOff c s, none)
  else if Config.commandSlots ≤ s.bus.queue.length then (s, some .queueFull)
  else (modBus (fun x => { x with queue := x.queue ++ [c] }) s, none)

/-- A DISPLAY is offered to a lane's terminal while its fill is FILLED; its outcome is not acted on (R96). -/
def offerDisplay (l : LaneId) (d : Display) (s : State) : State :=
  match roleOf s (.terminal l) with
  | { fill := .filled, node := some (a, _) } => (offer a (.display d) (.display l) s).1
  | _ => s

/-! ## The store's writes (R31) -/

/-- A write is asked for: it starts when no other is in flight, and waits otherwise. -/
def askWrite (w : StoreWrite) (s : State) : State :=
  modStore (fun st =>
    if st.inFlight.isNone then { st with inFlight := some w } else { st with asked := st.asked ++ [w] }) s

/-- A write asked for by work that may follow a completion: it does not begin while a warm reset waits, since the reset
takes effect as that completion's work is done (R31). -/
def askWriteBehindReset (w : StoreWrite) (s : State) : State :=
  if s.port.resetAsked.isSome then modStore (fun st => { st with asked := st.asked ++ [w] }) s else askWrite w s

/-- The write in flight is complete: the oldest write asked for starts. -/
def nextWrite (s : State) : State :=
  modStore (fun st => match st.asked with
    | w :: rest => { st with inFlight := some w, asked := rest }
    | [] => { st with inFlight := none }) s

/-- The write in flight is complete: the oldest write asked for starts at once, ahead of any that the completion's own work
asks for, unless a warm reset waits for this completion (R31). -/
def writeEnds (s : State) : State :=
  if s.port.resetAsked.isSome then modStore (fun st => { st with inFlight := none }) s else nextWrite s

/-- A completed write replaces an item and its check value together and makes it VALID (R30, R31). -/
def written {α : Type} (encode : α → Bytes) (x : α) : StoreItem α :=
  { content := x, check := crc16 (encode x), valid := true }

/-- The check of an item run at a reset (R30). -/
def checkItem {α : Type} (encode : α → Bytes) (i : StoreItem α) : StoreItem α :=
  { i with valid := i.check == crc16 (encode i.content) }

/-- An item whose write was cut off is left with a failed check (R31). -/
def brokenItem {α : Type} (encode : α → Bytes) (i : StoreItem α) : StoreItem α :=
  { i with check := ~~~ crc16 (encode i.content) }

/-- Supply is lost: a write in flight leaves its item with a failed check, and the writes asked for are lost (R31). -/
def cutWrite (st : Store) : Store :=
  let st := match st.inFlight with
    | some (.record b _) => { st with records := alter st.records b (brokenItem CalRecord.bytes) }
    | some (.counter _ _) => { st with counter := brokenItem u16 st.counter }
    | some (.ticket _) => { st with ticket := brokenItem u32 st.ticket }
    | some (.setTicket _ _) => { st with ticket := brokenItem u32 st.ticket }
    | none => st
  { st with inFlight := none, asked := [] }

/-- The checks of all six items are run (R30). -/
def checkStore (st : Store) : Store :=
  { st with
    records := st.records.map (checkItem CalRecord.bytes)
    counter := checkItem u16 st.counter
    ticket := checkItem u32 st.ticket }

/-! ## How a step runs -/

/-- A command acts on a part that is supplied, and the frames it puts on the bus are gathered afresh. A part without
supply does nothing. -/
def act (f : State → State) (s : State) : Host.Outcome State Fault Refusal :=
  if s.powered then .next (f { s with sentFrames := [] }) else .next s

end Sys2Proof.Machine
end

