-- ==== Sys2Proof/Machine/Flags.lean ====
section
/-! DEFINITION. Every judgement and mark the rules compute from values: live state (R11), trade mark (R21), tare status (R131), over-limit flag (R138), net weight, tare test and charge (R161, R162), overweight mark (R159), and whether a lane is admittable (R97). -/
namespace Sys2Proof.Machine

/-- Stage 7: W is the net rounded to the division (R10). -/
def toDivision (e : Nat) (netFine : Int) : Int := e * roundDiv netFine (10 * e)

/-- Stage 8: the first line of R11 that applies. -/
def liveState (e max : Nat) (w : Int) (overrange underrange zeroSet stable : Bool) : LiveState :=
  if (max + 9 * e : Int) < w ∨ overrange then .overMax
  else if w < -(20 * e : Int) ∨ underrange then .underMin
  else if !zeroSet then .zeroUnset
  else if stable then .stable
  else .motion

/-- The trade mark of a weight record (R21). -/
def tradeMark (legality : Legality) (zeroReturn : Bool) (e max : Nat) (w : Int) : Bool :=
  legality == .ready && zeroReturn && decide ((20 * e : Int) ≤ w) && decide (w ≤ (max : Int))

/-- Tare statuses (R131). -/
inductive TareStatus
  | none
  | current
  | expired
  deriving DecidableEq, Repr

def TareStatus.code : TareStatus → Nat
  | .none => 1 | .current => 2 | .expired => 3

/-- The day number of a seconds count. -/
def dayNumber (secs : Nat) : Nat := secs / 86400

/-- The tare status of a vehicle entry (R131). -/
def tareStatus (c : Clock) (v : Vehicle) : TareStatus :=
  match v.tare with
  | none => .none
  | some _ =>
    if !c.set then .expired
    else match v.expiry with
      | none => .current
      | some d => if dayNumber c.secs ≤ d then .current else .expired

/-- The available credit of an account (R135). -/
def availableCredit (a : Account) : Int := (a.limit : Int) - a.balance - a.reserved

/-- The over-limit flag as R138 evaluates it. -/
def overLimit (a : Account) : Bool := a.kind != .council && decide ((a.limit : Int) < a.balance)

/-- The net weight in kg from the first and second weights (R161). -/
def netWeight (kind : MaterialKind) (tare : TareSource) (first second : Int) : Int :=
  match tare.value, kind with
  | some t, .delivery => first - t
  | some t, .collection => second - t
  | none, .delivery => first - second
  | none, .collection => second - first

/-- The unladen weight of the two (R161). -/
def unladen (kind : MaterialKind) (first second : Int) : Int :=
  match kind with
  | .delivery => second
  | .collection => first

/-- The tare test fails: 100 × |U − T| > P × T (R161). -/
def tareTestFails (tolerance tare : Nat) (u : Int) : Bool :=
  decide ((tolerance * tare : Int) < 100 * |u - tare|)

/-- The charge from the net weight and a row (R162). -/
def chargeFor (row : TariffRow) (net : Nat) : Charge :=
  let gate := max row.minimum (roundHalfUp (net * row.gate) 1000)
  let levy := roundHalfUp (net * row.levy) 1000
  { net := net, gate := gate, levy := levy, total := gate + levy }

/-- The overweight mark: a maximum gross is present and the loaded weight exceeds it (R159). -/
def overGross (maxGross : Option Nat) (w : Int) : Bool :=
  match maxGross with
  | some g => decide ((g : Int) < w)
  | none => false

/-- A lane is admittable: configured, its open flag set, its bridge READY (R97). -/
def admittable (s : State) (l : LaneId) : Bool :=
  match (s.seq.lanes[l]).config with
  | some c => (s.seq.lanes[l]).isOpen && (s.engine[c.bridge]).status == .ready
  | none => false

/-- The resume state of a HELD visit, or its state (R153). -/
def Visit.underlying (v : Visit) : VisitState :=
  match v.state, v.hold with
  | .held, some (_, r) => r
  | st, _ => st

/-- A state before WEIGHED_OUT (R153). -/
def VisitState.early : VisitState → Bool
  | .admitted => true
  | .onSite => true
  | .leaving => true
  | _ => false

end Sys2Proof.Machine
end

