-- ==== Sys2Proof/Machine/Money.lean ====
section
/-! DEFINITION. The table unit's calls (Chapter 6): vehicle and material lookups, reserve, post and release against accounts, the tariff banks' references, and the tariff switch test. -/
namespace Sys2Proof.Machine

/-- The vehicle entry of an id (R131). -/
def findVehicle (s : State) (id : Text) : Option Vehicle := s.tables.vehicles.find? (fun v => v.id = id)

/-- The account entry of a number. -/
def findAccount (s : State) (n : Nat) : Option Account := s.tables.accounts.find? (fun a => a.number = n)

/-- An account entry changed in place. -/
def modAccount (n : Nat) (f : Account → Account) (s : State) : State :=
  modTables (fun t => { t with accounts := t.accounts.map (fun a => if a.number = n then f a else a) }) s

/-- The over-limit flag is evaluated; ACCOUNT_OVER_LIMIT is queued when a clear flag is set (R138). -/
def evaluateOverLimit (n : Nat) (s : State) : State :=
  match findAccount s n with
  | none => s
  | some a =>
    let s' := modAccount n (fun a => { a with overLimit := overLimit a }) s
    if overLimit a && !a.overLimit then queueRecord (.accountOverLimit n a.balance a.limit) s' else s'

/-- The tests of a CHECKED reserve with the given amount (R139); true when one fails. -/
def reserveRefused (s : State) (n amount : Nat) : Bool :=
  match findAccount s n with
  | none => true
  | some a => a.isHeld || a.overLimit || (a.kind != .council && decide (availableCredit a < amount))

/-- A reserve whose tests have passed (R139). -/
def reserve (n amount : Nat) (s : State) : State :=
  modAccount n (fun a => { a with reserved := a.reserved + amount, visits := a.visits + 1 }) s

/-- The post call takes the balance over +2,000,000,000 (R140). -/
def postSaturates (s : State) (n total : Nat) : Bool :=
  match findAccount s n with
  | some a => decide (Config.maxBalance < a.balance + total)
  | none => false

/-- The post call: the reserve leaves the reserved total, the charge joins the balance with saturation, and the
over-limit flag is evaluated (R140). -/
def post (n amount total : Nat) (s : State) : State :=
  evaluateOverLimit n (modAccount n (fun a =>
    { a with reserved := a.reserved - amount, balance := min Config.maxBalance (a.balance + total) }) s)

/-- The release call (R141). -/
def release (n amount : Nat) (posted : Bool) (s : State) : State :=
  modAccount n (fun a =>
    { a with reserved := if posted then a.reserved else a.reserved - amount, visits := a.visits - 1 }) s

/-- The row of a material in a bank (R145). -/
def rowIn (s : State) (b : BankId) (material : Nat) : Option TariffRow :=
  (s.tables.banks[b]).rows.find? (fun r => r.material = material)

/-- The row of a material in the active bank (R145, material lookup). -/
def activeRow (s : State) (material : Nat) : Option TariffRow := rowIn s s.tables.active material

/-- A bank's reference count rises by one: fix bank on the active bank, restore bank on a given one (R145). -/
def refBank (b : BankId) (s : State) : State :=
  modTables (fun t => { t with banks := alter t.banks b (fun x => { x with refs := x.refs + 1 }) }) s

/-- The unfix bank call (R145). -/
def unrefBank (b : BankId) (s : State) : State :=
  modTables (fun t => { t with banks := alter t.banks b (fun x => { x with refs := x.refs - 1 }) }) s

/-- The bank that is not the given one. -/
def otherBank (b : BankId) : BankId := if b = 0 then 1 else 0

/-- The tariff switch test, and the firing of the switch (R148). -/
def switchTest (s : State) : State :=
  match s.tables.switchTime with
  | some t =>
    if s.tables.clock.set ∧ t ≤ s.tables.clock.secs then
      queueRecord (.tariffSwitched s.tables.active (otherBank s.tables.active) t s.tables.clock.secs)
        (modTables (fun x => { x with active := otherBank x.active, switchTime := none }) s)
    else s
  | none => s

end Sys2Proof.Machine
end

