-- ==== Sys2Proof/Machine/Numbering.lean ====
section
/-! DEFINITION. The visit table's own operations (R151, R152), the hand-over of a completed visit to the ticket unit (R179, R166) and the numbering of tickets (R180, R181). -/
namespace Sys2Proof.Machine

/-- The open visit of a number. -/
def findVisit (s : State) (n : Nat) : Option Visit := s.visits.table.find? (fun v => v.number = n)

/-- The open visit of a vehicle id. -/
def visitOf (s : State) (id : Text) : Option Visit := s.visits.table.find? (fun v => v.vehicle = id)

/-- A visit changed in place. -/
def modVisit (n : Nat) (f : Visit → Visit) (s : State) : State :=
  modVisits (fun t => { t with table := t.table.map (fun v => if v.number = n then f v else v) }) s

/-- A visit takes its place in the order of visit numbers. -/
def insertVisit (v : Visit) (s : State) : State :=
  modVisits (fun t => { t with table := insertBy (fun a b => a.number < b.number) v t.table }) s

/-- A visit leaves the table. -/
def removeVisit (n : Nat) (s : State) : State :=
  modVisits (fun t => { t with table := t.table.filter (fun v => v.number ≠ n) }) s

/-- A visit queues a claimed record by spending one of its claims (R156). -/
def spendVisitClaim (n : Nat) (body : RecordBody) (s : State) : State :=
  spendClaim body (modVisit n (fun v => { v with claims := v.claims - 1 }) s)

/-- The visit number after `n`: 65,535 is followed by 1 (R152). -/
def nextVisitNumber (n : Nat) : Nat := if n = Config.max16 then 1 else n + 1

/-- The first number, counting upward from `n`, that is not held; at most `fuel` numbers are passed over (R152). -/
def freeVisitNumber (held : List Nat) : Nat → Nat → Nat
  | 0, n => n
  | fuel + 1, n => if held.contains n then freeVisitNumber held fuel (nextVisitNumber n) else n

/-- The number the next assignment takes (R152). -/
def assignVisitNumber (s : State) : Nat :=
  freeVisitNumber (s.visits.table.map (·.number)) (Config.visitSlots + 1) s.visits.next

/-- The tare in kg that records and tickets show: the tare's value, or the unladen weight for TWO_PASS (R183, R218).
The net of a completed visit is at least 0, so the unladen weight is the lesser of the two. -/
def tareShown (tare : TareSource) (first second : Int) : Int :=
  match tare.value with
  | some t => t
  | none => min first second

/-- The content of a ticket, taken from a completed visit as it stands (R179). -/
def contentOf (v : Visit) : Option TicketContent :=
  match v.first, v.second, v.charge with
  | some w1, some w2, some c =>
    some { visit := v.number, vehicle := v.vehicle, account := v.account, material := v.material, first := w1,
           second := w2, tare := v.tare, tareValue := tareShown v.tare w1.weight w2.weight, charge := c,
           overweight := v.overweight }
  | _, _, _ => none

/-- A ticket changed in its printer's queue: the ORIGINAL of a visit. -/
def modOriginal (l : LaneId) (visit : Nat) (f : Ticket → Ticket) (s : State) : State :=
  modPrinter l (fun p => { p with queue := p.queue.map (fun t =>
    if t.kind = .original ∧ t.content.visit = visit then f t else t) }) s

/-- Numbering step 1 and 2: the head of the numbering list becomes the numbering in flight and the write of the number
after the one read is asked for, while none is in flight and the next ticket number is VALID (R180, R181). With a warm reset waiting that
write is asked for and does not begin, and the reset then gives it up with the numbering (R31, R192; DEDUCED,
notes/assumptions/14.md). -/
def startNumbering (s : State) : State :=
  match s.tickets.inFlight, s.tickets.numbering with
  | none, (v, l) :: rest =>
    if s.cal.store.ticket.valid then
      let k := s.cal.store.ticket.content
      askWriteBehindReset (.ticket (if k = Config.maxTicket then 1 else k + 1))
        (modOriginal l v (fun t => { t with stage := .numbering })
          (modTickets (fun t => { t with inFlight := some (v, l, k), numbering := rest }) s))
    else s
  | _, _ => s

/-- The ticket has been taken: the visit enters TICKETING, or takes it as its resume state while HELD (R166). -/
def ticketTaken (n : Nat) (s : State) : State :=
  modVisit n (fun v => match v.state, v.hold with
    | .weighedOut, _ => { v with state := .ticketing }
    | .held, some (r, .weighedOut) => { v with hold := some (r, .ticketing) }
    | _, _ => v) s

/-- A visit handed to the ticket unit for a printer: an ORIGINAL at the tail of a queue with room, joining the numbering
list, or a place in the hand-over list (R179). -/
def handOver (n : Nat) (l : LaneId) (s : State) : State :=
  match (findVisit s n).bind contentOf with
  | none => s
  | some c =>
    if (s.tickets.printers[l]).queue.length < Config.ticketSlots then
      let t : Ticket := { kind := .original, number := none, stage := .unnumbered, content := c, parts := [],
                          pos := 0, jobTag := none }
      startNumbering (ticketTaken n
        (modTickets (fun x => { x with numbering := x.numbering ++ [(n, l)] })
          (modPrinter l (fun p => { p with queue := p.queue ++ [t] }) s)))
    else modTickets (fun x => { x with handOver := x.handOver ++ [(n, l)] }) s

end Sys2Proof.Machine
end

