-- ==== Sys2Proof/Machine/Visits.lean ====
section
/-! DEFINITION. The visit unit's work (Chapter 7): admission, outbound lookup, first and second captures, completion, holds, let-off, close and void. The requests of the chapter are in Machine/VisitRequests.lean. -/
namespace Sys2Proof.Machine

/-- What an admission returns to the lane (R98, R154). -/
inductive Admission
  | admitted (visit : Nat)
  | ask
  /-- Refused, with the number of the message the lane displays. -/
  | refused (message : Nat)
  deriving DecidableEq, Repr

/-- An office-opened visit of the vehicle waiting in ADMITTED with no lane (R154 step 1). -/
def waitingVisit (s : State) (id : Text) : Option Visit :=
  s.visits.table.find? (fun v => v.vehicle = id && v.officeOpened && v.state == .admitted && v.lane.isNone)

/-- The common effects of opening a visit, in the order of R155: its number is assigned, the reserve made, four claims
taken, the record written and VISIT_OPENED queued. -/
def openVisit (build : Nat → Visit) (s : State) : State :=
  let n := assignVisitNumber s
  let v := build n
  let s := modVisits (fun t => { t with next := nextVisitNumber n }) s
  let s := if v.account = 0 then s else reserve v.account v.reserve s
  let s := insertVisit v (takeClaims 4 s)
  spendVisitClaim n (.visitOpened n v.vehicle v.account v.material v.tare v.reserve v.inLane v.attendance v.opened
    v.restored) s

/-- A visit record as it is first written, with its marks clear and no weight (R151, R155). -/
def freshVisit (s : State) (n : Nat) (id : Text) (account material reserve : Nat) (tare : TareSource)
    (lane : Option LaneId) (attendance officeOpened : Bool) : Visit :=
  { number := n, vehicle := id, account := account, material := material, tare := tare, reserve := reserve,
    bank := none, maxGross := none, first := none, second := none, held := none, inLane := lane, outLane := none,
    lane := lane, state := .admitted, hold := none, charge := none, posted := false, saturated := false,
    overweight := false, claims := 4, opened := stamp s, officeOpened := officeOpened, attendance := attendance,
    restored := false }

/-- The tare source of a lane admission: STORED while the tare status is CURRENT, else TWO_PASS (R155). -/
def admissionTare (s : State) (v : Vehicle) : TareSource :=
  match tareStatus s.tables.clock v, v.tare with
  | .current, some t => .stored t
  | _, _ => .twoPass

/-- The checks of a lane admission from step 2 on, for a known vehicle; the first that fails gives the outcome (R154). -/
def admitKnown (v : Vehicle) (lane : LaneId) (given : Option Nat) (s : State) : State × Admission :=
  let amount := ((findAccount s v.account).map (·.reserve)).getD 0
  if (visitOf s v.id).isSome then (s, .refused 21)
  else if Config.visitSlots ≤ s.visits.table.length then (s, .refused 22)
  else if v.account = 0 ∨ reserveRefused s v.account amount then (s, .refused 23)
  else match given.or v.material with
    | none => (s, .ask)
    | some m =>
      match activeRow s m with
      | none => (s, .refused 24)
      | some row =>
        if row.restricted ∧ !v.permit then (s, .refused 25)
        else if v.attendance ∧ !s.port.up then (s, .refused 26)
        else if !canClaim 4 s then (s, .refused 27)
        else
          (openVisit (fun n => freshVisit s n v.id v.account m amount (admissionTare s v) (some lane) v.attendance false) s,
            .admitted (assignVisitNumber s))

/-- A lane admission (R154): step 1 first, which ends it when an office-opened visit waits for the vehicle. -/
def askAdmission (id : Text) (lane : LaneId) (given : Option Nat) (s : State) : State × Admission :=
  match waitingVisit s id with
  | some v =>
    (modVisit v.number (fun v => { v with inLane := some lane, lane := some lane }) s, .admitted v.number)
  | none =>
    match findVehicle s id with
    | none => (s, .refused 20)
    | some v => admitKnown v lane given s

/-- An outbound lane finds the vehicle's visit: ON_SITE, or LEAVING with no lane; it enters LEAVING (R158). -/
def findForExit (id : Text) (lane : LaneId) (s : State) : State × Option Nat :=
  match s.visits.table.find? (fun v =>
      v.vehicle = id && (v.state == .onSite || (v.state == .leaving && v.lane.isNone))) with
  | some v =>
    (modVisit v.number (fun v => { v with state := .leaving, outLane := some lane, lane := some lane }) s,
      some v.number)
  | none => (s, none)

/-- An entry into HELD: reason, resume state, and VISIT_HELD queued as an unclaimed record (R164). -/
def visitHold (n : Nat) (reason : HoldReason) (s : State) : State :=
  match findVisit s n with
  | none => s
  | some v =>
    queueRecord (.visitHeld n v.vehicle reason v.state v.lane (v.held.map (·.2)))
      (modVisit n (fun v => { v with state := .held, hold := some (reason, v.state) }) s)

/-- The outcome of a capture for the lane (R106). -/
inductive CaptureOutcome
  | release
  | ticket
  | hold (reason : HoldReason)
  deriving DecidableEq, Repr

/-- A capture hold: the capture becomes the held weight for its slot (R164). -/
def captureHold (n : Nat) (slot : WeightSlot) (w : WeightRecord) (reason : HoldReason) (s : State) :
    State × Option CaptureOutcome :=
  (visitHold n reason (modVisit n (fun v => { v with held := some (slot, w) }) s), some (.hold reason))

/-- The reason of a hold for want of the trade mark: NOT_FOR_TRADE when the legality is RESTRICTED or the weight lies
outside 20e to Max, NO_ZERO_RETURN otherwise (R159 step 4). Max is the source's that the capture was taken with. -/
def tradeHold (s : State) (w : WeightRecord) : HoldReason :=
  let max := ((bridgeOf' w.bridge).bind (source s)).map (·.max)
  let outside := decide (w.weight < (20 * w.e : Int)) || (match max with
    | some m => decide ((m : Int) < w.weight)
    | none => false)
  if w.legality == .restricted || outside then .notForTrade else .noZeroReturn
where
  /-- The bridge of a record's bridge number. -/
  bridgeOf' (n : Nat) : Option BridgeId := if h : 1 ≤ n ∧ n ≤ 4 then some ⟨n - 1, by omega⟩ else none

/-- The first weight is accepted: overweight tested for a DELIVERY row, FIRST_WEIGHT queued with one claim, the visit
ON_SITE (R159 step 5). -/
def acceptFirst (n : Nat) (w : WeightRecord) (kind : MaterialKind) (s : State) : State :=
  let s := modVisit n (fun v =>
    { v with first := some w, held := none, hold := none, state := .onSite,
             overweight := v.overweight || (kind == .delivery && overGross v.maxGross w.weight) }) s
  match findVisit s n with
  | some v => spendVisitClaim n (.firstWeight n v.vehicle w v.bank v.overweight) s
  | none => s

/-- A first capture, steps 1 to 5 of R159. Where the lookup gives no maximum gross, the field stays absent; a visit that holds
one already, from a restore or an earlier held first capture, keeps it, which R159 does not say (DESIGN CHOICE,
notes/assumptions/26.md). -/
def firstCapture (v : Visit) (w : WeightRecord) (s : State) : State × Option CaptureOutcome :=
  let bank := v.bank.getD s.tables.active
  let s := if v.bank.isNone then refBank bank s else s
  let gross := (findVehicle s v.vehicle).bind (·.maxGross)
  let s := modVisit v.number (fun v => { v with bank := some bank, maxGross := gross.or v.maxGross }) s
  match rowIn s bank v.material with
  | none => captureHold v.number .first w .noTariff s
  | some row =>
    if !w.trade then captureHold v.number .first w (tradeHold s w) s
    else (acceptFirst v.number w row.kind s, some .release)

/-- Completion with a second weight, steps 1 to 5 of R163; its sixth, the outcome TICKET, is the caller's to tell. -/
def complete (v : Visit) (first second : WeightRecord) (row : TariffRow) (tare : TareSource) (s : State) : State :=
  let net := netWeight row.kind tare first.weight second.weight
  let charge := chargeFor row net.toNat
  let heavy := v.overweight || (row.kind == .collection && overGross v.maxGross second.weight)
  let saturated := v.account != 0 && postSaturates s v.account charge.total
  let s := modVisit v.number (fun v =>
    { v with second := some second, held := none, overweight := heavy, tare := tare, charge := some charge }) s
  let s := if v.account = 0 then s else post v.account v.reserve charge.total s
  let s := modVisit v.number (fun x => { x with posted := v.account != 0, saturated := saturated }) s
  let s := spendVisitClaim v.number (.secondWeight v.number second tare
    (tareShown tare first.weight second.weight) charge v.bank saturated heavy) s
  let s := modVisit v.number (fun v => { v with state := .weighedOut, hold := none }) s
  match v.outLane with
  | some l => handOver v.number l s
  | none => s

/-- A second capture, steps 1 to 5 of R160. -/
def secondCapture (v : Visit) (w : WeightRecord) (s : State) : State × Option CaptureOutcome :=
  match v.bank.bind (fun b => rowIn s b v.material), v.first with
  | none, _ => captureHold v.number .second w .noTariff s
  | some _, none => (s, none)
  | some row, some w1 =>
    let u := unladen row.kind w1.weight w.weight
    let mismatch := match v.tare.value with
      | some t => tareTestFails s.visits.tolerance t u
      | none => false
    if !w.trade then captureHold v.number .second w (tradeHold s w) s
    else if mismatch then captureHold v.number .second w .tareMismatch s
    else if netWeight row.kind v.tare w1.weight w.weight < 0 then captureHold v.number .second w .netNegative s
    else (complete v w1 w row v.tare s, some .ticket)

/-- A capture that reaches the visit unit: the first for a visit in ADMITTED, the second for one in LEAVING (R159, R160). -/
def captureVisit (n : Nat) (w : WeightRecord) (s : State) : State × Option CaptureOutcome :=
  match findVisit s n with
  | none => (s, none)
  | some v =>
    match v.state with
    | .admitted => firstCapture v w s
    | .leaving => secondCapture v w s
    | _ => (s, none)

/-- The lane tells of its hold for UNSTABLE, OFFICE or YARD_STOP; a visit already HELD does not take it (R164). -/
def holdTold (n : Nat) (reason : HoldReason) (s : State) : State :=
  match findVisit s n with
  | some v => if v.state = .held then s else visitHold n reason s
  | none => s

/-- The lane tells that a hold has been released: a visit HELD with that reason returns to its resume state (R164). -/
def releaseTold (n : Nat) (reason : HoldReason) (s : State) : State :=
  modVisit n (fun v => match v.state, v.hold with
    | .held, some (r, resume) => if r = reason then { v with state := resume, hold := none } else v
    | _, _ => v) s

/-- A void, steps 1 to 5 of R168: release, unfix, claims but one given back, VISIT_VOID with the last, and the visit
leaves the table. Telling the lane is the caller's. -/
def voidVisit (n : Nat) (reason : VoidReason) (s : State) : State :=
  match findVisit s n with
  | none => s
  | some v =>
    let s := if v.account = 0 then s else release v.account v.reserve false s
    let s := match v.bank with
      | some b => unrefBank b s
      | none => s
    let s := releaseClaims (v.claims - 1) s
    let s := spendClaim (.visitVoid n v.vehicle v.account v.material reason v.underlying v.first (v.held.map (·.2))) s
    removeVisit n s

/-- The fields of VISIT_CLOSED for a visit whose ticket has ended (R167). -/
def closedOf (v : Visit) (ticket : Option Nat) (failure : Option TicketFailure) : Option ClosedVisit :=
  (contentOf v).map fun c =>
    { content := c, bank := v.bank, posted := v.posted, saturated := v.saturated, restored := v.restored,
      ticket := ticket, failure := failure }

/-- The visit closes at its ticket's end, steps 1 to 4 of R167. -/
def closeVisit (n : Nat) (ticket : Option Nat) (failure : Option TicketFailure) (s : State) : State :=
  match findVisit s n with
  | none => s
  | some v =>
    let s := match closedOf v ticket failure with
      | some c => spendVisitClaim n (.visitClosed c) s
      | none => s
    let s := if v.account = 0 then s else release v.account v.reserve v.posted s
    let s := match v.bank with
      | some b => unrefBank b s
      | none => s
    removeVisit n s

/-- What becomes of a visit whose vehicle is let off (R165): whether the lane gives it up, and whether the lane without
the grant returns to WAIT_BRIDGE with it. -/
inductive LetOff
  | givenUp
  | kept
  | waits
  deriving DecidableEq, Repr

/-- The vehicle is let off: any hold and held weight clear, and the visit's state, or its resume state when HELD, decides
(R165). -/
def visitLetOff (n : Nat) (grant : Bool) (s : State) : State × LetOff :=
  match findVisit s n with
  | none => (s, .givenUp)
  | some v =>
    let back := modVisit n (fun v => { v with state := v.underlying, hold := none, held := none }) s
    match v.underlying with
    | .admitted => if grant then (voidVisit n .letOff back, .givenUp) else (back, .waits)
    | .onSite => (back, .kept)
    | .leaving =>
      (modVisit n (fun v => { v with state := .onSite, outLane := none, lane := none }) back, .givenUp)
    | .weighedOut => (modVisit n (fun v => { v with lane := none }) back, .givenUp)
    | .ticketing => (modVisit n (fun v => { v with lane := none }) back, .givenUp)
    | .held => (back, .kept)

/-- A lane drops the visit it carries: the visit's lane field becomes absent (R153). -/
def laneDrops (n : Nat) (l : LaneId) (s : State) : State :=
  modVisit n (fun v => if v.lane = some l then { v with lane := none } else v) s

end Sys2Proof.Machine
end

