-- ==== Sys2Proof/Machine/Stations.lean ====
section
/-! DEFINITION. Barrier stations (sections 5.6 and 5.9): the offers a station's settings and image call for (R110), the drive commands (R117) and the displays of a lane (R96). -/
namespace Sys2Proof.Machine

/-- The beam at the lane's near end (R95). -/
def LaneConfig.near (c : LaneConfig) : BeamEnd :=
  match c.direction with
  | .aToB => .a
  | .bToA => .b

/-- The beam at the lane's far end (R95). -/
def LaneConfig.far (c : LaneConfig) : BeamEnd :=
  match c.direction with
  | .aToB => .b
  | .bToA => .a

/-- The node that fills an attachment, while its fill is FILLED. -/
def filledNode (s : State) (at_ : Attach) : Option NodeId :=
  match (roleOf s at_).fill, (roleOf s at_).node with
  | .filled, some (a, _) => some a
  | _, _ => none

/-- DRIVE OFF is offered to a station; a full queue starts its retry timer (R117). -/
def offerDriveOff (l : LaneId) (e : LaneEnd) (a : NodeId) (s : State) : State :=
  match offer a .driveOff (.station l e) s with
  | (s, none) => modStation l e (fun x => { x with outOff := true, retryOff := none }) s
  | (s, some .queueFull) => modStation l e (fun x => { x with retryOff := some Config.driveRetryTime }) s
  | (s, some _) => s

/-- DRIVE ON is offered to a station; a full queue starts its retry timer (R117). -/
def offerDriveOn (l : LaneId) (e : LaneEnd) (a : NodeId) (s : State) : State :=
  match offer a .driveOn (.station l e) s with
  | (s, none) => modStation l e (fun x => { x with outOn := true, retryOn := none }) s
  | (s, some .queueFull) => modStation l e (fun x => { x with retryOn := some Config.driveRetryTime }) s
  | (s, some _) => s

/-- The first offer of R110: the drive. -/
def offerDrive (l : LaneId) (e : LaneEnd) (a : NodeId) (s : State) : State :=
  let x := (s.seq.lanes[l]).station e
  if x.outOff ∨ x.outOn then s
  else if s.yardStop then
    if x.drive ≠ .off ∧ x.retryOff.isNone then offerDriveOff l e a s else s
  else if (x.drive ≠ .on ∨ x.driveOffMark) ∧ x.retryOn.isNone then offerDriveOn l e a s
  else s

/-- The second offer of R110: the signal. -/
def offerSignal (l : LaneId) (e : LaneEnd) (a : NodeId) (s : State) : State :=
  let x := (s.seq.lanes[l]).station e
  if x.signal = some x.wantSignal ∨ x.outSignal.isSome then s
  else match offer a (.signal x.wantSignal) (.station l e) s with
    | (s, none) => modStation l e (fun x => { x with outSignal := some x.wantSignal }) s
    | (s, some .queueFull) => modStation l e (fun x => { x with retry := some Config.stationRetryTime }) s
    | (s, some _) => s

/-- The arm command the settings and image of a station call for, if any (R110). -/
def Station.armCall (x : Station) : Option ArmCommand :=
  if x.outArm.isSome || x.driveOffMark || x.arm == .off || x.arm == .fault then none
  else match x.wantArm with
    | .up => if x.arm == .up || x.arm == .raising then none else some .raise
    | .down => if x.arm == .down || x.arm == .lowering || x.loop != .clear then none else some .lower
    | .none => none

/-- An arm command is offered to a station. The refusal is given back: NOT_ACTIVE may fault the lane (R111). -/
def offerArm (l : LaneId) (e : LaneEnd) (a : NodeId) (c : ArmCommand) (s : State) : State × Option OfferRefusal :=
  match offer a (.arm c) (.station l e) s with
  | (s, none) => (modStation l e (fun x => { x with outArm := some c }) s, none)
  | (s, some .queueFull) =>
    (modStation l e (fun x => { x with retry := some Config.stationRetryTime }) s, some .queueFull)
  | (s, some r) => (s, some r)

/-- The third offer of R110: the arm. The mark tells that an arm command was refused NOT_ACTIVE. -/
def offerArmDue (l : LaneId) (e : LaneEnd) (a : NodeId) (s : State) : State × Bool :=
  match ((s.seq.lanes[l]).station e).armCall with
  | none => (s, false)
  | some c =>
    match offerArm l e a c s with
    | (s, some .notActive) => (s, true)
    | (s, _) => (s, false)

/-- The offers of R110 for one station, in its order. The mark tells that an arm command was refused NOT_ACTIVE. -/
def offerStation (l : LaneId) (e : LaneEnd) (s : State) : State × Bool :=
  match filledNode s (.station l e) with
  | none => (s, false)
  | some a => offerArmDue l e a (offerSignal l e a (offerDrive l e a s))

/-- The lane's stations in order. -/
def laneEnds : List LaneEnd := [.entry, .exit]

/-- The lanes of a bridge, in lane-number order. -/
def lanesOf (s : State) (b : BridgeId) : List LaneId :=
  (List.finRange 8).filter (fun l => (s.seq.lanes[l]).bridge == some b)

/-- The desired arm positions and signal aspects of a lane's two stations are set (R96). -/
def wantStations (l : LaneId) (entryArm exitArm : WantedArm) (entrySignal exitSignal : Aspect) (s : State) : State :=
  modStation l .exit (fun x => { x with wantArm := exitArm, wantSignal := exitSignal })
    (modStation l .entry (fun x => { x with wantArm := entryArm, wantSignal := entrySignal }) s)

/-- The settings of a state, as the table of R96 gives them. -/
def wantFor (l : LaneId) : LaneState → State → State
  | .entering => wantStations l .up .down .green .red
  | .releasing => wantStations l .down .up .red .green
  | .held => wantStations l .none .none .red .red
  | .fault => wantStations l .none .none .red .red
  | .closed => wantStations l .down .down .red .red
  | .idle => wantStations l .down .down .red .red
  | .asking => wantStations l .down .down .red .red
  | .waitBridge => wantStations l .down .down .red .red
  | .weighing => wantStations l .down .down .red .red
  | .ticketing => wantStations l .down .down .red .red

/-- The lane's far beam counts broken (R103). -/
def farBroken (s : State) (l : LaneId) : Bool :=
  match (s.seq.lanes[l]).config with
  | some c => beamBroken s c.bridge c.far
  | none => false

/-- The display of the lane's state, as the table of R96 gives it: 7 REVERSE stands for as long as the far beam is broken. -/
def laneDisplay (s : State) (l : LaneId) : Option Display :=
  let lane := s.seq.lanes[l]
  match lane.state with
  | .closed => some .laneClosed
  | .idle => some .presentTag
  | .asking => some .enterMaterial
  | .waitBridge => lane.visit.map .waitForGreen
  | .entering => some .driveOn
  | .weighing => some (if farBroken s l then .reverse else .weighing)
  | .ticketing => some .printing
  | .releasing => some .proceed
  | .held => lane.hold.map (fun h => .held h.1)
  | .fault => lane.fault.map (fun f => .outOfOrder f.1)

/-- The display of the lane's state is offered (R96). -/
def showState (l : LaneId) (s : State) : State :=
  match laneDisplay s l with
  | some d => offerDisplay l d s
  | none => s

end Sys2Proof.Machine
end

