-- ==== Sys2Proof/Machine/Lanes.lean ====
section
/-! DEFINITION. The lane state machine (Chapter 5): entering states, faults and holds, the grant, resuming and letting off, identification, resolutions and ticket outcomes. -/
namespace Sys2Proof.Machine

/-- The states of R112 in which a lane faults. -/
def LaneState.faults : LaneState → Bool
  | .idle => true
  | .asking => true
  | .waitBridge => true
  | .entering => true
  | .weighing => true
  | .ticketing => true
  | .releasing => true
  | .closed => false
  | .held => false
  | .fault => false

/-- ENTERING, WEIGHING, TICKETING or RELEASING: the states that hold the grant (R102). -/
def LaneState.onBridge : LaneState → Bool
  | .entering => true
  | .weighing => true
  | .ticketing => true
  | .releasing => true
  | _ => false

/-- An arm image of the lane's stations is FAULT. -/
def Lane.armFaulted (lane : Lane) : Bool := lane.entry.arm == .fault || lane.exit.arm == .fault

/-- The lane's station whose arm image is FAULT, the entry first. -/
def Lane.faultedEnd (lane : Lane) : LaneEnd := if lane.entry.arm = .fault then .entry else .exit

/-- The lane withdraws its capture request, if the engine still holds it (R19). -/
def withdraw (l : LaneId) (s : State) : State :=
  match (s.seq.lanes[l]).bridge with
  | some b => modEngine b (fun e => match e.capture with
      | some r => if r.lane = l then { e with capture := none } else e
      | none => e) s
  | none => s

/-- A lane in FAULT or HELD: its settings want no arm movement and RED, so that no arm command is offered (R96). -/
def settleStill (l : LaneId) (s : State) : State :=
  showState l ((offerStation l .exit (offerStation l .entry (wantStations l .none .none .red .red s)).1).1)

/-- The lane faults: steps 1 to 5 of R112. -/
def faultLane (l : LaneId) (reason : FaultReason) (stationEnd : Option LaneEnd) (s : State) : State :=
  let left := (s.seq.lanes[l]).state
  let s := withdraw l s
  let s := modLane l (fun x => { x with state := .fault, fault := some (reason, left), hold := none, timer := none,
                                         asking := if left = .asking then none else x.asking }) s
  let s := settleStill l s
  queueRecord (.laneFault l reason stationEnd left (holdsGrant s l)) s

/-- The lane enters HELD with a reason and a resume state (R113), telling the visit unit of a hold for UNSTABLE, OFFICE or
YARD_STOP (R113, R164). An inbound lane still in RELEASING with the number of a visit that an outbound lane has since taken
up tells the visit unit as any lane that carries a visit, and the hold falls on that visit; R164 does not say which lane's
holds it hears (DESIGN CHOICE, notes/assumptions/25.md). -/
def holdLane (l : LaneId) (reason : HoldReason) (resume : LaneState) (s : State) : State :=
  let s := withdraw l s
  let s := modLane l (fun x => { x with state := .held, hold := some (reason, resume), timer := none }) s
  let s := settleStill l s
  match (s.seq.lanes[l]).visit with
  | some n =>
    if reason = .unstable ∨ reason = .office ∨ reason = .yardStop then holdTold n reason s else s
  | none => s

/-- The timer a state starts, with the limit configured at that moment (R95). -/
def timerFor (c : LaneConfig) : LaneState → Option (LaneTimer × Countdown)
  | .asking => some (.ask, { limit := c.askTime * 1000, left := c.askTime * 1000 })
  | .entering => some (.entry, { limit := c.entryTime * 1000, left := c.entryTime * 1000 })
  | .weighing => some (.stability, { limit := c.stabilityTime * 1000, left := c.stabilityTime * 1000 })
  | .releasing => some (.clearance, { limit := c.clearanceTime * 1000, left := c.clearanceTime * 1000 })
  | _ => none

/-- A capture request is placed on the lane's bridge, naming the lane and its far end, while the lane holds the grant
(R19, R106). -/
def placeCapture (l : LaneId) (s : State) : State :=
  match (s.seq.lanes[l]).config with
  | some c =>
    if holdsGrant s l then modEngine c.bridge (fun e => { e with capture := some { lane := l, far := c.far } }) s else s
  | none => s

/-- The lane joins the tail of its bridge's grant queue unless it has a place there (R101). -/
def joinQueue (l : LaneId) (s : State) : State :=
  match (s.seq.lanes[l]).bridge with
  | some b => modBridge b (fun x => if x.queue.contains l then x else { x with queue := x.queue ++ [l] }) s
  | none => s

/-- The lane leaves its bridge's grant queue (R101). -/
def leaveQueue (l : LaneId) (s : State) : State :=
  match (s.seq.lanes[l]).bridge with
  | some b => modBridge b (fun x => { x with queue := x.queue.filter (fun k => k ≠ l) }) s
  | none => s

/-- The lane enters a state: a state of R112 entered while an arm image is FAULT turns into FAULT; otherwise its timer
starts, its settings are made and offered to its stations, and its display is offered. An arm command refused NOT_ACTIVE
faults the lane in ENTERING to RELEASING (R96, R111, R112). A hold, a fault and the mark of a reweigh end with the state
they belong to. The grant test that follows an entry into WAIT_BRIDGE is `enterState`'s. -/
def enterPlain (l : LaneId) (st : LaneState) (s : State) : State :=
  let s := withdraw l s
  let s := modLane l (fun x => { x with
    state := st, hold := none, fault := none, reweigh := false, kept := none,
    reversing := st == .weighing && farBroken s l,
    timer := x.config.bind (fun c => timerFor c st) }) s
  let s := if st = .waitBridge then joinQueue l s else leaveQueue l s
  let lane := s.seq.lanes[l]
  if st.faults && lane.armFaulted then faultLane l .armFault (some lane.faultedEnd) s
  else
    let s := if st = .weighing then placeCapture l s else s
    match offerStation l .entry (wantFor l st s) with
    | (s, lostEntry) =>
      match offerStation l .exit s with
      | (s, lostExit) =>
        if st.onBridge && (lostEntry || lostExit) then
          faultLane l .stationLost (some (if lostEntry then .entry else .exit)) s
        else showState l s

/-- The grant test: the oldest waiting lane is given a free, READY, empty bridge without a pause, and enters ENTERING
with its near-beam mark clear (R102, R105). -/
def grantTest (b : BridgeId) (s : State) : State :=
  let x := s.seq.bridges[b]
  if x.holder.isNone && (s.engine[b]).status == .ready && bridgeEmpty s b && !x.pause then
    match x.queue.find? (fun l => (s.seq.lanes[l]).state == .waitBridge) with
    | some l =>
      enterPlain l .entering (modLane l (fun lane => { lane with nearBeam := false })
        (modBridge b (fun y => { y with holder := some l, queue := y.queue.filter (fun k => k ≠ l) }) s))
    | none => s
  else s

/-- The lane drops its visit: the visit's lane field becomes absent (R153). -/
def dropVisit (l : LaneId) (s : State) : State :=
  match (s.seq.lanes[l]).visit with
  | some n => laneDrops n l (modLane l (fun x => { x with visit := none }) s)
  | none => s

/-- The lane goes to rest: IDLE when admittable, CLOSED otherwise (R97). It carries nothing at rest. -/
def goRest (l : LaneId) (s : State) : State :=
  let s := modLane l (fun x => { x with asking := none }) (dropVisit l s)
  if admittable s l then enterPlain l .idle s else enterPlain l .closed s

/-- The lane releases the grant, and the grant test runs (R102). -/
def releaseGrant (l : LaneId) (s : State) : State :=
  match (s.seq.lanes[l]).bridge with
  | some b =>
    if (s.seq.bridges[b]).holder = some l then grantTest b (modBridge b (fun x => { x with holder := none }) s) else s
  | none => s

/-- The ticket outcome is acted on: RELEASING on PRINTED or with the release-on-print-failure flag, HELD PRINT_FAILED
otherwise (R107). -/
def actOutcome (l : LaneId) (printed : Bool) (s : State) : State :=
  let s := dropVisit l s
  let flag := ((s.seq.lanes[l]).config.map (·.releaseOnFailure)).getD false
  if printed || flag then enterPlain l .releasing s else holdLane l .printFailed .releasing s

/-- The lane enters a state as R96 and the state's rule give: WAIT_BRIDGE is followed by the grant test (R102), TICKETING
by a pending ticket outcome (R115). -/
def enterState (l : LaneId) (st : LaneState) (s : State) : State :=
  let s := enterPlain l st s
  match st with
  | .waitBridge =>
    match (s.seq.lanes[l]).bridge with
    | some b => grantTest b s
    | none => s
  | .ticketing =>
    match (s.seq.lanes[l]).state, (s.seq.lanes[l]).outcome with
    | .ticketing, some o => actOutcome l o (modLane l (fun x => { x with outcome := none }) s)
    | _, _ => s
  | _ => s

/-- The vehicle is let off (R116): the visit unit is told first while the lane carries a visit (R165), also by an inbound lane
whose visit an outbound lane has since taken up (DESIGN CHOICE, notes/assumptions/25.md). -/
def letOff (l : LaneId) (s : State) : State :=
  let grant := holdsGrant s l
  let told := match (s.seq.lanes[l]).visit with
    | some n => visitLetOff n grant s
    | none => (s, .givenUp)
  match told with
  | (s, .waits) => enterState l .waitBridge s
  | (s, .kept) => if grant then enterPlain l .releasing s else goRest l s
  | (s, .givenUp) =>
    let s := modLane l (fun x => { x with visit := none }) s
    if grant then enterPlain l .releasing s else goRest l s

/-- The lane resumes into a state, with the differences of R115. -/
def resumeInto (l : LaneId) (st : LaneState) (s : State) : State :=
  let s := modLane l (fun x => { x with reweigh := false }) s
  let lane := s.seq.lanes[l]
  match st with
  | .idle => goRest l s
  | .closed => goRest l s
  | .entering =>
    if lane.visit.isNone then letOff l s
    else
      let occupied := match lane.bridge with
        | some b => (s.engine[b]).occupied
        | none => true
      enterState l .entering (modLane l (fun x => { x with nearBeam := occupied }) s)
  | .waitBridge => if lane.visit.isNone then letOff l s else enterState l .waitBridge s
  | .weighing => if lane.visit.isNone then letOff l s else enterState l .weighing s
  | .asking => enterState l .asking s
  | .ticketing => enterState l .ticketing s
  | .releasing => enterState l .releasing s
  | .held => s
  | .fault => s

/-- The lane resumes (R115). A hold told to the visit unit is told as released (R113, R164). -/
def resume (l : LaneId) (s : State) : State :=
  let lane := s.seq.lanes[l]
  match lane.state, lane.hold, lane.fault with
  | .held, some (reason, st), _ =>
    let s := match lane.visit with
      | some n =>
        if reason = .unstable ∨ reason = .office ∨ reason = .yardStop then releaseTold n reason s else s
      | none => s
    resumeInto l st s
  | .fault, _, some (_, st) => resumeInto l st s
  | _, _, _ => s

/-- The lane's bridge has its zero-return mark set. -/
def laneZeroReturn (s : State) (l : LaneId) : Bool :=
  match (s.seq.lanes[l]).bridge with
  | some b => (s.engine[b]).zeroReturn
  | none => false

/-- A lane with its reweigh-pending mark set resumes into ENTERING once the zero-return mark is set, while the yard
stop line is deasserted (R116). -/
def reweighTest (l : LaneId) (s : State) : State :=
  let lane := s.seq.lanes[l]
  if lane.state = .held ∧ lane.reweigh ∧ laneZeroReturn s l ∧ !s.yardStop then resumeInto l .entering s else s

/-- REWEIGH: the lane stays HELD, its entry arm is wanted UP with the signal RED, 7 REVERSE is displayed, and the mark of
its bridge is tested at once (R116). -/
def startReweigh (l : LaneId) (s : State) : State :=
  let s := modLane l (fun x => { x with reweigh := true }) s
  let s := modStation l .entry (fun x => { x with wantArm := .up, wantSignal := .red }) s
  reweighTest l (offerDisplay l .reverse (offerStation l .entry s).1)

/-- A resolution is acted on by a lane in HELD (R116). -/
def actResolution (l : LaneId) (r : Resolution) (s : State) : State :=
  if (s.seq.lanes[l]).state ≠ .held then s
  else match r with
    | .release => enterState l .releasing s
    | .ticket => enterState l .ticketing s
    | .reweigh => startReweigh l s
    | .void => letOff l (dropVisit l s)

/-- A resolution told to the lane: kept while the yard stop line is asserted (R116). A second one told meanwhile (a VOID
after a REWEIGH) takes the first one's place, and R116 does not say which is acted on (DESIGN CHOICE,
notes/assumptions/32.md). -/
def resolveLane (l : LaneId) (r : Resolution) (s : State) : State :=
  if (s.seq.lanes[l]).state ≠ .held then s
  else if s.yardStop then modLane l (fun x => { x with kept := some r }) s
  else actResolution l r s

/-- The lane carrying a visit is told that the visit is void (R168 step 6). -/
def voidTold (l : LaneId) (s : State) : State :=
  match (s.seq.lanes[l]).state with
  | .held => resolveLane l .void s
  | .waitBridge => goRest l (leaveQueue l (modLane l (fun x => { x with visit := none }) s))
  | .releasing => modLane l (fun x => { x with visit := none }) s
  | .fault => modLane l (fun x => { x with visit := none }) s
  | _ => s

/-- The ticket unit tells the lane its ticket's outcome (R107, R112, R113). -/
def ticketTold (l : LaneId) (printed : Bool) (s : State) : State :=
  match (s.seq.lanes[l]).state with
  | .ticketing => actOutcome l printed s
  | .held => modLane l (fun x => { x with visit := none, outcome := some printed }) s
  | .fault => modLane l (fun x => { x with visit := none, outcome := some printed }) s
  | _ => s

/-! ## Captures (R106) -/

/-- A capture is delivered to its lane: the stability timer stops, 8 WEIGHT is displayed and the visit unit's outcome is
acted on (R106). Where the visit unit gives none, as for a visit that is neither ADMITTED nor LEAVING (R159, R160), the lane
stays in WEIGHING with no request and no timer (DESIGN CHOICE, notes/assumptions/25.md). -/
def deliverCapture (l : LaneId) (w : WeightRecord) (s : State) : State :=
  if (s.seq.lanes[l]).state ≠ .weighing then s
  else
    let s := modLane l (fun x => { x with timer := none }) s
    match (s.seq.lanes[l]).visit with
    | none => s
    | some n =>
      match captureVisit n w (offerDisplay l (.weight w.weight n) s) with
      | (s, some .release) => enterState l .releasing s
      | (s, some .ticket) => enterState l .ticketing s
      | (s, some (.hold reason)) => holdLane l reason .weighing s
      | (s, none) => s

/-! ## Beams, samples and the holder's tests (R103 to R108) -/

/-- The empty timer of an intrusion pause starts as the bridge becomes empty and stops as it ceases to be (R104). -/
def pauseUpdate (b : BridgeId) (s : State) : State :=
  let empty := bridgeEmpty s b
  modBridge b (fun x =>
    if x.pause then { x with pauseTimer := if empty then some (x.pauseTimer.getD Config.emptyTime) else none }
    else x) s

/-- A beam going to BROKEN while no lane holds the grant: an intrusion (R104). -/
def intrusion (b : BridgeId) (beam : BeamEnd) (former now : BeamImage) (s : State) : State :=
  let x := s.seq.bridges[b]
  if former ≠ .broken ∧ now = .broken ∧ x.holder.isNone ∧ !x.pause then
    queueRecord (.intrusion b beam (s.engine[b]).w) (modBridge b (fun x => { x with pause := true }) s)
  else s

/-- The wholly-on test (R105). -/
def whollyOn (s : State) (l : LaneId) : Bool :=
  match (s.seq.lanes[l]).config with
  | some c =>
    (s.seq.lanes[l]).nearBeam && beamClear s c.bridge c.near && beamClear s c.bridge c.far
      && (s.engine[c.bridge]).occupied
  | none => false

/-- Completion of RELEASING: the exit loop CLEAR and the bridge empty (R108). -/
def clearOff (s : State) (l : LaneId) : Bool :=
  match (s.seq.lanes[l]).bridge with
  | some b => (s.seq.lanes[l]).exit.loop == .clear && bridgeEmpty s b
  | none => false

/-- At completion the timer stops, any visit is dropped, the grant is released and the lane goes to rest (R108). -/
def completionTest (l : LaneId) (s : State) : State :=
  if (s.seq.lanes[l]).state = .releasing ∧ clearOff s l then
    goRest l (releaseGrant l (dropVisit l (modLane l (fun x => { x with timer := none }) s)))
  else s

/-- The tests of the lane in ENTERING or RELEASING at a bridge sample (R105, R108). -/
def sampleTests (l : LaneId) (s : State) : State :=
  match (s.seq.lanes[l]).state with
  | .entering => if whollyOn s l then enterState l .weighing s else s
  | .releasing => completionTest l s
  | _ => s

/-- The tests of the lane holding the grant at a BEAM report: the near-beam mark, wholly on, REVERSE and completion
(R105, R106, R108). -/
def beamTests (l : LaneId) (s : State) : State :=
  match (s.seq.lanes[l]).config with
  | none => s
  | some c =>
    match (s.seq.lanes[l]).state with
    | .entering =>
      let s := if beamBroken s c.bridge c.near then modLane l (fun x => { x with nearBeam := true }) s else s
      sampleTests l s
    | .weighing =>
      if beamBroken s c.bridge c.far then
        offerDisplay l .reverse (modLane l (fun x => { x with reversing := true }) s)
      else if beamClear s c.bridge c.far && (s.seq.lanes[l]).reversing then
        offerDisplay l .weighing (modLane l (fun x => { x with reversing := false }) s)
      else s
    | .releasing => completionTest l s
    | _ => s

/-- The image a reported beam gives. -/
def beamImage (isBroken : Bool) : BeamImage := if isBroken then .broken else .clear

/-- A BEAM report, in the order of R103: image, intrusion test, the holder's tests, grant test. -/
def beamReport (b : BridgeId) (brokenA brokenB : Bool) (s : State) : State :=
  let x := s.seq.bridges[b]
  let s := modBridge b (fun x => { x with beamA := beamImage brokenA, beamB := beamImage brokenB }) s
  let s := intrusion b .a x.beamA (beamImage brokenA) s
  let s := intrusion b .b x.beamB (beamImage brokenB) s
  let s := pauseUpdate b s
  let s := match (s.seq.bridges[b]).holder with
    | some l => beamTests l s
    | none => s
  grantTest b s

/-- The sequencer's work at a bridge sample of a bridge: reweighs that waited for the zero-return mark, the holder's
tests, the pause's empty timer and the grant test (R102, R104, R105, R108, R116). Reweighs resume in lane-number order (DESIGN
CHOICE, notes/assumptions/29.md). -/
def sampleReport (b : BridgeId) (s : State) : State :=
  let s := (lanesOf s b).foldl (fun s l => reweighTest l s) s
  let s := match (s.seq.bridges[b]).holder with
    | some l => sampleTests l s
    | none => s
  grantTest b (pauseUpdate b s)

/-- A change of bridge state told to the sequencer: IDLE and CLOSED lanes follow, then the grant test runs (R97, R102). The
lanes follow in lane-number order, which R97 does not give (DESIGN CHOICE, notes/assumptions/29.md). -/
def bridgeStateTold (b : BridgeId) (s : State) : State :=
  grantTest b ((lanesOf s b).foldl (fun s l =>
    match (s.seq.lanes[l]).state with
    | .idle => if admittable s l then s else enterPlain l .closed s
    | .closed => if admittable s l then enterPlain l .idle s else s
    | _ => s) s)

/-! ## Identification (section 5.3) -/

/-- What the lane does with an admission's outcome from IDLE (R98). -/
def identifyInbound (l : LaneId) (id : Text) (s : State) : State :=
  match askAdmission id l none s with
  | (s, .admitted n) => enterState l .waitBridge (modLane l (fun x => { x with visit := some n }) s)
  | (s, .ask) => enterState l .asking (modLane l (fun x => { x with asking := some id }) s)
  | (s, .refused m) => offerDisplay l (.refusal m) s

/-- An IDENTIFY taken by an outbound lane in IDLE (R100). -/
def identifyOutbound (l : LaneId) (id : Text) (s : State) : State :=
  match findForExit id l s with
  | (s, some n) => enterState l .waitBridge (modLane l (fun x => { x with visit := some n }) s)
  | (s, none) => offerDisplay l (.refusal 28) s

/-- An IDENTIFY report (R98, R100). -/
def identifyReport (l : LaneId) (id : Text) (s : State) : State :=
  match (s.seq.lanes[l]).state with
  | .idle =>
    if s.yardStop then offerDisplay l (.refusal 29) s
    else match (s.seq.lanes[l]).config with
      | some c =>
        match c.function with
        | .inbound => identifyInbound l id s
        | .outbound => identifyOutbound l id s
      | none => s
  | .closed => offerDisplay l .laneClosed s
  | _ => s

/-- The lane drops its pending admission and goes to rest (R99). -/
def endAsking (l : LaneId) (s : State) : State := goRest l (modLane l (fun x => { x with asking := none }) s)

/-- A material code entered in ASKING (R99). A lane that has no pending admission (it resumed from a fault that dropped it)
goes to rest. -/
def materialEntered (l : LaneId) (m : Nat) (s : State) : State :=
  match (s.seq.lanes[l]).asking with
  | none => endAsking l s
  | some id =>
    match askAdmission id l (some m) s with
    | (s, .admitted n) =>
      enterState l .waitBridge (modLane l (fun x => { x with visit := some n, asking := none }) s)
    | (s, .ask) => endAsking l (offerDisplay l (.refusal 24) s)
    | (s, .refused k) => endAsking l (offerDisplay l (.refusal k) s)

/-- A KEY report (R99, R100). -/
def keyReport (l : LaneId) (k : KeyAction) (s : State) : State :=
  if (s.seq.lanes[l]).state ≠ .asking then s
  else match k with
    | .number m => if m = 0 then offerDisplay l .enterMaterial s else materialEntered l m s
    | .cancel => endAsking l s

/-- A hold reason the attendant key releases (R114). -/
def HoldReason.attendant : HoldReason → Bool
  | .unstable => true
  | .printFailed => true
  | .restart => true
  | .yardStop => true
  | _ => false

/-- An ATTENDANT report (R114). -/
def attendantReport (l : LaneId) (s : State) : State :=
  match (s.seq.lanes[l]).state, (s.seq.lanes[l]).hold with
  | .held, some (reason, _) => if reason.attendant && !s.yardStop then resume l s else s
  | _, _ => s

/-! ## Timers of the lane -/

/-- The lane's timer of a kind is running. -/
def laneTimerRuns (s : State) (l : LaneId) (k : LaneTimer) : Bool :=
  match (s.seq.lanes[l]).timer with
  | some (j, _) => j == k
  | none => false

/-- Entry timer expiry: the visit is abandoned, the lane drops it, releases the grant and goes to rest (R105, R168). -/
def entryExpiry (l : LaneId) (s : State) : State :=
  if laneTimerRuns s l .entry then
    let s := match (s.seq.lanes[l]).visit with
      | some n => voidVisit n .abandoned s
      | none => s
    goRest l (releaseGrant l (modLane l (fun x => { x with visit := none, timer := none }) s))
  else s

/-- Ask timer expiry (R99). -/
def askExpiry (l : LaneId) (s : State) : State := if laneTimerRuns s l .ask then endAsking l s else s

/-- Stability timer expiry: the capture request is withdrawn and the lane is HELD UNSTABLE (R106). -/
def stabilityExpiry (l : LaneId) (s : State) : State :=
  if laneTimerRuns s l .stability then holdLane l .unstable .weighing s else s

/-- Clearance timer expiry (R108). The LANE_FAULT record names no station end: R112 has it name the end
concerned, and says neither which end CLEARANCE concerns nor that the field may be absent (DESIGN CHOICE,
notes/assumptions/5.md). -/
def clearanceExpiry (l : LaneId) (s : State) : State :=
  if laneTimerRuns s l .clearance then faultLane l .clearance none s else s

/-- The intrusion pause ends at its empty timer's expiry, and the grant test runs (R104). -/
def pauseExpiry (b : BridgeId) (s : State) : State :=
  if (s.seq.bridges[b]).pauseTimer.isSome then
    grantTest b (modBridge b (fun x => { x with pause := false, pauseTimer := none }) s)
  else s

end Sys2Proof.Machine
end

