-- ==== Sys2Proof/Machine/Barriers.lean ====
section
/-! DEFINITION. What reaches a barrier station's image (R109), the outcomes of station commands (R111, R117), the yard stop line (R117) and the fills told to the sequencer (R89, R103, R109). -/
namespace Sys2Proof.Machine

/-- After a station's offers: an arm command refused NOT_ACTIVE faults the lane in ENTERING to RELEASING (R111). -/
def afterOffers (l : LaneId) (e : LaneEnd) : State × Bool → State
  | (s, true) => if (s.seq.lanes[l]).state.onBridge then faultLane l .stationLost (some e) s else s
  | (s, false) => s

/-- The offers of R110 for one station. -/
def stationOffers (l : LaneId) (e : LaneEnd) (s : State) : State := afterOffers l e (offerStation l e s)

/-- The offers of R110 but SIGNAL's, which waits for the retry timer its NAK REFUSED started (R111). -/
def driveArmOffers (l : LaneId) (e : LaneEnd) (s : State) : State :=
  match filledNode s (.station l e) with
  | none => s
  | some a => afterOffers l e (offerArmDue l e a (offerDrive l e a s))

/-- The arm image of a station becomes FAULT: a lane in a state of R112 faults. -/
def armFault (l : LaneId) (e : LaneEnd) (reason : FaultReason) (s : State) : State :=
  let former := ((s.seq.lanes[l]).station e).arm
  let s := modStation l e (fun x => { x with arm := .fault }) s
  if former ≠ .fault ∧ (s.seq.lanes[l]).state.faults then faultLane l reason (some e) s else s

/-- A reported arm stops the running motion timer: the timer's target, OBSTRUCTED, FAULT or OFF (R109). -/
def stopsMotion (arm : ArmImage) : Option (ArmCommand × Nat) → Bool
  | none => false
  | some (c, _) =>
    match arm, c with
    | .up, .raise => true
    | .down, .lower => true
    | .obstructed, _ => true
    | .fault, _ => true
    | .off, _ => true
    | _, _ => false

/-- A STATION report: the image is set, an arm that becomes FAULT faults the lane, the completion test runs for the
exit station, and the offers follow (R108, R109, R110, R112). -/
def stationReport (l : LaneId) (e : LaneEnd) (arm : ArmImage) (loop : LoopImage) (signal : Aspect)
    (drive : DriveImage) (s : State) : State :=
  let s := modStation l e (fun x => { x with
    arm := if arm = .fault then x.arm else arm, loop := loop, signal := some signal, drive := drive,
    motion := if stopsMotion arm x.motion then none else x.motion }) s
  let s := if arm = .fault then armFault l e .armFault s else s
  let s := if e = .exit then completionTest l s else s
  stationOffers l e s

/-- The motion limit of a lane's stations in ms; the default of R95 where the lane has no configuration. -/
def motionLimit (s : State) (l : LaneId) : Nat := (((s.seq.lanes[l]).config.map (·.motionTime)).getD 8) * 1000

/-- A station command is ANSWERED ACK (R111, R117). -/
def stationAck (l : LaneId) (e : LaneEnd) (f : CommandFrame) (s : State) : State :=
  let limit := motionLimit s l
  match f with
  | .arm c =>
    stationOffers l e (modStation l e (fun x =>
      let shown : Bool := match c with
        | .raise => x.arm == .up
        | .lower => x.arm == .down
      if shown then { x with outArm := none }
      else { x with outArm := none, motion := some (c, limit),
                    arm := match c with
                      | .raise => .raising
                      | .lower => .lowering }) s)
  | .signal a => stationOffers l e (modStation l e (fun x => { x with outSignal := none, signal := some a }) s)
  | .driveOff => stationOffers l e (modStation l e (fun x => { x with outOff := false, drive := .off }) s)
  | .driveOn =>
    let mark := s.yardStop
    stationOffers l e (modStation l e (fun x =>
      { x with outOn := false, drive := .on, driveOffMark := x.driveOffMark && mark }) s)
  | _ => s

/-- A station command is ANSWERED NAK REFUSED (R111, R117); the other offers of R110 are made at that outcome. The station has
one retry timer for the 100 ms of a command that got no answer and the 1 s of a refused SIGNAL, and a later start replaces
the time that runs; R111 speaks of a timer of each length and not of their being one (DESIGN CHOICE,
notes/assumptions/10.md). -/
def stationNak (l : LaneId) (e : LaneEnd) (f : CommandFrame) (s : State) : State :=
  match f with
  | .arm _ =>
    let s := modStation l e (fun x => { x with outArm := none }) s
    stationOffers l e (if ((s.seq.lanes[l]).station e).driveOffMark then s else armFault l e .armFault s)
  | .signal _ =>
    driveArmOffers l e (modStation l e (fun x => { x with outSignal := none, retry := some Config.signalRetryTime }) s)
  | .driveOff =>
    stationOffers l e (modStation l e (fun x => { x with outOff := false, retryOff := some Config.driveRetryTime }) s)
  | .driveOn =>
    stationOffers l e (modStation l e (fun x => { x with outOn := false, retryOn := some Config.driveRetryTime }) s)
  | _ => s

/-- A station command is NOT_DELIVERED: an arm command faults the lane in ENTERING to RELEASING; otherwise the offer waits
for the fill (R111). -/
def stationUndelivered (l : LaneId) (e : LaneEnd) (f : CommandFrame) (s : State) : State :=
  match f with
  | .arm _ =>
    let s := modStation l e (fun x => { x with outArm := none }) s
    if (s.seq.lanes[l]).state.onBridge then faultLane l .stationLost (some e) s else s
  | .signal _ => modStation l e (fun x => { x with outSignal := none }) s
  | .driveOff => modStation l e (fun x => { x with outOff := false }) s
  | .driveOn => modStation l e (fun x => { x with outOn := false }) s
  | _ => s

/-! ## Timers of the stations -/

/-- Motion timer expiry: the arm image becomes FAULT (R111, R112). -/
def motionExpiry (l : LaneId) (e : LaneEnd) (s : State) : State :=
  if ((s.seq.lanes[l]).station e).motion.isSome then
    stationOffers l e (armFault l e .armTimeout (modStation l e (fun x => { x with motion := none }) s))
  else s

/-- Command retry timer expiry (R111). -/
def stationRetryExpiry (l : LaneId) (e : LaneEnd) (s : State) : State :=
  if ((s.seq.lanes[l]).station e).retry.isSome then
    stationOffers l e (modStation l e (fun x => { x with retry := none }) s)
  else s

/-- Drive retry timer expiry; of two running, the one with less time remaining expires (R117). -/
def driveRetryExpiry (l : LaneId) (e : LaneEnd) (s : State) : State :=
  let x := (s.seq.lanes[l]).station e
  match x.retryOff, x.retryOn with
  | none, none => s
  | some _, none => stationOffers l e (modStation l e (fun x => { x with retryOff := none }) s)
  | none, some _ => stationOffers l e (modStation l e (fun x => { x with retryOn := none }) s)
  | some t, some u =>
    if t ≤ u then stationOffers l e (modStation l e (fun x => { x with retryOff := none }) s)
    else stationOffers l e (modStation l e (fun x => { x with retryOn := none }) s)

/-! ## The yard stop line (R117) -/

/-- The sixteen stations, lane by lane, the entry before the exit. -/
def allStations : List (LaneId × LaneEnd) :=
  (List.finRange 8).flatMap fun l => laneEnds.map fun e => (l, e)

/-- DRIVE OFF for a FILLED station at an assertion (R117). Of R110's conditions on a drive command one is kept, that no DRIVE OFF
is outstanding: it is offered whatever the drive image shows, also behind an outstanding DRIVE ON and while the retry timer of an
earlier DRIVE OFF runs (DESIGN CHOICE, notes/assumptions/10.md). -/
def stopDrive (l : LaneId) (e : LaneEnd) (s : State) : State :=
  match filledNode s (.station l e) with
  | some a => if ((s.seq.lanes[l]).station e).outOff then s else offerDriveOff l e a s
  | none => s

/-- The sequencer's work at an assertion of the yard stop line, in the order of R117. The line's level is set by the
caller. The lanes enter HELD in lane-number order, which R117 does not give (DESIGN CHOICE, notes/assumptions/29.md). -/
def assertStop (s : State) : State :=
  let s := queueRecord (.yardStop true) s
  let s := allStations.foldl (fun s p => modStation p.1 p.2 (fun x => { x with driveOffMark := true, motion := none }) s) s
  let s := allStations.foldl (fun s p => stopDrive p.1 p.2 s) s
  (List.finRange 8).foldl (fun s l =>
    let st := (s.seq.lanes[l]).state
    if st.faults && st != .idle then holdLane l .yardStop st s else s) s

/-- DRIVE ON at a deassertion for a FILLED station whose mark is set (R117), where R110 allows it: with no drive command
outstanding and no DRIVE ON retry timer running (DESIGN CHOICE, notes/assumptions/10.md). -/
def restoreDrive (l : LaneId) (e : LaneEnd) (s : State) : State :=
  match filledNode s (.station l e) with
  | some a => if ((s.seq.lanes[l]).station e).driveOffMark then offerDrive l e a s else s
  | none => s

/-- A resolution the lane kept is acted on, and a reweigh that waited is tested (R116). -/
def actKept (l : LaneId) (s : State) : State :=
  let s := match (s.seq.lanes[l]).kept with
    | some r => actResolution l r (modLane l (fun x => { x with kept := none }) s)
    | none => s
  reweighTest l s

/-- The sequencer's work at a deassertion of the yard stop line (R116, R117). The lanes act on what they kept in lane-number
order, which neither rule gives (DESIGN CHOICE, notes/assumptions/29.md). -/
def deassertStop (s : State) : State :=
  let s := queueRecord (.yardStop false) s
  let s := allStations.foldl (fun s p => restoreDrive p.1 p.2 s) s
  (List.finRange 8).foldl (fun s l => actKept l s) s

/-! ## Fills told to the sequencer (R89) -/

/-- The four parts of a station image become UNKNOWN (R109). -/
def unknownStation (l : LaneId) (e : LaneEnd) (s : State) : State :=
  modStation l e (fun x => { x with arm := .unknown, loop := .unknown, signal := none, drive := .unknown }) s

/-- A station's fill has become EMPTY: its image is UNKNOWN, and the lane faults in ENTERING to RELEASING (R109, R112). -/
def stationEmptied (l : LaneId) (e : LaneEnd) (s : State) : State :=
  let s := unknownStation l e s
  if (s.seq.lanes[l]).state.onBridge then faultLane l .stationLost (some e) s else s

/-- A station's fill has become FILLED: the drive command is offered whatever the image shows, with none outstanding and no retry
timer of it running (DESIGN CHOICE, notes/assumptions/10.md), then the other offers follow (R110, R117). The loop image being UNKNOWN, LOWER waits for the first STATION report; RAISE, whose conditions do not
read the loop, is offered at once when the desired position is UP, where R110's last sentence leaves open whether it waits
as well (DESIGN CHOICE, notes/assumptions/10.md). -/
def stationFilled (l : LaneId) (e : LaneEnd) (s : State) : State :=
  let x := (s.seq.lanes[l]).station e
  let s := match filledNode s (.station l e) with
    | some a =>
      if x.outOff ∨ x.outOn then s
      else if s.yardStop then (if x.retryOff.isNone then offerDriveOff l e a s else s)
      else if x.retryOn.isNone then offerDriveOn l e a s else s
    | none => s
  stationOffers l e s

/-- A different node is bound to the station: its image is UNKNOWN (R109). -/
def stationChanged (l : LaneId) (e : LaneEnd) (s : State) : State := stationOffers l e (unknownStation l e s)

/-- Both beams become UNKNOWN (R103). -/
def beamsUnknown (b : BridgeId) (s : State) : State :=
  modBridge b (fun x => { x with beamA := .unknown, beamB := .unknown }) s

end Sys2Proof.Machine
end

