-- ==== Sys2Proof/Machine/Bridges.lean ====
section
/-! DEFINITION. The bridge state (R23, R24) and the legality judgement (R47). -/
namespace Sys2Proof.Machine

/-- The reason list of a bridge (R23). CELL_UNFILLED is judged on the VALID record's positions. -/
def reasonsOf (s : State) (b : BridgeId) : Reasons :=
  let item := s.cal.store.records[b]
  { calibrationInvalid := !item.valid,
    cellUnfilled := item.valid && item.content.data.positions.any (fun p => (roleOf s (.cell b p)).fill == .empty),
    beamUnfilled := (roleOf s (.beams b)).fill == .empty,
    zeroUnset := (s.engine[b]).zero.isNone }

/-- A reason applies. -/
def Reasons.any (r : Reasons) : Bool := r.calibrationInvalid || r.cellUnfilled || r.beamUnfilled || r.zeroUnset

/-- The bridge state: the first line of the table of R23 that applies. -/
def statusOf (s : State) (b : BridgeId) : BridgeStatus :=
  if (s.engine[b]).outOfService then .outOfService
  else if sessionOn s b then .calibrating
  else if (reasonsOf s b).any then .notReady
  else if s.cal.restricted[b] then .restricted
  else .ready

/-- The bridge state and reason list set as derived, with no record: the derivation a reset makes (R24). -/
def setBridgeState (b : BridgeId) (s : State) : State :=
  let status := statusOf s b
  let reasons := reasonsOf s b
  modEngine b (fun e => { e with status := status, reasons := reasons }) s

/-- The bridge state is derived anew; a change queues BRIDGE_STATE and is told to the sequencer (R23, R24). -/
def deriveBridge (b : BridgeId) (s : State) : State :=
  let status := statusOf s b
  let reasons := reasonsOf s b
  if (s.engine[b]).status = status ∧ (s.engine[b]).reasons = reasons then s
  else bridgeStateTold b (queueRecord (.bridgeState b status reasons) (setBridgeState b s))

/-- The serial of the node that fills a cell position, in FILLED or DEGRADED. -/
def boundSerial (s : State) (b : BridgeId) (p : CellPos) : Option Serial :=
  let r := roleOf s (.cell b p)
  match r.fill, r.node with
  | .empty, _ => none
  | _, some (_, x) => some x
  | _, none => none

/-- The calibrated positions whose bound serial differs from the record's (R47, R48). -/
def differing (s : State) (b : BridgeId) : List CellPos :=
  let d := (s.cal.store.records[b]).content.data
  d.positions.filter fun p =>
    match boundSerial s b p with
    | some x => decide ((d.cells[p]).serial ≠ some x)
    | none => false

/-- The legality judgement: restricted or not (R47). -/
def judgeRestricted (s : State) (b : BridgeId) : Bool :=
  let d := (s.cal.store.records[b]).content.data
  !(differing s b).isEmpty
    || (List.finRange 8).any (fun p => decide (d.n ≤ p.val) && (roleOf s (.cell b p)).fill != .empty)
    || !s.cal.store.counter.valid

/-- The calibration unit makes the judgement anew, for a bridge with a VALID record and no open session (R47). -/
def judge (b : BridgeId) (s : State) : State :=
  if (s.cal.store.records[b]).valid && !sessionOn s b then
    let r := judgeRestricted s b
    modCal (fun c => { c with restricted := put c.restricted b r }) s
  else s

/-- The four bridges in order. -/
def allBridges : List BridgeId := List.finRange 4

end Sys2Proof.Machine
end

