-- ==== Sys2Proof/Machine/Operands.lean ====
section
/-! DEFINITION. The operands of a request: the fields of the body of the frame at the head of the request buffer, judged by the encodings of R214 and the tests of R197, and how the port takes a request and answers it (R196). -/
namespace Sys2Proof.Machine

/-- Types of request fields (R214). -/
inductive FieldType
  | u8
  | u16
  | u32
  /-- Weight in kg or fine units. -/
  | weight
  | money
  | serial
  /-- An enumerated field with codes 1 to `count`. -/
  | code (count : Nat)
  /-- An enumerated field of two values: yes, no or set, clear. -/
  | flag
  | text
  /-- A count, then that many bytes of any value. -/
  | bytes
  | time
  | role
  | weightRecord
  deriving DecidableEq, Repr

/-- A field of a request's layout; `needed` when the request cannot do without it (R197). -/
structure Field where
  type : FieldType
  needed : Bool
  deriving DecidableEq, Repr

/-- A field's value. -/
inductive Value
  | num (n : Nat)
  | int (i : Int)
  | serial (x : Serial)
  | flag (b : Bool)
  | text (t : Text)
  | time (t : Stamp)
  | role (r : Attach)
  | weightRecord (w : WeightRecord)
  deriving DecidableEq, Repr

/-- A needed field. -/
def need (t : FieldType) : Field := { type := t, needed := true }
/-- An optional field. -/
def may (t : FieldType) : Field := { type := t, needed := false }

/-- The bytes a field takes; a string's count byte says how many follow (R214). -/
def FieldType.width (t : FieldType) (rest : Bytes) : Nat :=
  match t with
  | .u8 => 1
  | .u16 => 2
  | .u32 => 4
  | .weight => 4
  | .money => 8
  | .serial => 6
  | .code _ => 1
  | .flag => 1
  | .text => 1 + (beNat (rest.take 1))
  | .bytes => 1 + (beNat (rest.take 1))
  | .time => 5
  | .role => 3
  | .weightRecord => 13

/-- A body cut into its fields by presence bytes and string counts; none when a presence byte is neither 0 nor 1 or
the length differs from the sum they call for: MALFORMED (Chapter 10, R214). -/
def cutFields : List Field → Bytes → Option (List (Option Bytes))
  | [], [] => some []
  | [], _ :: _ => none
  | _ :: _, [] => none
  | f :: fs, p :: rest =>
    if p = 0 then (cutFields fs rest).map (none :: ·)
    else if p = 1 then
      let k := f.type.width rest
      if rest.length < k then none else (cutFields fs (rest.drop k)).map (some (rest.take k) :: ·)
    else none

/-- A role of three bytes: form, bridge or lane, position or end (notes/assumptions/5.md). -/
def readRole (form x y : Nat) : Option Attach :=
  let bridge : Option BridgeId := if h : 1 ≤ x ∧ x ≤ 4 then some ⟨x - 1, by omega⟩ else none
  let lane : Option LaneId := if h : 1 ≤ x ∧ x ≤ 8 then some ⟨x - 1, by omega⟩ else none
  match form with
  | 1 => match bridge, (if h : 1 ≤ y ∧ y ≤ 8 then some (⟨y - 1, by omega⟩ : CellPos) else none) with
    | some b, some p => some (.cell b p)
    | _, _ => none
  | 2 => if y = 0 then bridge.map .beams else none
  | 3 => match lane, y with
    | some l, 1 => some (.station l .entry)
    | some l, 2 => some (.station l .exit)
    | _, _ => none
  | 4 => if y = 0 then lane.map .terminal else none
  | 5 => if y = 0 then lane.map .printer else none
  | _ => none

/-- A time of five bytes: the seconds count and a set flag of 0 or 1 (R214). -/
def readTime (b : Bytes) : Option Stamp :=
  match beNat (b.drop 4) with
  | 0 => some { secs := beNat (b.take 4), set := false }
  | 1 => some { secs := beNat (b.take 4), set := true }
  | _ => none

/-- A weight record of 13 bytes (R218). Bits 3 to 7 of its marks are not looked at: R214 says that unlisted bits are sent as
0 and not what the part makes of others (DESIGN CHOICE, notes/assumptions/5.md). -/
def readWeightRecord (b : Bytes) : Option WeightRecord :=
  let marks := beNat ((b.drop 11).take 1)
  let legality : Option Legality := match beNat (b.drop 12) with
    | 1 => some .ready
    | 2 => some .restricted
    | _ => none
  match readTime ((b.drop 6).take 5), legality with
  | some t, some g =>
    some { bridge := beNat (b.take 1), weight := beSigned ((b.drop 1).take 4), e := beNat ((b.drop 5).take 1),
           time := t, stableMark := marks.testBit 0, zeroReturn := marks.testBit 1, trade := marks.testBit 2,
           legality := g }
  | _, _ => none

/-- The value of a field's bytes; none where it is not encoded as its layout states: RANGE (R197). -/
def readValue (t : FieldType) (b : Bytes) : Option Value :=
  match t with
  | .u8 => some (.num (beNat b))
  | .u16 => some (.num (beNat b))
  | .u32 => some (.num (beNat b))
  | .weight => some (.int (beSigned b))
  | .money => some (.int (beSigned b))
  | .serial => some (.serial (BitVec.ofNat 48 (beNat b)))
  | .code count => if 1 ≤ beNat b ∧ beNat b ≤ count then some (.num (beNat b)) else none
  | .flag => if beNat b = 1 then some (.flag true) else if beNat b = 2 then some (.flag false) else none
  | .text => if (b.drop 1).all printable then some (.text (b.drop 1)) else none
  | .bytes => some (.text (b.drop 1))
  | .time => (readTime b).map .time
  | .role => (readRole (beNat (b.take 1)) (beNat ((b.drop 1).take 1)) (beNat (b.drop 2))).map .role
  | .weightRecord => (readWeightRecord b).map .weightRecord

/-- The values of the cut fields; none where one is not encoded as stated or a needed one is absent: RANGE (R197). -/
def readFields : List Field → List (Option Bytes) → Option (List (Option Value))
  | [], _ => some []
  | _ :: _, [] => some []
  | f :: fs, none :: rest => if f.needed then none else (readFields fs rest).map (none :: ·)
  | f :: fs, some b :: rest =>
    match readValue f.type b with
    | some v => (readFields fs rest).map (some v :: ·)
    | none => none

/-- The last two tests of R197 on a body: its values, or the result of the first test that fails. -/
def readBody (layout : List Field) (body : Bytes) : Except Result (List (Option Value)) :=
  match cutFields layout body with
  | none => .error .malformed
  | some cut =>
    match readFields layout cut with
    | none => .error .range
    | some vs => .ok vs

/-- What an owner gives back: the state, and the answer unless it is deferred. -/
abbrev Reply := State × Option (Result × Bytes)

/-- A result with no body. -/
def reply (r : Result) (s : State) : Reply := (s, some (r, []))

/-- A result with a body. -/
def replyWith (r : Result) (body : Bytes) (s : State) : Reply := (s, some (r, body))

/-- The frame at the head leaves the request buffer (R196). -/
def popRequest (s : State) : State := modPort (fun p => { p with buffer := p.buffer.tail }) s

/-- The port takes the frame at the head when it is a request of this code: it judges the body, hands the values to the
owner, makes the answer ready and removes the frame (R196, R197). With another frame at the head, or none, or after
RESTART has been taken (R210), there is nothing to take. -/
def takeRequest (code : Nat) (layout : List Field) (owner : Byte → List (Option Value) → State → Reply)
    (s : State) : State :=
  match s.port.buffer with
  | [] => s
  | r :: _ =>
    if s.port.restarting ∨ r.kind.toNat ≠ code then s
    else
      match readBody layout r.body with
      | .error e => popRequest (answer r.tag e [] s)
      | .ok vs =>
        match owner r.tag vs s with
        | (s', some (e, body)) => popRequest (answer r.tag e body s')
        | (s', none) => popRequest s'

/-- The bridge of a number 1 to 4. -/
def bridgeOf (n : Nat) : Option BridgeId := if h : 1 ≤ n ∧ n ≤ 4 then some ⟨n - 1, by omega⟩ else none
/-- The lane of a number 1 to 8. -/
def laneOf (n : Nat) : Option LaneId := if h : 1 ≤ n ∧ n ≤ 8 then some ⟨n - 1, by omega⟩ else none
/-- The node table entry of an address 1 to 32. -/
def nodeOf (n : Nat) : Option NodeId := if h : 1 ≤ n ∧ n ≤ 32 then some ⟨n - 1, by omega⟩ else none
/-- The plan entry of a number 1 to 32. -/
def planOf (n : Nat) : Option PlanId := if h : 1 ≤ n ∧ n ≤ 32 then some ⟨n - 1, by omega⟩ else none
/-- The bank of a number 0 or 1. -/
def bankOf (n : Nat) : Option BankId := if h : n < 2 then some ⟨n, h⟩ else none
/-- The cell position of a number 1 to 8. -/
def posOf (n : Nat) : Option CellPos := if h : 1 ≤ n ∧ n ≤ 8 then some ⟨n - 1, by omega⟩ else none
/-- The lane end of a code. -/
def endOf (n : Nat) : LaneEnd := if n = 1 then .entry else .exit

end Sys2Proof.Machine
end

