-- ==== Sys2Proof/Machine/Calibration.lean ====
section
/-! DEFINITION. The calibration unit (Chapter 2): sessions, steps, trim and limits, commit and abort, and the requests of the chapter. -/
namespace Sys2Proof.Machine

/-! ## Sessions -/

def modSession (f : Session → Session) (s : State) : State :=
  modCal (fun c => { c with session := c.session.map f }) s

/-- The session open on a bridge, if one is. -/
def sessionOf (s : State) (b : BridgeId) : Option Session :=
  match s.cal.session with
  | some x => if x.bridge = b then some x else none
  | none => none

/-- A write of a commit is in flight (R31). -/
def commitWriting (s : State) : Bool :=
  match s.cal.store.inFlight with
  | some (.record _ _) => true
  | some (.counter _ _) => true
  | _ => false

/-- A session has no step in progress and no CAL COMMIT taken: it may take a further request (R37). The
rules refuse one for a commit write in flight; a CAL COMMIT taken whose record write still waits behind a ticket number's
(R31) counts as one here, for the steps, CAL TRIM, CAL SET LIMITS and a second CAL COMMIT (DESIGN CHOICE,
notes/assumptions/14.md). -/
def Session.free (x : Session) : Bool := x.step.isNone && x.commit.isNone

/-- A step in progress ends with a result, under its own tag (R37). -/
def endStep (r : Result) (s : State) : State :=
  match s.cal.session.bind (·.step) with
  | some run => answer run.tag r [] (modSession (fun x => { x with step := none }) s)
  | none => s

/-- No corner reading is held. -/
def noCorners : Vector (Option Int) 8 := Vector.replicate 8 none

/-- The zero bound test after CAL SPAN and CAL SET LIMITS: both bounds of R17 against the working copy (R42). -/
def zeroBoundTest (b : BridgeId) (d : CalData) (s : State) : State :=
  modEngine b (fun e => match e.zero with
    | some z =>
      if |z.zinit - d.zCal| ≤ (d.max : Int) ∧ 5 * |z.zb - z.zinit| ≤ (d.max : Int) then e
      else { e with zero := none }
    | none => e) s

/-- CAL ZERO's effect at its stable reading (R38). -/
def calZeroDone (b : BridgeId) (wAvg : Int) (s : State) : State :=
  modEngine b (fun e => { e with zero := some { zb := wAvg, zinit := wAvg }, zeroReturn := true, zeroLimit := false })
    (modSession (fun x => { x with work := { x.work with zCal := wAvg }, corners := noCorners }) s)

/-- The gain CAL SPAN computes, when it is one the step may take (R39). -/
def spanGain (d : CalData) (mass : Nat) (wAvg : Int) : Option Nat :=
  let diff := wAvg - d.zCal
  if diff ≤ 0 then none
  else
    let g := roundDiv ((d.gain * mass * 10 : Nat) : Int) diff.toNat
    if 65536 ≤ g ∧ g ≤ 67108863 then some g.toNat else none

/-- CAL SPAN's effect with its new gain (R39). No rule bounds Z_cal, or Z_b and Z_init as they are scaled: they are exact
numbers, of any size (DESIGN CHOICE, notes/assumptions/33.md). -/
def calSpanDone (b : BridgeId) (g : Nat) (x : Session) (s : State) : State :=
  let scale (z : Int) : Int := roundDiv (z * g) x.work.gain
  let work := { x.work with zCal := scale x.work.zCal, gain := g }
  zeroBoundTest b work
    (modEngine b (fun e => { e with zero := e.zero.map (fun z => { zb := scale z.zb, zinit := scale z.zinit }) })
      (modSession (fun x => { x with work := work, corners := noCorners }) s))

/-- CAL CORNER's effect at its stable reading (R40). -/
def calCornerDone (k : CellPos) (wAvg : Int) (s : State) : State :=
  modSession (fun x => { x with corners := put x.corners k (some (wAvg - x.work.zCal)) }) s

/-- The step in progress on a bridge ends at a valid, stable, in-range sample with its W_avg, and is answered DONE or
RANGE (R37 to R40). The engine's inputs may have changed, so the bridge state is derived. The step's answer is made ready
first and the bridge state derived after it, with its record and NOTICE: no rule orders the two (DESIGN CHOICE,
notes/assumptions/34.md). -/
def stepReading (b : BridgeId) (wAvg : Int) (s : State) : State :=
  match sessionOf s b with
  | none => s
  | some x =>
    match x.step with
    | none => s
    | some run =>
      match run.step with
      | .zero => deriveBridge b (endStep .done (calZeroDone b wAvg s))
      | .corner k => endStep .done (calCornerDone k wAvg s)
      | .span mass =>
        match spanGain x.work mass wAvg with
        | none => endStep .range s
        | some g => deriveBridge b (endStep .done (calSpanDone b g x s))

/-- The 60 s timer of a step expires (R37). -/
def stepTimeout (s : State) : State := endStep .state s

/-- The session is discarded and the saved zero put back, without an answer: steps 2 to 5 of R45. A commit asked for and not
yet begun goes with it. -/
def dropSession (x : Session) (s : State) : State :=
  let s := modEngine x.bridge (fun e => { e with zero := x.savedZero, zeroReturn := x.savedReturn }) s
  let s := releaseClaims 1 s
  let s := modStore (fun st => { st with asked := st.asked.filter (fun w => match w with
    | .record _ _ => false
    | .counter _ _ => false
    | _ => true) }) s
  modCal (fun c => { c with session := none }) s

/-- The abort of R45 on the line's deassertion: a step, or a commit whose write has not begun, is answered LOCKED
(R34, R46). -/
def lineAbort (s : State) : State :=
  match s.cal.session with
  | none => s
  | some x =>
    if commitWriting s then s
    else
      let s := endStep .locked s
      let s := match x.commit with
        | some tag => answer tag .locked [] s
        | none => s
      deriveBridge x.bridge (judge x.bridge (dropSession x s))

/-! ## Writes of a commit (R31, R43, R44) -/

/-- The audit value a commit writes: the counter plus one, or the recovered value (R33). -/
def nextAudit (s : State) : Nat :=
  if s.cal.store.counter.valid then s.cal.store.counter.content + 1
  else (allBridges.foldl (fun m b =>
    if (s.cal.store.records[b]).valid then max m (s.cal.store.records[b]).content.audit else m) 0) + 1

/-- The working copy with the serials bound now (R43 step 1). -/
def withSerials (s : State) (b : BridgeId) (d : CalData) : CalData :=
  { d with cells := d.positions.foldl (fun cells p =>
      alter cells p (fun c => { c with serial := boundSerial s b p })) d.cells }

/-- The record write of a commit completes: the record is VALID, so that the bridge's reason list is derived again (R23,
R30), and the counter write follows at once (R31, R43). The legality is judged when that completes (R44; DEDUCED,
notes/assumptions/14.md). -/
def recordWritten (s : State) : State :=
  match s.cal.store.inFlight with
  | some (.record b r) =>
    deriveBridge b (modStore (fun st => { st with records := put st.records b (written CalRecord.bytes r),
                                                  inFlight := some (.counter b r.audit) }) s)
  | _ => s

/-- The counter write of a commit completes: the steps of R44. The bridges are judged, and then derived, in the order 1 to 4
(DESIGN CHOICE, notes/assumptions/29.md). -/
def counterWritten (s : State) : State :=
  match s.cal.store.inFlight with
  | some (.counter b v) =>
    let s := writeEnds (modStore (fun st => { st with counter := written u16 v }) s)
    let r := (s.cal.store.records[b]).content
    let s := spendClaim (.calibrationCommitted b r.audit r.commitTime r.data.n r.data.e r.data.max r.data.gain
      r.data.zCal r.data.serials) s
    let s := match s.cal.session.bind (·.commit) with
      | some tag => answer tag .done [] s
      | none => s
    let s := modCal (fun c => { c with session := none }) s
    allBridges.foldl (fun s b => deriveBridge b s) (allBridges.foldl (fun s b => judge b s) s)
  | _ => s

/-! ## Requests -/

/-- The session a request acts on: open on the bridge, with no step in progress and no commit taken (R37, R41, R42). -/
def freeSession (s : State) (b : BridgeId) : Option Session :=
  match sessionOf s b with
  | some x => if x.free then some x else none
  | none => none

/-- The working copy CAL BEGIN builds (R36). -/
def beginCopy (item : StoreItem CalRecord) (count : Option Nat) : Option CalData :=
  match item.valid, count with
  | true, none => some item.content.data
  | true, some n =>
    let d := item.content.data
    some { d with n := n, cells := (List.finRange 8).foldl (fun cells p =>
      if p.val < min n d.n then cells else put cells p { serial := none, z := 0, s := 65536 }) d.cells }
  | false, some n => some (CalData.default n)
  | false, none => none

/-- CAL BEGIN (R36), its checks in the order of R36's table also while a commit's write is in flight, where R43 has every other
CAL request refused with STATE (DESIGN CHOICE, notes/assumptions/28.md). -/
def calBegin (_ : Byte) (vs : List (Option Value)) (s : State) : Reply :=
  if !s.calEnable then reply .locked s
  else match vs with
    | [some (.num n), count] =>
      let count := match count with
        | some (.num k) => some k
        | _ => none
      match bridgeOf n with
      | none => reply .range s
      | some b =>
        if (match count with
            | some k => k < 2 || 8 < k
            | none => false) then reply .range s
        else if s.cal.session.isSome then reply .state s
        else if (s.engine[b]).outOfService then reply .state s
        else if granted s b then reply .state s
        else match beginCopy (s.cal.store.records[b]) count with
          | none => reply .range s
          | some work =>
            if !canClaim 1 s then reply .full s
            else
              let x : Session :=
                { bridge := b, work := work, corners := noCorners, savedZero := (s.engine[b]).zero,
                  savedReturn := (s.engine[b]).zeroReturn, step := none, commit := none }
              reply .done (deriveBridge b (modCal (fun c => { c with session := some x }) (takeClaims 1 s)))
    | _ => reply .range s

/-- A step request whose own operands are in range is taken or refused (R37); its answer is deferred. -/
def takeStep (b : BridgeId) (step : CalStep) (tag : Byte) (s : State) : Reply :=
  match freeSession s b with
  | none => reply .state s
  | some _ =>
    (modSession (fun x => { x with step := some { step := step, tag := tag, timer := Config.stepTime } }) s, none)

/-- CAL ZERO (R37, R38). -/
def calZero (tag : Byte) (vs : List (Option Value)) (s : State) : Reply :=
  if !s.calEnable then reply .locked s
  else match vs with
    | [some (.num n)] =>
      match bridgeOf n with
      | none => reply .range s
      | some b => takeStep b .zero tag s
    | _ => reply .range s

/-- CAL SPAN (R37, R39). A mass out of range is RANGE also while a commit's write is in flight, where R43 has every other CAL
request refused with STATE (DESIGN CHOICE, notes/assumptions/28.md). -/
def calSpan (tag : Byte) (vs : List (Option Value)) (s : State) : Reply :=
  if !s.calEnable then reply .locked s
  else match vs with
    | [some (.num n), some (.int mass)] =>
      match bridgeOf n with
      | none => reply .range s
      | some b => if mass < 1 ∨ 150000 < mass then reply .range s else takeStep b (.span mass.toNat) tag s
    | _ => reply .range s

/-- CAL CORNER (R37, R40). A position outside 1 to 8 is out of range whatever the session; one above the working n is judged
against the session on the bridge. Either is RANGE also while a commit's write is in flight, where R43 has every other CAL
request refused with STATE (DESIGN CHOICE, notes/assumptions/28.md). -/
def calCorner (tag : Byte) (vs : List (Option Value)) (s : State) : Reply :=
  if !s.calEnable then reply .locked s
  else match vs with
    | [some (.num n), some (.num k)] =>
      match bridgeOf n, posOf k with
      | some b, some p =>
        match sessionOf s b with
        | none => reply .state s
        | some x => if x.work.n ≤ p.val then reply .range s else takeStep b (.corner p) tag s
      | _, _ => reply .range s
    | _ => reply .range s

/-- The new trims, when every one is in range (R41): the readings of the positions 1 to n are all given and positive. -/
def newTrims (d : CalData) (readings : List (CellPos × Int)) : Option (Vector CalCell 8) :=
  let mean := roundDiv ((readings.map (·.2)).foldl (· + ·) 0) d.n
  readings.foldl (fun acc r => acc.bind (fun cells =>
    let t := roundDiv (((cells[r.1]).s : Int) * mean) r.2.toNat
    if 32768 ≤ t ∧ t ≤ 131071 then some (alter cells r.1 (fun c => { c with s := t.toNat })) else none)) (some d.cells)

/-- CAL TRIM (R41). A bridge number outside 1 to 4, for which R41 gives no result, is RANGE before the session is looked for
(DESIGN CHOICE, notes/assumptions/28.md). -/
def calTrim (_ : Byte) (vs : List (Option Value)) (s : State) : Reply :=
  if !s.calEnable then reply .locked s
  else match vs with
    | [some (.num n)] =>
      match bridgeOf n with
      | none => reply .range s
      | some b =>
        match freeSession s b with
        | none => reply .state s
        | some x =>
          let readings := x.work.positions.map (fun p => (p, x.corners[p]))
          if readings.any (fun r => r.2.isNone) then reply .state s
          else if readings.any (fun r => decide (r.2.getD 0 ≤ 0)) then reply .range s
          else match newTrims x.work (readings.map (fun r => (r.1, r.2.getD 0))) with
            | none => reply .range s
            | some cells =>
              reply .done (modSession (fun x => { x with work := { x.work with cells := cells }, corners := noCorners }) s)
    | _ => reply .range s

/-- A division and a capacity that a record may hold (R32, R42). -/
def limitsValid (e : Nat) (max : Int) : Bool :=
  [1, 2, 5, 10, 20, 50, 100].contains e && decide (1000 ≤ max) && decide (max ≤ 150000) && decide (max % e = 0)
    && decide (max / e ≤ 10000)

/-- CAL SET LIMITS (R42). A bridge number outside 1 to 4, which R42 does not list, is RANGE before the session is looked for
(DESIGN CHOICE, notes/assumptions/28.md). -/
def calSetLimits (_ : Byte) (vs : List (Option Value)) (s : State) : Reply :=
  if !s.calEnable then reply .locked s
  else match vs with
    | [some (.num n), some (.num e), some (.int max)] =>
      match bridgeOf n with
      | none => reply .range s
      | some b =>
        match freeSession s b with
        | none => reply .state s
        | some x =>
          if !limitsValid e max then reply .range s
          else
            let work := { x.work with e := e, max := max.toNat }
            reply .done (deriveBridge b (zeroBoundTest b work (modSession (fun x => { x with work := work }) s)))
    | _ => reply .range s

/-- CAL COMMIT (R43); its answer is deferred. -/
def calCommit (tag : Byte) (vs : List (Option Value)) (s : State) : Reply :=
  if !s.calEnable then reply .locked s
  else match vs with
    | [some (.num n)] =>
      match bridgeOf n with
      | none => reply .range s
      | some b =>
        match freeSession s b with
        | none => reply .state s
        | some x =>
          if !(x.work.positions.all (fun p => filled s (.cell b p))) then reply .state s
          else if Config.max16 < nextAudit s then reply .full s
          else
            let work := withSerials s b x.work
            let r : CalRecord := { data := work, commitTime := stamp s, audit := nextAudit s }
            (askWrite (.record b r) (modSession (fun x => { x with work := work, commit := some tag }) s), none)
    | _ => reply .range s

/-- CAL ABORT (R45). A commit taken counts as a commit write in flight from R43's step 4 on, also while its record write still
waits behind a ticket-number write (R31), so that CAL ABORT is refused STATE there; the line's abort reads the same moment
as no write in flight (DESIGN CHOICE, notes/assumptions/14.md). -/
def calAbort (_ : Byte) (vs : List (Option Value)) (s : State) : Reply :=
  if !s.calEnable then reply .locked s
  else match vs with
    | [some (.num n)] =>
      match bridgeOf n with
      | none => reply .range s
      | some b =>
        match sessionOf s b with
        | none => reply .state s
        | some x =>
          if x.commit.isSome then reply .state s
          else reply .done (deriveBridge b (judge b (dropSession x (endStep .state s))))
    | _ => reply .range s

/-- The step of a session in an answer: its kind, the mass or position of the kinds that have one, with no presence byte,
and its time remaining. R48 lays it out nowhere and lists no tag, which section 2.4 keeps with the step: none is sent
(DESIGN CHOICE, notes/assumptions/5.md). -/
def StepRun.bytes (r : StepRun) : Bytes :=
  (match r.step with
    | .zero => u8 1
    | .span mass => u8 2 ++ weight4 mass
    | .corner k => u8 3 ++ idx1 k) ++ u32 r.timer

/-- A run of items with its count. -/
def counted {α : Type} (f : α → Bytes) (xs : List α) : Bytes := u8 xs.length ++ xs.flatMap f

/-- READ CALIBRATION (R48). 'Commit write in flight' is no while a commit's record write still waits behind a ticket number's
(R31; DESIGN CHOICE, notes/assumptions/14.md). -/
def readCalibration (_ : Byte) (vs : List (Option Value)) (s : State) : Reply :=
  match vs with
  | [some (.num n)] =>
    match bridgeOf n with
    | none => reply .range s
    | some b =>
      let item := s.cal.store.records[b]
      let counter := s.cal.store.counter
      let judged : Option (Bool × List CellPos) :=
        if item.valid && !sessionOn s b then some (s.cal.restricted[b], differing s b) else none
      replyWith .done
        (flag1 item.valid
          ++ opt CalRecord.items (if item.valid then some item.content else none)
          ++ flag1 counter.valid ++ opt u16 (if counter.valid then some counter.content else none)
          ++ opt (fun j : Bool × List CellPos => flag1 j.1 ++ counted idx1 j.2) judged
          ++ flag1 (sessionOn s b)
          ++ opt (fun x : Session =>
              x.work.bytes ++ x.work.positions.flatMap (fun p => opt weight4 (x.corners[p]))
                ++ opt StepRun.bytes x.step ++ flag1 (commitWriting s)) (sessionOf s b)) s
  | _ => reply .range s

end Sys2Proof.Machine
end

