-- ==== Sys2Proof/Machine/Engine.lean ====
section
/-! DEFINITION. The weighing engine (Chapter 1): sample intake, the bridge sample with its stages, zero, captures, and the bridge requests. -/
namespace Sys2Proof.Machine

/-! ## Sample intake (R2, R3) -/

/-- A good SAMPLE answer as the node sent it (R216). -/
structure Reading where
  count : Int
  seq : Byte
  overrange : Bool
  underrange : Bool
  cellFault : Bool
  deriving DecidableEq, Repr

/-- The entry after a good answer (R2). -/
def SampleEntry.take (e : SampleEntry) (r : Reading) : SampleEntry :=
  let e := if e.seq = some r.seq then e
    else { e with count := some r.count, seq := some r.seq, stale := 0, advanced := true }
  { e with overrange := r.overrange, underrange := r.underrange, cellFault := r.cellFault, missed := false }

/-- A good answer is delivered for a position (R2). -/
def deliverSample (b : BridgeId) (p : CellPos) (r : Reading) (s : State) : State :=
  modEngine b (fun e => { e with samples := alter e.samples p (fun x => x.take r) }) s

/-- Every position's missed mark is set at the start of a scan cycle (R2). -/
def setMissed (s : State) : State :=
  allBridges.foldl (fun s b =>
    modEngine b (fun e => { e with samples := e.samples.map (fun x => { x with missed := true }) }) s) s

/-- The cycles-without-advance count at the end of the cell-poll part (R3). -/
def SampleEntry.endPart (e : SampleEntry) : SampleEntry :=
  { e with stale := if e.advanced then e.stale else min 3 (e.stale + 1), advanced := false }

/-- The counts of a bridge's positions are raised (R3). -/
def raiseStale (b : BridgeId) (s : State) : State :=
  modEngine b (fun e => { e with samples := e.samples.map SampleEntry.endPart }) s

/-! ## The computation stages (R5 to R13) -/

/-- A position is fit for a valid sample (R4). -/
def positionFit (s : State) (b : BridgeId) (p : CellPos) : Bool :=
  let x := (s.engine[b]).samples[p]
  (roleOf s (.cell b p)).fill != .empty && !x.missed && x.stale < 3 && !x.cellFault

/-- The bridge sample taken now is valid (R4). -/
def sampleValid (s : State) (b : BridgeId) : Bool :=
  match source s b with
  | some d => d.positions.all (positionFit s b)
  | none => false

/-- Stages 1 and 2 for a position: offset and trim (R6). -/
def trimmed (c : CalCell) (count : Int) : Int := roundDiv ((count - c.z) * c.s) 65536

/-- A value held within the saturation bounds of W_fine (R7). -/
def saturate (w : Int) : Int :=
  if Config.maxFine < w then Config.maxFine else if w < -Config.maxFine then -Config.maxFine else w

/-- Stages 1 to 3: W_fine from the latest counts (R6, R7). -/
def wFine (d : CalData) (counts : CellPos → Int) : Int :=
  let sum := (d.positions.map (fun p => trimmed (d.cells[p]) (counts p))).foldl (· + ·) 0
  saturate (roundDiv (sum * d.gain) 1048576)

/-- A value joins a window at its newest end; the oldest leaves a window that held `n` (R8, R9). -/
def joinWindow (n : Nat) (window : List Int) (w : Int) : List Int :=
  let all := window ++ [w]
  all.drop (all.length - n)

/-- Stage 4's average of the values held (R8). -/
def average (window : List Int) : Int := roundDiv (window.foldl (· + ·) 0) window.length

/-- The largest value of a window. -/
def largest (window : List Int) : Int := window.foldl max (window.headD 0)
/-- The smallest value of a window. -/
def smallest (window : List Int) : Int := window.foldl min (window.headD 0)

/-- The motion test: too few values, or a spread beyond the band (R9). -/
def inMotion (m : Nat) (band : Int) (window : List Int) : Bool :=
  decide (window.length < m) || decide (band < largest window - smallest window)

/-- The motion band in use (R9). -/
def bandInUse (p : BridgeParams) (e : Nat) : Int := p.band.getD (5 * e)

/-- An invalid bridge sample (R5, R12, R13). -/
def Engine.invalidSample (e : Engine) : Engine :=
  let e := { e with hold := 0, live := .invalid, stable := false, occupied := true, invalidRun := e.invalidRun + 1 }
  if 3 ≤ e.invalidRun then { e with filter := [], motion := [], w := none, wAvg := none, invalidRun := 0 } else e

/-- Stages 4 and 5 of a valid sample: the windows, the average and the hold count (R8, R9). -/
def Engine.windows (e : Engine) (band w : Int) : Engine :=
  let filter := joinWindow e.params.n e.filter w
  let motion := joinWindow e.params.m e.motion w
  let hold := if inMotion e.params.m band motion then 0 else min 64 (e.hold + 1)
  { e with filter := filter, motion := motion, wAvg := some (average filter), hold := hold,
           stable := decide (e.params.hold ≤ hold), invalidRun := 0 }

/-- The initial zero is tried at this sample: no zero, not CALIBRATING, stable, both beams clear and no cell out of range
(R14). -/
def zeroTried (s : State) (b : BridgeId) : Bool :=
  let e := s.engine[b]
  e.zero.isNone && e.status != .calibrating && e.stable && beamsClear s b && inRange s b

/-- Stages 6 to 8 with occupancy and the zero-return mark (R10, R11, R13, R18). -/
def Engine.weigh (e : Engine) (d : CalData) (overrange underrange : Bool) : Engine :=
  let zero := (e.zero.map (·.zb)).getD d.zCal
  let w := toDivision d.e (e.wAvg.getD 0 - zero)
  let live := liveState d.e d.max w overrange underrange e.zero.isSome e.stable
  { e with w := some w, live := live, occupied := decide (((e.params.threshold * d.e : Nat) : Int) ≤ w),
           zeroReturn := e.zeroReturn || (live == .stable && decide (w = 0)) }

/-- The initial zero is established at this sample when it is tried and within the range (R14). -/
def establishZero (b : BridgeId) (d : CalData) (s : State) : State :=
  let wAvg := ((s.engine[b]).wAvg).getD 0
  if zeroTried s b then
    if |wAvg - d.zCal| ≤ (d.max : Int) then
      modEngine b (fun e => { e with zero := some { zb := wAvg, zinit := wAvg }, zeroReturn := true, episode := false }) s
    else if (s.engine[b]).episode then s
    else queueRecord (.zeroRange b (wAvg - d.zCal)) (modEngine b (fun e => { e with episode := true }) s)
  else if (s.engine[b]).stable && beamsClear s b then s
  else modEngine b (fun e => { e with episode := false }) s

/-- The stages of a valid sample (R6 to R14, R18). -/
def validSample (b : BridgeId) (d : CalData) (s : State) : State :=
  let e := s.engine[b]
  let w := wFine d (fun p => ((e.samples[p]).count).getD 0)
  let over_ := d.positions.any (fun p => (e.samples[p]).overrange)
  let under := d.positions.any (fun p => (e.samples[p]).underrange)
  let s := modEngine b (fun e => e.windows (bandInUse e.params d.e) w) s
  let s := establishZero b d s
  deriveBridge b (modEngine b (fun e => e.weigh d over_ under) s)

/-! ## Captures (R20, R21) -/

/-- The weight record a capture builds at this sample (R20, R21). -/
def buildRecord (s : State) (b : BridgeId) (d : CalData) (w : Int) : WeightRecord :=
  let e := s.engine[b]
  let legality : Legality := if e.status = .ready then .ready else .restricted
  { bridge := b.val + 1, weight := w, e := d.e, time := stamp s, stableMark := true, zeroReturn := e.zeroReturn,
    trade := tradeMark legality e.zeroReturn d.e d.max w, legality := legality }

/-- A held capture request is answered at a fitting sample (R20). -/
def captureTest (b : BridgeId) (d : CalData) (s : State) : State :=
  let e := s.engine[b]
  match e.capture, e.w with
  | some r, some w =>
    if e.live = .stable ∧ beamClear s b r.far ∧ (e.status = .ready ∨ e.status = .restricted) then
      let rec_ := buildRecord s b d w
      deliverCapture r.lane rec_
        (modEngine b (fun e => { e with previous := e.last, last := some rec_, zeroReturn := false, capture := none }) s)
    else s
  | _, _ => s

/-- The step in progress reads this sample when it is stable with no cell out of range (R37). -/
def stepTest (b : BridgeId) (s : State) : State :=
  let e := s.engine[b]
  match e.wAvg with
  | some w => if e.stable && inRange s b then stepReading b w s else s
  | none => s

/-- The bridge sample of a bridge (R4): stages, zero, derivation, calibration step and capture; then the sequencer's tests. -/
def bridgeSample (b : BridgeId) (s : State) : State :=
  let s := match source s b, sampleValid s b with
    | some d, true => captureTest b d (stepTest b (validSample b d s))
    | _, _ => modEngine b Engine.invalidSample s
  sampleReport b s

/-- The end of the cell-poll part: the counts of R3 for every position, then one bridge sample for each bridge (R4, R55). -/
def endCellPolls (s : State) : State :=
  allBridges.foldl (fun s b => bridgeSample b s) (allBridges.foldl (fun s b => raiseStale b s) s)

/-! ## Zero tracking (R16) -/

/-- The step zero tracking would make, toward W_avg (R16). -/
def trackStep (e : Nat) (wAvg zb : Int) : Int :=
  if zb ≤ wAvg then min (wAvg - zb) e else -(min (zb - wAvg) e)

/-- The zero-tracking timer expires (R16). The cell range, e and Max are read from the source as it stands now
(notes/assumptions/20.md). -/
def trackExpiry (b : BridgeId) (s : State) : State :=
  let s := modEngine b (fun e => { e with trackTimer := Config.trackTime }) s
  let e := s.engine[b]
  match e.zero, e.wAvg, source s b with
  | some z, some wAvg, some d =>
    if e.status ≠ .calibrating ∧ e.stable ∧ inRange s b ∧ |wAvg - z.zb| ≤ (5 * d.e : Int) ∧ !granted s b ∧ beamsClear s b
    then
      let step := trackStep d.e wAvg z.zb
      if step = 0 then s
      else if 5 * |z.zb + step - z.zinit| ≤ (d.max : Int) then
        modEngine b (fun e => { e with zero := some { z with zb := z.zb + step }, zeroLimit := false }) s
      else if e.zeroLimit then s
      else queueRecord (.zeroLimit b z.zb z.zinit) (modEngine b (fun e => { e with zeroLimit := true }) s)
    else s
  | _, _, _ => s

/-! ## Requests -/

/-- ZERO BRIDGE (R15). The cell range and Max are read from the source as it stands now (notes/assumptions/20.md). -/
def zeroBridge (_ : Byte) (vs : List (Option Value)) (s : State) : Reply :=
  match vs with
  | [some (.num n)] =>
    match bridgeOf n with
    | none => reply .range s
    | some b =>
      let e := s.engine[b]
      if e.status = .calibrating then reply .state s
      else match e.zero with
        | none => reply .state s
        | some z =>
          if !e.stable ∨ !inRange s b then reply .state s
          else if granted s b then reply .state s
          else if !beamsClear s b then reply .state s
          else match e.wAvg, source s b with
            | some wAvg, some d =>
              if (d.max : Int) < 5 * |wAvg - z.zinit| then reply .range s
              else reply .done (modEngine b (fun e => { e with zero := some { z with zb := wAvg }, zeroLimit := false }) s)
            | _, _ => reply .state s
  | _ => reply .range s

/-- An integer setting taken to the nearer end of its range. -/
def clampInt (lo hi v : Int) : Int := if v < lo then lo else if hi < v then hi else v

/-- The parameters taken, with N and M compared: a change of either empties both windows and the hold count (R25). -/
def Engine.setParams (e : Engine) (p : BridgeParams) : Engine :=
  if e.params.n ≠ p.n ∨ e.params.m ≠ p.m then { e with params := p, filter := [], motion := [], hold := 0, stable := false }
  else { e with params := p }

/-- SET BRIDGE PARAMETERS (R25). An absent motion band stands for "unset". -/
def setBridgeParameters (_ : Byte) (vs : List (Option Value)) (s : State) : Reply :=
  match vs with
  | [some (.num k), some (.num n), some (.num m), band, some (.num hold), some (.num threshold)] =>
    match bridgeOf k with
    | none => reply .range s
    | some b =>
      let given : Option Int := match band with
        | some (.int i) => some i
        | _ => none
      let p : BridgeParams :=
        { n := clamp 1 32 n, m := clamp 2 32 m, band := given.map (clampInt 1 10000), hold := clamp 1 64 hold,
          threshold := clamp 5 500 threshold }
      if granted s b ∨ (s.engine[b]).status = .calibrating then reply .state s
      else
        let same := p.n = n ∧ p.m = m ∧ p.band = given ∧ p.hold = hold ∧ p.threshold = threshold
        reply (if same then .done else .doneClamped) (modEngine b (fun e => e.setParams p) s)
  | _ => reply .range s

/-- SET BRIDGE SERVICE (R26): action 1 is OUT and 2 is IN, in the order the rule lists them. -/
def setBridgeService (_ : Byte) (vs : List (Option Value)) (s : State) : Reply :=
  match vs with
  | [some (.num k), some (.num action)] =>
    match bridgeOf k with
    | none => reply .range s
    | some b =>
      if action = 1 then
        if granted s b ∨ (s.engine[b]).status = .calibrating then reply .state s
        else reply .done (deriveBridge b (modEngine b (fun e => { e with outOfService := true }) s))
      else reply .done (deriveBridge b (modEngine b (fun e => { e with outOfService := false }) s))
  | _ => reply .range s

/-- A zero in an answer. -/
def Zero.bytes (z : Zero) : Bytes := weight4 z.zb ++ weight4 z.zinit

/-- What READ BRIDGE returns of a calibrated position (R27). -/
def positionItems (s : State) (b : BridgeId) (p : CellPos) : Bytes :=
  let x := (s.engine[b]).samples[p]
  u8 (roleOf s (.cell b p)).fill.code ++ opt weight4 x.count ++ opt (fun q : Byte => [q]) x.seq
    ++ marks1 [decide (3 ≤ x.stale), x.missed, x.overrange, x.underrange, x.cellFault]

/-- READ BRIDGE (R27). The band in use and the calibrated positions are those of the calibration source as it stands, also
between a change of the source and the next bridge sample, from which on R1 lets it apply (DESIGN CHOICE,
notes/assumptions/20.md). -/
def readBridge (_ : Byte) (vs : List (Option Value)) (s : State) : Reply :=
  match vs with
  | [some (.num k)] =>
    match bridgeOf k with
    | none => reply .range s
    | some b =>
      let e := s.engine[b]
      replyWith .done
        (u8 e.status.code ++ e.reasons.bytes ++ u8 e.live.code ++ opt weight4 e.w
          ++ opt weight4 e.wAvg ++ u8 e.hold
          ++ flag1 e.zero.isSome ++ opt Zero.bytes e.zero
          ++ marks1 [e.zeroReturn, e.zeroLimit]
          ++ opt (fun r : CaptureRequest => idx1 r.lane ++ u8 r.far.code) e.capture
          ++ opt WeightRecord.bytes e.last ++ opt WeightRecord.bytes e.previous
          ++ u8 e.params.n ++ u8 e.params.m ++ opt weight4 e.params.band ++ u8 e.params.hold ++ u16 e.params.threshold
          ++ opt weight4 (match e.params.band, source s b with
              | some x, _ => some x
              | none, some d => some (5 * d.e : Int)
              | none, none => none)
          ++ flag1 e.outOfService
          ++ counted (positionItems s b) (calibrated s b)) s
  | _ => reply .range s

end Sys2Proof.Machine
end

