-- ==== Sys2Proof/Machine/Printing.lean ====
section
/-! DEFINITION. The ticket unit's printing (Chapter 8): composing (R183, R184), printing a head ticket (R185), a ticket's end (R186 to R188), and the requests of the chapter. Numbering is in Machine/Numbering.lean. -/
namespace Sys2Proof.Machine

/-! ## Text (R183) -/

/-- The decimal digits of a number, with `fuel` at least their count. -/
def digitsOf : Nat → Nat → Text
  | 0, _ => []
  | fuel + 1, n =>
    if n < 10 then [BitVec.ofNat 8 (48 + n)] else digitsOf fuel (n / 10) ++ [BitVec.ofNat 8 (48 + n % 10)]

/-- A number in decimal. Every number printed has at most 30 digits. -/
def decimal (n : Nat) : Text := digitsOf 30 n

/-- A number with leading zeros to a fixed count of digits. -/
def padded (k n : Nat) : Text := List.replicate (k - (decimal n).length) 48 ++ decimal n

/-- Commas between groups of three digits, counted from the right; the list is the digits in reverse. -/
def commas : Text → Text
  | a :: b :: c :: d :: rest => a :: b :: c :: 44 :: commas (d :: rest)
  | short => short

/-- A number with thousands separators. -/
def thousands (n : Nat) : Text := (commas (decimal n).reverse).reverse

/-- A signed number with thousands separators. R183 gives no sign for a weight below 0: the model puts the byte 0x2D, a hyphen,
before the digits (DESIGN CHOICE, notes/assumptions/35.md). -/
def signedThousands (i : Int) : Text := if i < 0 then 45 :: thousands i.natAbs else thousands i.natAbs

/-- A weight: kilograms with thousands separators, then " kg" (R183). -/
def weightText (w : Int) : Text := signedThousands w ++ ascii " kg"

/-- Money: units with thousands separators, a point and two digits (R183). -/
def moneyText (cents : Nat) : Text := thousands (cents / 100) ++ ascii "." ++ padded 2 (cents % 100)

/-- The time of day of a seconds count as hh:mm:ss (R183). -/
def timeText (secs : Nat) : Text :=
  let t := secs % 86400
  padded 2 (t / 3600) ++ ascii ":" ++ padded 2 (t / 60 % 60) ++ ascii ":" ++ padded 2 (t % 60)

/-- The value of a weight line: the weight, the day number, the time of day, the bridge, and NT without the trade mark. A
time stamped while the clock was unset has a U before it (R183). -/
def weightLine (w : WeightRecord) : Text :=
  weightText w.weight ++ ascii " " ++ (if w.time.set then [] else ascii "U") ++ decimal (dayNumber w.time.secs)
    ++ ascii " " ++ timeText w.time.secs ++ ascii " B" ++ decimal w.bridge ++ (if w.trade then [] else ascii " NT")

/-- The tare line's value (R183). -/
def tareText (t : TareSource) (value : Int) : Text :=
  (match t with
    | .stored _ => ascii "STORED "
    | .declared _ => ascii "DECLARED "
    | .twoPass => ascii "TWO_PASS ") ++ weightText value

/-- A labelled line: the label, a colon, a space and the value. -/
def labelled (label : String) (value : Text) : Text := ascii label ++ ascii ": " ++ value

/-- The lines of a ticket in order (R183). -/
def ticketLines (s : State) (t : Ticket) : List Text :=
  let c := t.content
  s.tickets.headers.toList.filterMap id
    ++ (if t.kind = .copy then [ascii "COPY"] else [])
    ++ [labelled "TICKET" (padded 8 (t.number.getD 0)),
        labelled "VISIT" (decimal c.visit),
        labelled "VEHICLE" c.vehicle,
        labelled "ACCOUNT" (if c.account = 0 then ascii "WALK-IN" else decimal c.account),
        labelled "MATERIAL" (decimal c.material),
        labelled "WT1" (weightLine c.first),
        labelled "WT2" (weightLine c.second),
        labelled "TARE" (tareText c.tare c.tareValue),
        labelled "NET" (weightText c.charge.net),
        labelled "GATE" (moneyText c.charge.gate),
        labelled "LEVY" (moneyText c.charge.levy),
        labelled "TOTAL" (moneyText c.charge.total),
        labelled "AUDIT" (if s.cal.store.counter.valid then decimal s.cal.store.counter.content else ascii "UNVERIFIED")]
    ++ (if c.account = 0 then [ascii "PAYMENT DUE"] else [])
    ++ (if c.overweight then [ascii "OVERWEIGHT"] else [])
    ++ (if c.first.trade && c.second.trade then [] else [ascii "NT: NOT A TRADE WEIGHT"])

/-- A text cut from its start into runs of `k` characters, the remainder last; `fuel` is at least its length (R184). -/
def chunks (k : Nat) : Nat → Text → List Text
  | 0, t => [t]
  | fuel + 1, t => if t.length ≤ k then [t] else t.take k :: chunks k fuel (t.drop k)

/-- The parts of one composed line: LAST on the last, MORE on the others (R184). -/
def lineParts (size : Nat) (line : Text) : List (Bool × Text) :=
  let parts := chunks size line.length line
  parts.dropLast.map (fun p => (false, p)) ++ (parts.getLast?.toList.map (fun p => (true, p)))

/-- The PRINT LINE parts of a ticket for a printer's width and maximum payload (R184). -/
def composeParts (width payload : Nat) (lines : List Text) : List (Bool × Text) :=
  (lines.flatMap (fun t => chunks width t.length t)).flatMap (lineParts (payload - 1))

/-! ## The head ticket (R185) -/

/-- The head ticket of a printer changed. -/
def modHead (l : LaneId) (f : Ticket → Ticket) (s : State) : State :=
  modPrinter l (fun p => { p with queue := match p.queue with
    | t :: rest => f t :: rest
    | [] => [] }) s

/-- The command the head ticket offers next: its part, or PRINT END after the last (R184). -/
def Ticket.command (t : Ticket) : CommandFrame :=
  match t.parts[t.pos]? with
  | some (last, part) => .printLine last part
  | none => .printEnd (t.jobTag.getD 0)

/-- The head ticket offers its command to the node that fills the printer; a failure it meets is given back (R185). -/
def offerPart (l : LaneId) (s : State) : State × Option TicketFailure :=
  match (s.tickets.printers[l]).queue, (roleOf s (.printer l)).node with
  | t :: _, some (a, _) =>
    match offer a t.command (.ticket l (t.jobTag.getD 0)) s with
    | (s, none) => (modPrinter l (fun p => { p with outstanding := true }) s, none)
    | (s, some .queueFull) => (modPrinter l (fun p => { p with retry := some Config.printRetryTime }) s, none)
    | (s, some .tooLong) => (s, some .refused)
    | (s, some .notActive) => (s, some .printerLost)
  | _ :: _, none => (s, some .printerLost)
  | [], _ => (s, none)

/-- Line width of a printer, clamped (R90). -/
def lineWidth (d : NodeDesc) : Nat := clamp 24 64 d.width

/-- The descriptor of the node that fills a printer. -/
def printerDesc (s : State) (l : LaneId) : Option NodeDesc :=
  match (roleOf s (.printer l)).node with
  | some (a, _) => (s.bus.nodes[a]).desc
  | none => none

/-- A WAITING head starts printing, in the order of R185. -/
def startPrinting (l : LaneId) (s : State) : State × Option TicketFailure :=
  let tag := ((s.tickets.printers[l]).jobTag + 1) % 256
  let limit := (((s.seq.lanes[l]).config.map (·.printTime)).getD Config.defaultPrintLimit) * 1000
  let width := ((printerDesc s l).map lineWidth).getD 24
  let payload := ((printerDesc s l).map (·.maxPayload)).getD 16
  let s' := modPrinter l (fun p => { p with jobTag := tag, timer := some { limit := limit, left := limit } }) s
  offerPart l (modHead l (fun t => { t with
    jobTag := some tag, stage := .printing, parts := composeParts width payload (ticketLines s t), pos := 0 }) s')

/-- The oldest visit of the hand-over list for a printer takes a freed place (R179). -/
def fillPlace (l : LaneId) (s : State) : State :=
  match s.tickets.handOver.find? (fun x => x.2 = l) with
  | some x => handOver x.1 l (modTickets (fun t => { t with handOver := t.handOver.erase x }) s)
  | none => s

/-- The head ticket of a printer ends: steps 1 to 5 of R188; `failure` is absent for PRINTED. -/
def endTicket (l : LaneId) (failure : Option TicketFailure) (s : State) : State :=
  match (s.tickets.printers[l]).queue with
  | [] => s
  | t :: _ =>
    let s := modPrinter l (fun p => { p with
      queue := p.queue.tail, timer := none, retry := none, outstanding := false,
      lastJob := some { kind := t.kind, number := t.number, jobTag := t.jobTag, failure := failure } }) s
    let s := match t.kind with
      | .copy => s
      | .original =>
        let lane := (findVisit s t.content.visit).bind (·.lane)
        let s := closeVisit t.content.visit t.number failure s
        match lane with
        | some k => ticketTold k failure.isNone s
        | none => s
    fillPlace l s

/-- The head ticket is started when R185 allows, or fails at once while the fill is EMPTY; a ticket that ends so lets the
next one try. `fuel` bounds the tickets that can end: a queue holds 4, and those that join from the hand-over list are
not numbered. The fill is the one stored: as a printer's node goes SILENT, R59 tells NOT_DELIVERED before the fill is
derived, so that each WAITING ticket then starts on the FILLED that still stands and fails PRINTER_LOST in turn (DESIGN
CHOICE, notes/assumptions/9.md). -/
def runHead : Nat → LaneId → State → State
  | 0, _, s => s
  | fuel + 1, l, s =>
    match (s.tickets.printers[l]).queue with
    | [] => s
    | t :: _ =>
      if t.stage ≠ .waiting then s
      else match (roleOf s (.printer l)).fill with
        | .degraded => s
        | .empty => runHead fuel l (endTicket l (some .noPrinter) s)
        | .filled =>
          match startPrinting l s with
          | (s, none) => s
          | (s, some f) => runHead fuel l (endTicket l (some f) s)

/-- The head ticket is started when R185 allows. -/
def startHead (l : LaneId) (s : State) : State := runHead 5 l s

/-- A ticket ends, all six steps of R188. -/
def ticketEnd (l : LaneId) (failure : Option TicketFailure) (s : State) : State := startHead l (endTicket l failure s)

/-- The head ticket is PRINTING or AWAITING_DONE. -/
def headPrints (s : State) (l : LaneId) : Bool :=
  match (s.tickets.printers[l]).queue with
  | t :: _ => t.stage == .printing || t.stage == .awaitingDone
  | [] => false

/-- The head ticket's command is offered, and a failure it meets ends the ticket (R185). -/
def offerOrEnd (l : LaneId) (s : State) : State :=
  match offerPart l s with
  | (s, none) => s
  | (s, some f) => ticketEnd l (some f) s

/-- A print command is ANSWERED ACK (R185). -/
def printAck (l : LaneId) (tag : Nat) (f : CommandFrame) (s : State) : State :=
  if ticketWaits s l tag then
    let s := modPrinter l (fun p => { p with outstanding := false }) s
    match f with
    | .printEnd _ => modHead l (fun t => { t with stage := .awaitingDone }) s
    | _ => offerOrEnd l (modHead l (fun t => { t with pos := t.pos + 1 }) s)
  else s

/-- A print command is ANSWERED NAK REFUSED or NOT_DELIVERED: the ticket fails (R185). -/
def printFail (l : LaneId) (tag : Nat) (failure : TicketFailure) (s : State) : State :=
  if ticketWaits s l tag then ticketEnd l (some failure) s else s

/-- The print retry timer expires (R185). -/
def printRetry (l : LaneId) (s : State) : State :=
  if (s.tickets.printers[l]).retry.isSome then offerOrEnd l (modPrinter l (fun p => { p with retry := none }) s) else s

/-- The print timer expires (R187). -/
def printTimeout (l : LaneId) (s : State) : State :=
  if (s.tickets.printers[l]).timer.isSome then ticketEnd l (some .timeout) s else s

/-- A DONE report (R186). -/
def doneReport (l : LaneId) (tag : Nat) (s : State) : State :=
  match (s.tickets.printers[l]).queue with
  | t :: _ =>
    if headPrints s l && decide (t.parts.length ≤ t.pos) && t.jobTag == some tag then ticketEnd l none s else s
  | [] => s

/-- A PAPER_OUT or JAM report (R187). -/
def printerTrouble (l : LaneId) (failure : TicketFailure) (s : State) : State :=
  if headPrints s l then ticketEnd l (some failure) s else s

/-- The printer's fill has become EMPTY (R187). -/
def printerEmptied (l : LaneId) (s : State) : State :=
  if headPrints s l then ticketEnd l (some .noPrinter) s else startHead l s

/-- A different node is bound to the printer (R187). -/
def printerChanged (l : LaneId) (s : State) : State :=
  if headPrints s l then ticketEnd l (some .printerLost) s else startHead l s

/-! ## Completed number writes (R180, R182) -/

/-- The write of a numbering completes: the oldest write asked for starts (R31), the ticket takes its number, the numbering in
flight becomes none and step 1 runs again (R180 step 4); then the ticket may start printing (R185). -/
def ticketNumbered (s : State) : State :=
  match s.cal.store.inFlight, s.tickets.inFlight with
  | some (.ticket next), some (v, l, k) =>
    startHead l (startNumbering (modOriginal l v (fun t => { t with number := some k, stage := .waiting })
      (modTickets (fun x => { x with inFlight := none })
        (writeEnds (modStore (fun st => { st with ticket := written u32 next }) s)))))
  | _, _ => s

/-- The write of SET TICKET NUMBER completes: the item is VALID, the request is answered and numbering resumes (R182). -/
def numberSet (s : State) : State :=
  match s.cal.store.inFlight with
  | some (.setTicket v tag) =>
    startNumbering (answer tag .done [] (writeEnds (modStore (fun st => { st with ticket := written u32 v }) s)))
  | _ => s

/-! ## Requests -/

/-- A SET TICKET NUMBER write is asked or running. -/
def numberSetting (st : Store) : Bool :=
  let isSet (w : StoreWrite) : Bool := match w with
    | .setTicket _ _ => true
    | _ => false
  (st.inFlight.map isSet).getD false || st.asked.any isSet

/-- SET TICKET NUMBER (R182); its answer is deferred. -/
def setTicketNumber (tag : Byte) (vs : List (Option Value)) (s : State) : Reply :=
  match vs with
  | [some (.num n)] =>
    if n < 1 ∨ Config.maxTicket < n then reply .range s
    else if s.cal.store.ticket.valid then reply .state s
    else if numberSetting s.cal.store then reply .state s
    else (askWrite (.setTicket n tag) s, none)
  | _ => reply .range s

/-- The newest VISIT_CLOSED record in the queue that carries a ticket number (R189). -/
def closedRecord (s : State) (number : Nat) : Option ClosedVisit :=
  (s.port.records.reverse.findSome? fun r => match r.body with
    | .visitClosed c => if c.ticket = some number then some c else none
    | _ => none)

/-- REPRINT TICKET (R189). -/
def reprintTicket (_ : Byte) (vs : List (Option Value)) (s : State) : Reply :=
  match vs with
  | [some (.num n), some (.num k)] =>
    match laneOf k with
    | none => reply .range s
    | some l =>
      if n < 1 ∨ Config.maxTicket < n then reply .range s
      else match closedRecord s n with
        | none => reply .notFound s
        | some c =>
          if (roleOf s (.printer l)).fill = .empty then reply .state s
          else if Config.ticketSlots ≤ (s.tickets.printers[l]).queue.length then reply .full s
          else
            let t : Ticket := { kind := .copy, number := some n, stage := .waiting, content := c.content, parts := [],
                                pos := 0, jobTag := none }
            reply .done (startHead l (modPrinter l (fun p => { p with queue := p.queue ++ [t] }) s))
  | _ => reply .range s

/-- SET TICKET HEADER (R190). -/
def setTicketHeader (_ : Byte) (vs : List (Option Value)) (s : State) : Reply :=
  match vs with
  | [some (.num n), some (.text t)] =>
    match bridgeOf n with
    | none => reply .range s
    | some i =>
      if 64 < t.length then reply .range s
      else reply .done (modTickets (fun x => { x with headers := put x.headers i (if t = [] then none else some t) }) s)
  | _ => reply .range s

/-- A ticket of the queue in an answer (R191). -/
def Ticket.items (t : Ticket) : Bytes :=
  u8 t.kind.code ++ u16 t.content.visit ++ opt u32 t.number ++ u8 t.stage.code ++ opt u8 t.jobTag

/-- The last job in an answer (R191). -/
def LastJob.items (j : LastJob) : Bytes :=
  u8 j.kind.code ++ opt u32 j.number ++ opt u8 j.jobTag ++ u8 (if j.failure.isNone then 1 else 2)
    ++ u8 ((j.failure.map (·.code)).getD 0)

/-- The head ticket's commands answered and in all, and the print timer (R191). R191 states no range for the two counts:
two bytes each (DESIGN CHOICE, notes/assumptions/5.md). -/
def headItems (s : State) (l : LaneId) : Option Bytes :=
  match (s.tickets.printers[l]).queue with
  | t :: _ =>
    if headPrints s l then
      let sent := if t.stage = .awaitingDone then t.parts.length + 1 else t.pos
      some (u16 sent ++ u16 (t.parts.length + 1)
        ++ u32 (((s.tickets.printers[l]).timer.map (·.left)).getD 0))
    else none
  | [] => none

/-- READ TICKETS (R191). Line width and maximum payload share one presence byte (DESIGN CHOICE, notes/assumptions/5.md). A SET
TICKET NUMBER write asked for and waiting behind a commit is returned as in flight, as a numbering's is (DESIGN CHOICE,
notes/assumptions/14.md). -/
def readTickets (_ : Byte) (vs : List (Option Value)) (s : State) : Reply :=
  match vs with
  | [some (.num k)] =>
    match laneOf k with
    | none => reply .range s
    | some l =>
      let p := s.tickets.printers[l]
      let fill := (roleOf s (.printer l)).fill
      let desc := if fill = .empty then none else printerDesc s l
      let item := s.cal.store.ticket
      let writing := s.tickets.inFlight.isSome || numberSetting s.cal.store
      replyWith .done
        (u8 fill.code ++ opt (fun d : NodeDesc => u8 (lineWidth d) ++ u8 d.maxPayload) desc
          ++ counted Ticket.items p.queue ++ opt id (headItems s l) ++ u8 p.jobTag ++ opt LastJob.items p.lastJob
          ++ u8 (s.tickets.handOver.filter (fun x => x.2 = l)).length
          ++ opt u32 (if item.valid then some item.content else none) ++ flag1 item.valid
          ++ u8 s.tickets.numbering.length ++ flag1 writing
          ++ s.tickets.headers.toList.flatMap (fun h => opt string1 h)) s
  | _ => reply .range s

end Sys2Proof.Machine
end

