-- ==== Sys2Proof/Machine/SitePlan.lean ====
section
/-! DEFINITION. The site plan (Chapter 4): bindings (R83), misfits (R85), attention offers (R86), fills and the owners told of them (R88, R89), and the requests of the chapter. -/
namespace Sys2Proof.Machine

/-! ## Lookups -/

/-- The valid plan entry that holds a serial. -/
def planOfSerial (s : State) (x : Serial) : Option PlanId :=
  (List.finRange 32).find? fun p => (s.plan.entries[p]).map (·.serial) == some x

/-- The valid plan entry that holds an attachment. -/
def planOfAttach (s : State) (at_ : Attach) : Option PlanId :=
  (List.finRange 32).find? fun p => (s.plan.entries[p]).map (·.attach) == some at_

/-- The node table entry in ACTIVE, SILENT or LOST that holds a serial. -/
def nodeHolding (s : State) (x : Serial) : Option NodeId :=
  (List.finRange 32).find? fun a => (s.bus.nodes[a]).state != .free && (s.bus.nodes[a]).serial == some x

/-- The binding of a node as R83 derives it; a FREE entry has none. -/
def bindingNow (s : State) (a : NodeId) : Option Binding :=
  let n := s.bus.nodes[a]
  if n.state = .free then none
  else match n.serial, n.desc with
    | some x, some d =>
      match planOfSerial s x with
      | some p => some (if (s.plan.entries[p]).map (fun e => e.attach.kind) = some d.kind then .bound p else .misfit p)
      | none => some .unplanned
    | _, _ => some .unplanned

/-- The entry a node is bound to. -/
def boundPlan (s : State) (a : NodeId) : Option PlanId :=
  match (s.plan.nodes[a]).binding with
  | some (.bound p) => some p
  | _ => none

/-- The node bound to a valid entry, found by the entry's serial. -/
def boundNode (s : State) (p : PlanId) : Option (NodeId × Serial) :=
  match s.plan.entries[p] with
  | some e =>
    match nodeHolding s e.serial with
    | some a => if (s.plan.nodes[a]).binding = some (.bound p) then some (a, e.serial) else none
    | none => none
  | none => none

/-- The fill and bound node of an attachment as R88 derives them. A LOST node stays the bound node of an EMPTY role. -/
def roleNow (s : State) (at_ : Attach) : Role :=
  match (planOfAttach s at_).bind (boundNode s) with
  | some (a, x) =>
    match (s.bus.nodes[a]).state with
    | .active => { fill := .filled, node := some (a, x) }
    | .silent => { fill := .degraded, node := some (a, x) }
    | .lost => { fill := .empty, node := some (a, x) }
    | .free => Role.vacant
  | none => Role.vacant

/-! ## Owners (R89) -/

/-- The bound node has become a different one: two nodes are the same when their serials are (R88). -/
def otherNode (old new : Role) : Bool :=
  match old.node, new.node with
  | some (_, x), some (_, y) => x != y
  | _, _ => false

/-- A cell position's owners: the sample entry (R3), the legality judgement (R47), then the bridge state (R23). -/
def tellCell (b : BridgeId) (p : CellPos) (old new : Role) (s : State) : State :=
  let s := if new.fill == .empty || otherNode old new then
      modEngine b (fun e => { e with samples := put e.samples p SampleEntry.noSample }) s
    else s
  deriveBridge b (judge b s)

/-- A beam pair's owners: the beam image (R103), the bridge state (R23), the pause and the grant test (R102, R104). -/
def tellBeams (b : BridgeId) (old new : Role) (s : State) : State :=
  let s := if new.fill == .empty || otherNode old new then beamsUnknown b s else s
  grantTest b (pauseUpdate b (deriveBridge b s))

/-- A barrier station's owner (R109, R110, R112). -/
def tellStation (l : LaneId) (e : LaneEnd) (old new : Role) (s : State) : State :=
  match new.fill with
  | .empty => if old.fill = .empty then unknownStation l e s else stationEmptied l e s
  | .filled =>
    let s := if otherNode old new then unknownStation l e s else s
    if old.fill = .filled then (if otherNode old new then stationOffers l e s else s) else stationFilled l e s
  | .degraded => if otherNode old new then unknownStation l e s else s

/-- A lane terminal's owner: a terminal that becomes FILLED is offered the display of its lane's state (R96). -/
def tellTerminal (l : LaneId) (old new : Role) (s : State) : State :=
  if new.fill == .filled && (old.fill != .filled || otherNode old new) then showState l s else s

/-- A printer's owner (R185, R187). A role that becomes EMPTY because a different node, one that is LOST, is now bound meets
both PRINTER_LOST and NO_PRINTER, and R187 gives neither precedence: the head fails NO_PRINTER (DESIGN CHOICE,
notes/assumptions/31.md). -/
def tellPrinter (l : LaneId) (old new : Role) (s : State) : State :=
  match new.fill with
  | .empty => if old.fill = .empty then s else printerEmptied l s
  | _ => if otherNode old new then printerChanged l s else startHead l s

/-- The owners of an attachment are told (R89). -/
def tellOwners (at_ : Attach) (old new : Role) (s : State) : State :=
  match at_ with
  | .cell b p => tellCell b p old new s
  | .beams b => tellBeams b old new s
  | .station l e => tellStation l e old new s
  | .terminal l => tellTerminal l old new s
  | .printer l => tellPrinter l old new s

/-! ## Attention offers (R86) -/

/-- The attention an ACTIVE node should have. -/
def attentionWanted (s : State) (a : NodeId) : Bool :=
  match (s.plan.nodes[a]).binding, (s.bus.nodes[a]).desc with
  | some (.bound _), some d => d.kind != .loadCell
  | _, _ => false

/-- The comparison of R86, with the offer it makes. -/
def compareAttention (a : NodeId) (s : State) : State :=
  let n := s.bus.nodes[a]
  if n.state ≠ .active then s
  else if n.attention = attentionWanted s a then modPlanNode a (fun x => { x with offer := .none }) s
  else if (s.plan.nodes[a]).offer ≠ .none then s
  else
    let want := attentionWanted s a
    match offer a (if want then .attentionOn else .attentionOff) .plan s with
    | (s, none) => modPlanNode a (fun x => { x with offer := if want then .onOffered else .offOffered }) s
    | (s, some .queueFull) =>
      modPlanNode a (fun x => { x with offer := .none, retry := some Config.attentionRetryTime }) s
    | (s, some _) => modPlanNode a (fun x => { x with offer := .none }) s

/-- An attention command is ANSWERED ACK, the controller having set the entry's field (R71): the offer is NONE and the
comparison is made again (R86). -/
def attentionAck (a : NodeId) (s : State) : State := compareAttention a (modPlanNode a (fun x => { x with offer := .none }) s)

/-- An attention command is ANSWERED NAK REFUSED (R86). -/
def attentionNak (a : NodeId) (s : State) : State :=
  modPlanNode a (fun x => { x with offer := .none, retry := some Config.attentionRetryTime }) s

/-- An attention command is NOT_DELIVERED (R86). -/
def attentionUndelivered (a : NodeId) (s : State) : State := modPlanNode a (fun x => { x with offer := .none }) s

/-- The attention retry timer expires (R86). -/
def attentionRetry (a : NodeId) (s : State) : State :=
  if (s.plan.nodes[a]).retry.isSome then compareAttention a (modPlanNode a (fun x => { x with retry := none }) s) else s

/-! ## Derivation of a binding (R83) -/

/-- The attachment of a binding. -/
def bindingAttach (s : State) : Option Binding → List Attach
  | some (.bound p) => (s.plan.entries[p]).toList.map (·.attach)
  | some (.misfit p) => (s.plan.entries[p]).toList.map (·.attach)
  | _ => []

/-- A NODE_STATE record for an entry into MISFIT: its fields are those R85 names, in its order, and the error total, which
only R62 names, is not among them (notes/assumptions/5.md). -/
def recordMisfit (a : NodeId) (p : PlanId) (s : State) : State :=
  let n := s.bus.nodes[a]
  match s.plan.entries[p] with
  | some e =>
    queueRecord (.nodeState a n.serialNow n.kindNow n.state n.state (.misfit p e.attach.kind)) s
  | none => s

/-- The fills of some attachments are derived (step 4 of R83), and then the owners of each whose fill or bound node changed
are told, in the attachments' order (step 5, R88, R89). -/
def deriveRoles (places : List Attach) (s : State) : State :=
  let changed := (places.map (fun at_ => (at_, roleOf s at_, roleNow s at_))).filter (fun x => x.2.1 ≠ x.2.2)
  let s := changed.foldl (fun s x => setRole x.1 x.2.2 s) s
  changed.foldl (fun s x => tellOwners x.1 x.2.1 x.2.2 s) s

/-- A node's binding is derived anew, in the five steps of R83; `extra` are the attachments a write of the plan touches, the
former entry's before the new one's. Owners are told in that order: the former attachment's before the new one's, also
where the write keeps the serial and moves the attachment, of which R84 says only that both are told (DESIGN CHOICE,
notes/assumptions/24.md). -/
def deriveBinding (a : NodeId) (extra : List Attach) (s : State) : State :=
  let former := (s.plan.nodes[a]).binding
  let new := bindingNow s a
  let s := modPlanNode a (fun x => { x with binding := new }) s
  let s := match new with
    | some (.misfit p) => if former = some (.misfit p) then s else recordMisfit a p s
    | _ => s
  let s := compareAttention a s
  deriveRoles (extra ++ bindingAttach s former ++ bindingAttach s new).eraseDups s

/-! ## Requests -/

/-- An attachment is in use (R91). -/
def inUse (s : State) : Attach → Bool
  | .cell b _ => granted s b
  | .beams b => granted s b
  | .station l e => (roleOf s (.station l e)).fill != .empty && holdsGrant s l
  | .terminal l => (roleOf s (.terminal l)).fill != .empty && holdsGrant s l
  | .printer l => (roleOf s (.printer l)).fill != .empty && holdsGrant s l

/-- The serial of the node that would be bound to an attachment under an entry (R91). -/
def serialUnder (s : State) (e : PlanEntry) : Option Serial :=
  match nodeHolding s e.serial with
  | some a => if ((s.bus.nodes[a]).desc.map (·.kind)) = some e.attach.kind then some e.serial else none
  | none => none

/-- The serial of the node bound to an attachment now. -/
def serialNow (s : State) (at_ : Attach) : Option Serial := (roleOf s at_).node.map (·.2)

/-- The write would change the bound node of an attachment in use (R91). -/
def changesInUse (s : State) (former : Option PlanEntry) (new : PlanEntry) : Bool :=
  (inUse s new.attach && serialNow s new.attach != serialUnder s new)
    || (match former with
      | some f => f.attach != new.attach && inUse s f.attach && (serialNow s f.attach).isSome
      | none => false)

/-- The bindings a taken write derives: the node that holds the new serial, then the one that holds the former (R84).
Where the write changes the attachment, alone or with the serial, R84 does not say whose owners are told first. The model derives
both attachments within the first derivation, so that the former attachment's owners are told before the new one's, and
both before the former serial's node is derived again (DESIGN CHOICE, notes/assumptions/24.md). -/
def rebind (former : Option PlanEntry) (new : PlanEntry) (s : State) : State :=
  let extra := former.toList.map (·.attach) ++ [new.attach]
  let s := match nodeHolding s new.serial with
    | some a => deriveBinding a extra s
    | none => s
  match former with
  | some f =>
    if f.serial = new.serial then s
    else match nodeHolding s f.serial with
      | some a => deriveBinding a extra s
      | none => s
  | none => s

/-- The node kind of a code (R216). -/
def kindOf (n : Nat) : Option NodeKind :=
  match n with
  | 1 => some .loadCell
  | 2 => some .beamPair
  | 3 => some .barrierStation
  | 4 => some .laneTerminal
  | 5 => some .printer
  | _ => none

/-- PUT PLAN ENTRY (R91). -/
def putPlanEntry (_ : Byte) (vs : List (Option Value)) (s : State) : Reply :=
  match vs with
  | [some (.num k), some (.serial x), some (.num kind), some (.role at_)] =>
    match planOf k with
    | none => reply .range s
    | some p =>
      let new : PlanEntry := { serial := x, attach := at_ }
      let former := s.plan.entries[p]
      if kindOf kind ≠ some at_.kind then reply .range s
      else if x = 0 ∨ x = Serial.none then reply .range s
      else if (planOfSerial s x).getD p ≠ p then reply .state s
      else if (planOfAttach s at_).getD p ≠ p then reply .state s
      else if changesInUse s former new then reply .state s
      else if former = some new then reply .done s
      else reply .done (rebind former new { s with plan := { s.plan with entries := put s.plan.entries p (some new) } })
  | _ => reply .range s

/-- DROP PLAN ENTRY (R92). -/
def dropPlanEntry (_ : Byte) (vs : List (Option Value)) (s : State) : Reply :=
  match vs with
  | [some (.num k)] =>
    match planOf k with
    | none => reply .range s
    | some p =>
      match s.plan.entries[p] with
      | none => reply .notFound s
      | some e =>
        if inUse s e.attach && (boundNode s p).isSome then reply .state s
        else
          let s := { s with plan := { s.plan with entries := put s.plan.entries p none } }
          reply .done (match nodeHolding s e.serial with
            | some a => deriveBinding a [e.attach] s
            | none => s)
  | _ => reply .range s

/-- The node of an entry in an answer: its address, state and binding (R93). -/
def planNodeItems (s : State) (a : NodeId) : Bytes :=
  idx1 a ++ u8 (s.bus.nodes[a]).state.code ++ u8 (((s.plan.nodes[a]).binding.map (·.code)).getD 3)

/-- READ PLAN ENTRY (R93). -/
def readPlanEntry (_ : Byte) (vs : List (Option Value)) (s : State) : Reply :=
  match vs with
  | [some (.num k)] =>
    match planOf k with
    | none => reply .range s
    | some p =>
      let entry := s.plan.entries[p]
      let node := entry.bind (fun e => nodeHolding s e.serial)
      replyWith .done
        (flag1 entry.isSome
          ++ opt (fun e : PlanEntry => serial6 e.serial ++ u8 e.attach.kind.code ++ e.attach.bytes) entry
          ++ opt (planNodeItems s) node
          ++ opt (fun e : PlanEntry => u8 (roleOf s e.attach).fill.code) entry
          ++ opt (fun a : NodeId => u8 (s.plan.nodes[a]).offer.code ++ flag1 (s.bus.nodes[a]).attention) node) s
  | _ => reply .range s

end Sys2Proof.Machine
end

