-- ==== Sys2Proof/Machine/Nodes.lean ====
section
/-! DEFINITION. The node table (sections 3.2 and 3.5), the judging of answers (R57, R215, R216), the recovery ladder (R58 to R62) and the outcomes of queued commands (R63 to R66). -/
namespace Sys2Proof.Machine

/-! ## Answers (R57) -/

/-- The response errors (R57); a missing answer is NO_RESPONSE and reaches the part as its own row. -/
inductive BusError
  | checkError
  | lengthError
  | addressMismatch
  | unexpectedKind
  deriving DecidableEq, Repr

/-- What a good answer says (R216). -/
inductive Answer
  | sample (r : Reading)
  | present (x : Serial)
  | descriptor (x : Serial) (d : NodeDesc)
  | ack
  | nak (reason : Byte)
  | reply (payload : Bytes)
  | report (r : Report)
  deriving DecidableEq, Repr

/-- SAMPLE's payload (R216). -/
def parseSample (p : Bytes) : Option Answer :=
  if p.length ≠ 5 then none
  else
    let flags := beNat (p.drop 4)
    some (.sample { count := beSigned (p.take 3), seq := BitVec.ofNat 8 (beNat ((p.drop 3).take 1)),
                    overrange := flags.testBit 0, underrange := flags.testBit 1, cellFault := flags.testBit 2 })

/-- PRESENT's payload (R216). -/
def parsePresent (p : Bytes) : Option Answer :=
  if p.length ≠ 6 then none else some (.present (BitVec.ofNat 48 (beNat p)))

/-- DESCRIPTOR's payload: 8 bytes, or 9 with a width of 1 to 255 for a PRINTER; a maximum payload of 16 to 32 (R74, R90,
R216). -/
def parseDescriptor (p : Bytes) : Option Answer :=
  let x : Serial := BitVec.ofNat 48 (beNat (p.take 6))
  let payload := beNat ((p.drop 7).take 1)
  let width := beNat (p.drop 8)
  match kindOf (beNat ((p.drop 6).take 1)) with
  | none => none
  | some k =>
    let fits : Bool := match k with
      | .printer => p.length == 9 && decide (1 ≤ width)
      | _ => p.length == 8
    if fits && decide (16 ≤ payload) && decide (payload ≤ 32) then
      some (.descriptor x { kind := k, maxPayload := payload, width := if k = .printer then width else 0 })
    else none

def armOf (n : Nat) : Option ArmImage :=
  match n with
  | 1 => some .down
  | 2 => some .raising
  | 3 => some .up
  | 4 => some .lowering
  | 5 => some .obstructed
  | 6 => some .fault
  | 7 => some .off
  | _ => none

def loopOf (n : Nat) : Option LoopImage :=
  match n with
  | 1 => some .clear
  | 2 => some .occupied
  | _ => none

def aspectOf (n : Nat) : Option Aspect :=
  match n with
  | 1 => some .red
  | 2 => some .green
  | 3 => some .dark
  | _ => none

def driveOf (n : Nat) : Option DriveImage :=
  match n with
  | 1 => some .on
  | 2 => some .off
  | _ => none

/-- STATION's payload (R216). -/
def parseStation (p : Bytes) : Option Report :=
  if p.length ≠ 4 then none
  else match armOf (beNat (p.take 1)), loopOf (beNat ((p.drop 1).take 1)), aspectOf (beNat ((p.drop 2).take 1)),
      driveOf (beNat (p.drop 3)) with
    | some a, some l, some g, some d => some (.station a l g d)
    | _, _, _, _ => none

/-- KEY's payload (R216). -/
def parseKey (p : Bytes) : Option Report :=
  if p.length ≠ 2 then none
  else match beNat (p.take 1) with
    | 1 => some (.key (.number (beNat (p.drop 1))))
    | 2 => some (.key .cancel)
    | _ => none

/-- A payload of one byte. -/
def oneByte (f : Nat → Report) (p : Bytes) : Option Report := if p.length = 1 then some (f (beNat p)) else none

/-- A report's payload, by the report kinds each node kind may send (R67, R215, R216). -/
def parseReport (k : NodeKind) (code : Nat) (p : Bytes) : Option Report :=
  match k, code with
  | .beamPair, 0x50 =>
    if p.length = 1 then some (.beam ((beNat p).testBit 0) ((beNat p).testBit 1)) else none
  | .barrierStation, 0x51 => parseStation p
  | .laneTerminal, 0x52 => if validId p then some (.identify p) else none
  | .laneTerminal, 0x53 => parseKey p
  | .laneTerminal, 0x54 => if p.length = 0 then some .attendant else none
  | .laneTerminal, 0x55 => oneByte .help p
  | .printer, 0x58 => oneByte .done p
  | .printer, 0x59 => oneByte .paperOut p
  | .printer, 0x5A => oneByte .jam p
  | _, _ => none

/-- A command frame may be answered REPLY: only MESSAGE (R51). -/
def CommandFrame.mayReply : CommandFrame → Bool
  | .message _ => true
  | _ => false

/-- The answer to a command: ACK, NAK REFUSED, or REPLY to a MESSAGE (R51, R86). -/
def parseOutcome (f : CommandFrame) (code : Nat) (p : Bytes) : Option Answer :=
  match code with
  | 0x45 => if p.length = 0 then some .ack else none
  | 0x46 => match p with
    | [reason] => some (.nak reason)
    | _ => none
  | 0x47 => if f.mayReply then some (.reply p) else none
  | _ => none

/-- The entry whose answer an exchange expects; an arbitration field is not a framed answer. -/
def Exchange.entry : Exchange → Option NodeId
  | .cellPoll a => some a
  | .slowSample a => some a
  | .presence a => some a
  | .command a _ => some a
  | .attentionCall => none
  | .go a => some a
  | .enumerate => none
  | .assign a _ _ => some a

/-- The last check of R57: the kind and its layout. -/
def readAnswer (s : State) (x : Exchange) (code : Nat) (p : Bytes) : Except BusError Answer :=
  let found : Option Answer := match x with
    | .cellPoll _ => if code = 0x40 then parseSample p else none
    | .slowSample _ => if code = 0x40 then parseSample p else none
    | .presence _ => if code = 0x41 then parsePresent p else none
    | .command _ f => parseOutcome f code p
    | .go a => ((s.bus.nodes[a]).desc.bind (fun d => parseReport d.kind code p)).map .report
    | .assign _ _ _ => if code = 0x42 then parseDescriptor p else none
    | .attentionCall => none
    | .enumerate => none
  match found, x with
  | none, _ => .error .unexpectedKind
  | some (.present y), .presence a =>
    if (s.bus.nodes[a]).serial = some y then .ok (.present y) else .error .addressMismatch
  | some (.descriptor y d), .assign _ z _ => if y = z then .ok (.descriptor y d) else .error .unexpectedKind
  | some ans, _ => .ok ans

/-- The bytes a lane bus check covers (R213, R215). -/
def answerCheck (kind : Byte) (f : BusAnswer) : BitVec 16 := crc16 ([f.address, kind, f.length] ++ f.payload)

/-- An answer judged by the first check of R57 that fails. -/
def judgeAnswer (s : State) (x : Exchange) (a : NodeId) (kind : Byte) (f : BusAnswer) : Except BusError Answer :=
  if f.check ≠ answerCheck kind f then .error .checkError
  else if f.length.toNat ≠ f.payload.length
      ∨ (((s.bus.nodes[a]).desc.map (·.maxPayload)).getD 32) < f.payload.length then .error .lengthError
  else if f.address.toNat % 64 ≠ busAddress a then .error .addressMismatch
  else readAnswer s x kind.toNat f.payload

/-! ## Outcomes of queued commands (R65, R66) -/

/-- The answers a command's originator can be told (R65). -/
inductive Outcome
  | ack
  | nak (reason : Byte)
  | reply (payload : Bytes)
  deriving DecidableEq, Repr

/-- The originator of a command is told ANSWERED (R65). -/
def tellAnswered (c : Command) (o : Outcome) (s : State) : State :=
  match c.origin with
  | .controller => s
  | .office => s
  | .display _ => s
  | .plan =>
    match o with
    | .ack => attentionAck c.node s
    | _ => attentionNak c.node s
  | .station l e =>
    match o with
    | .ack => stationAck l e c.frame s
    | _ => stationNak l e c.frame s
  | .ticket l tag =>
    match o with
    | .ack => printAck l tag c.frame s
    | _ => printFail l tag .refused s
  | .pass p =>
    match o with
    | .ack => passOutcome p [2] s
    | .nak reason => passOutcome p [3, reason] s
    | .reply payload => passOutcome p ([1] ++ u8 payload.length ++ payload) s

/-- The originator of a command is told NOT_DELIVERED (R66). -/
def tellUndelivered (c : Command) (s : State) : State :=
  match c.origin with
  | .controller => s
  | .office => s
  | .display _ => s
  | .plan => attentionUndelivered c.node s
  | .station l e => stationUndelivered l e c.frame s
  | .ticket l tag => printFail l tag .printerLost s
  | .pass p => passOutcome p [4] s

/-! ## Changes of an entry's state (R58 to R62) -/

/-- A change of an entry's state is reported: NODE_STATE, then the site plan (R62). -/
def reportChange (a : NodeId) (former : NodeState) (s : State) : State :=
  let n := s.bus.nodes[a]
  deriveBinding a []
    (queueRecord (.nodeState a n.serialNow n.kindNow former n.state (.change n.errors)) s)

/-- The command is a NODE RESET. -/
def CommandFrame.isReset : CommandFrame → Bool
  | .nodeReset _ => true
  | _ => false

/-- An ACTIVE entry at miss count 3 goes SILENT, in the order of R59. -/
def goSilent (a : NodeId) (s : State) : State :=
  let s := modNode a (fun n => { n with state := .silent, ladder := some (.level1 Config.level1Time) }) s
  let mine (c : Command) : Bool := c.node == a && !c.frame.isReset
  let gone := s.bus.queue.filter mine
  let s := gone.foldl (fun s c => tellUndelivered c s) (removeCommands mine s)
  reportChange a .active (queueReset a 1 s)

/-- A response error is counted against an entry (R58). -/
def countError (a : NodeId) (s : State) : State :=
  let s := modNode a (fun n => { n with errors := min Config.max16 (n.errors + 1), misses := min 3 (n.misses + 1) }) s
  if (s.bus.nodes[a]).state = .active ∧ 3 ≤ (s.bus.nodes[a]).misses then goSilent a s else s

/-- A good answer is counted: the miss count is 0, and a SILENT entry returns to ACTIVE (R58, R60). -/
def countGood (a : NodeId) (s : State) : State :=
  let former := (s.bus.nodes[a]).state
  let s := modNode a (fun n => { n with misses := 0 }) s
  if former = .silent then
    reportChange a .silent (dropOwnResets a (modNode a (fun n => { n with state := .active, ladder := none }) s))
  else s

/-- The LEVEL_1 timer expires (R59). -/
def level1Expiry (a : NodeId) (s : State) : State :=
  match (s.bus.nodes[a]).ladder with
  | some (.level1 _) => queueReset a 2 (modNode a (fun n => { n with ladder := some (.level2 none) }) s)
  | _ => s

/-- The LEVEL_2 timer expires: the entry is LOST (R59). -/
def level2Expiry (a : NodeId) (s : State) : State :=
  match (s.bus.nodes[a]).ladder with
  | some (.level2 (some _)) => reportChange a .silent (modNode a (fun n => { n with state := .lost, ladder := none }) s)
  | _ => s

/-! ## Enumeration rounds (R70, R72) -/

/-- A round starts, or joins the one running (R72). -/
def startRound (s : State) : State :=
  modEnum (fun e => if e.running then e else { e with running := true, gaveZero := false, failed := [] }) s

/-- The hold-off ends: a pending join starts a round and its flag clears (R72). -/
def endHoldOff (s : State) : State :=
  let pending := s.bus.enum.joinPending
  let s := modEnum (fun e => { e with holdOff := none, joinPending := false }) s
  if pending then startRound s else s

/-- A round ends; a hold-off starts when an ASSIGN with address 0 was sent in it (R72). -/
def endRound (s : State) : State :=
  modEnum (fun e =>
    if e.gaveZero then { e with running := false, gaveZero := false, failed := [], holdOff := some Config.holdOffTime,
                                joinPending := false }
    else { e with running := false, failed := [] }) s

/-- A join request acts on the state of enumeration (R70). -/
def joinRequest (s : State) : State :=
  if s.bus.enum.running then s
  else if s.bus.enum.holdOff.isSome then modEnum (fun e => { e with joinPending := true }) s
  else startRound s

/-- The entry R73 chooses for a serial. -/
def chooseEntry (s : State) (x : Serial) : Option NodeId :=
  let ids := List.finRange 32
  ((ids.find? fun a => (s.bus.nodes[a]).serial == some x).or
    (ids.find? fun a => (s.bus.nodes[a]).state == .free && (s.bus.nodes[a]).serial.isNone)).or
    (ids.find? fun a => (s.bus.nodes[a]).state == .free && (s.bus.nodes[a]).serial.isSome)

/-- A good DESCRIPTOR: the entry takes the node and is ACTIVE (R53, R74). A remembered serial that R73 has given up as the entry
is chosen stands in the entry until this moment, since R74 keeps the entry's fields where the DESCRIPTOR fails (DESIGN CHOICE,
notes/assumptions/27.md). -/
def entryAssigned (a : NodeId) (x : Serial) (d : NodeDesc) (s : State) : State :=
  let former := (s.bus.nodes[a]).state
  let s := modNode a (fun n => { n with
    state := .active, serial := some x, desc := some d, misses := 0, attention := false, ladder := none,
    errors := if n.serial = some x then n.errors else 0 }) s
  let s := dropOwnResets a s
  if former = .active then deriveBinding a [] s else reportChange a former s

/-! ## Requests (section 3.9) -/

/-- SET SCAN PERIOD (R75). -/
def setScanPeriod (_ : Byte) (vs : List (Option Value)) (s : State) : Reply :=
  match vs with
  | [some (.num n)] =>
    reply (if clamp 10 100 n = n then .done else .doneClamped) (modScan (fun x => { x with period := clamp 10 100 n }) s)
  | _ => reply .range s

/-- ENUMERATE (R72, R76). -/
def enumerate (_ : Byte) (_ : List (Option Value)) (s : State) : Reply :=
  reply .done (startRound (modEnum (fun e => { e with holdOff := none, joinPending := false }) s))

/-- RESET NODE (R77). -/
def resetNode (_ : Byte) (vs : List (Option Value)) (s : State) : Reply :=
  match vs with
  | [some (.num n), some (.num level)] =>
    match nodeOf n with
    | none => reply .range s
    | some a =>
      if level ≠ 1 ∧ level ≠ 2 then reply .range s
      else if (s.bus.nodes[a]).state = .free ∨ (s.bus.nodes[a]).state = .lost then reply .state s
      else match offer a (.nodeReset level) .office s with
        | (s, none) => reply .done s
        | (s, some _) => reply .busy s
  | _ => reply .range s

/-- RELEASE NODE (R78). -/
def releaseNode (_ : Byte) (vs : List (Option Value)) (s : State) : Reply :=
  match vs with
  | [some (.num n)] =>
    match nodeOf n with
    | none => reply .range s
    | some a =>
      if (s.bus.nodes[a]).state ≠ .lost then reply .state s
      else reply .done (endHoldOff (reportChange a .lost (modNode a (fun n => { n with state := .free }) s)))
  | _ => reply .range s

/-- The ladder step's code and time remaining in an answer (R79). -/
def ladderItems : Option Ladder → Bytes
  | none => u8 1 ++ opt u32 none
  | some (.level1 t) => u8 2 ++ opt u32 (some t)
  | some (.level2 t) => u8 3 ++ opt u32 t

/-- READ NODE (R79). -/
def readNode (_ : Byte) (vs : List (Option Value)) (s : State) : Reply :=
  match vs with
  | [some (.num n)] =>
    match nodeOf n with
    | none => reply .range s
    | some a =>
      let n := s.bus.nodes[a]
      replyWith .done
        (u8 n.state.code ++ opt serial6 n.serial ++ opt (fun d : NodeDesc => u8 d.kind.code) n.desc
          ++ opt (fun d : NodeDesc => u8 d.maxPayload) n.desc
          ++ opt u8 (n.desc.bind (fun d => if d.kind = .printer then some d.width else none))
          ++ u8 n.misses ++ u16 n.errors ++ flag1 n.attention ++ ladderItems n.ladder ++ opt idx1 (boundPlan s a)) s
  | _ => reply .range s

/-- How many entries are in a state. -/
def countState (s : State) (st : NodeState) : Nat := (s.bus.nodes.toList.filter (fun n => n.state == st)).length

/-- READ BUS (R80): the overrun count is set to 0 once the answer is composed. -/
def readBus (_ : Byte) (_ : List (Option Value)) (s : State) : Reply :=
  let x := s.bus.scan
  let e := s.bus.enum
  replyWith .done
    (u8 x.periodInUse ++ u16 x.overrun ++ u8 x.phase ++ flag1 e.running ++ opt u32 e.holdOff ++ flag1 e.joinPending
      ++ u8 s.bus.reports.length ++ u8 s.bus.queue.length
      ++ [NodeState.free, .active, .silent, .lost].flatMap (fun st => u8 (countState s st)))
    (modScan (fun x => { x with overrun := 0 }) s)

end Sys2Proof.Machine
end

