-- ==== Sys2Proof/Machine/ScanCycle.lean ====
section
/-! DEFINITION. The scan cycle (R54 to R56, R65, R68, R73): the frames the part sends, how each exchange ends and what follows it, and the attention queue (R69, R71). -/
namespace Sys2Proof.Machine

/-- A frame is sent and its exchange opens (R51). -/
def openExchange (address kind : Nat) (payload : Bytes) (part : ScanPart) (x : Exchange) (s : State) : State :=
  modScan (fun c => { c with part := some part, exchange := some x }) (sendBus address kind payload s)

/-- The open exchange ends. -/
def closeExchange (s : State) : State := modScan (fun c => { c with exchange := none }) s

/-! ## The parts of a cycle, last part first -/

/-- An attention window begins: ATTENTION CALL to address 63 (R68). -/
def openWindow (windows : Nat) (s : State) : State :=
  openExchange 63 0x03 [] (.attention (windows + 1)) .attentionCall s

/-- A command leaves the queue: its first occurrence at the head. -/
def popCommand (s : State) : State :=
  modBus (fun x => placeHeld 1 { x with queue := x.queue.tail }) s

/-- A NODE RESET at the head is sent; the controller's level-2 reset starts its entry's LEVEL_2 timer (R59, R65). -/
def sendReset (c : Command) (level : Nat) (s : State) : State :=
  let s := popCommand (sendBus (busAddress c.node) c.frame.code c.frame.payload s)
  if c.origin = .controller ∧ level = 2 then
    modNode c.node (fun n => match n.ladder with
      | some (.level2 none) => { n with ladder := some (.level2 (some Config.level2Time)) }
      | _ => n) s
  else s

/-- The command part: the queue is worked from its head, `done` counting toward the 4; when it ends, the first attention
window opens (R65). `fuel` bounds the commands that leave without counting, which is the queue's length and what
it held back. -/
def commandPart : Nat → Nat → State → State
  | 0, _, s => openWindow 0 s
  | fuel + 1, done, s =>
    if Config.commandsPerCycle ≤ done then openWindow 0 s
    else match s.bus.queue with
      | [] => openWindow 0 s
      | c :: rest =>
        match c.frame with
        | .nodeReset level => commandPart fuel (done + 1) (sendReset c level s)
        | _ =>
          if (s.bus.nodes[c.node]).state ≠ .active then commandPart fuel done (tellUndelivered c (popCommand s))
          else
            openExchange (busAddress c.node) c.frame.code c.frame.payload (.commands done) (.command c.node c.frame)
              (modBus (fun x => { x with queue := { c with sent := true } :: rest }) s)

/-- The command part begins or goes on. -/
def runCommands (done : Nat) (s : State) : State := commandPart 64 done s

/-- An entry of the slow-poll part (R56). -/
def slowPolled (s : State) (a : NodeId) : Bool :=
  let n := s.bus.nodes[a]
  (busAddress a) % 8 == s.bus.scan.phase && (n.state == .active || n.state == .silent) && !s.bus.scan.polled.contains a

/-- The next slow poll at or above an address, or the commands once the phase has advanced (R56). -/
def slowPart (next : Nat) (s : State) : State :=
  match (List.finRange 32).find? (fun a => decide (next ≤ a.val) && slowPolled s a) with
  | some a =>
    if ((s.bus.nodes[a]).desc.map (·.kind)) = some .loadCell then
      openExchange (busAddress a) 0x01 [] (.slowPolls (a.val + 1)) (.slowSample a) s
    else openExchange (busAddress a) 0x02 [] (.slowPolls (a.val + 1)) (.presence a) s
  | none => runCommands 0 (modScan (fun x => { x with phase := (x.phase + 1) % 8 }) s)

/-- The cell position a node is bound to (R55). -/
def boundCell (s : State) (a : NodeId) : Option (BridgeId × CellPos) :=
  match (boundPlan s a).bind (fun p => s.plan.entries[p]) with
  | some e =>
    match e.attach with
    | .cell b p => some (b, p)
    | _ => none
  | none => none

/-- The next cell poll at or above an address, or the bridge samples and the slow polls (R4, R55). -/
def cellPart (next : Nat) (s : State) : State :=
  match (List.finRange 32).find? (fun a =>
      decide (next ≤ a.val) && (s.bus.nodes[a]).state == .active && (boundCell s a).isSome) with
  | some a =>
    openExchange (busAddress a) 0x01 [] (.cellPolls (a.val + 1)) (.cellPoll a)
      (modScan (fun x => { x with polled := x.polled ++ [a] }) s)
  | none => slowPart 0 (endCellPolls s)

/-- A scan cycle starts (R54); the first after a reset opens with FORGET ADDRESSES and starts a round (R72, R81). -/
def startCycle (s : State) : State :=
  let first := s.bus.scan.startup
  let s := modScan (fun x => { x with periodInUse := x.period, startup := false, overdue := false, polled := [] }) s
  let s := if first then startRound (sendBus 63 0x0A [] s) else s
  cellPart 0 (setMissed s)

/-- A cycle's work ends; a cycle that fell due meanwhile starts (R54). -/
def endCycle (s : State) : State :=
  let s := modScan (fun x => { x with part := none, exchange := none }) s
  if s.bus.scan.overdue then startCycle s else s

/-- The enumeration slot of a cycle, when a round is running (R54, R73). -/
def slotPart (s : State) : State :=
  if s.bus.enum.running then openExchange 63 0x08 [] .slot .enumerate s else endCycle s

/-- After an attention window: the next of the 4, or the slot (R68). -/
def nextWindow (s : State) : State :=
  match s.bus.scan.part with
  | some (.attention n) => if n < Config.windowsPerCycle then openWindow n s else slotPart s
  | _ => slotPart s

/-- A cycle start falls due (R54). The overrun count rises at the moment the start falls due and not as the late cycle
starts: R54 does not say which, and a READ BUS between the two shows it (DESIGN CHOICE, notes/assumptions/18.md). -/
def cycleDue (s : State) : State :=
  if s.bus.scan.part.isNone then startCycle s
  else if s.bus.scan.overdue then s
  else modScan (fun x => { x with overdue := true, overrun := min Config.max16 (x.overrun + 1) }) s

/-! ## The attention queue (R69, R71) -/

/-- A queued report is discarded at the head: it carries no plan entry, or its node is no longer bound to it (R71, R87). -/
def reportStale (s : State) (r : QueuedReport) : Bool :=
  match r.plan with
  | some p => decide ((s.plan.nodes[r.node]).binding ≠ some (.bound p))
  | none => true

/-- Stale reports at the head leave the queue (R71). -/
def settleReports (s : State) : State :=
  modBus (fun x => { x with reports := x.reports.dropWhile (reportStale s) }) s

/-- A good report is handled (R69). -/
def takeReport (a : NodeId) (r : Report) (s : State) : State :=
  if !(s.bus.nodes[a]).attention then sendBus (busAddress a) 0x05 [] s
  else if Config.reportSlots ≤ s.bus.reports.length then sendBus (busAddress a) 0x06 [] s
  else
    let q : QueuedReport := { node := a, report := r, plan := boundPlan s a }
    sendBus (busAddress a) 0x05 [] (settleReports (modBus (fun x => { x with reports := x.reports ++ [q] }) s))

/-- The owner takes the report at the head when it is of the kind `pick` accepts and its node is still bound to the entry it
was taken under; the report leaves the queue (R71). -/
def takeHead (pick : Report → Option (NodeId → Attach → State → State)) (s : State) : State :=
  match s.bus.reports with
  | [] => s
  | r :: _ =>
    match pick r.report with
    | none => s
    | some act =>
      let stale := reportStale s r
      let at_ := (r.plan.bind (fun p => s.plan.entries[p])).map (·.attach)
      let s := modBus (fun x => { x with reports := x.reports.tail }) s
      settleReports (match stale, at_ with
        | false, some x => act r.node x s
        | _, _ => s)

/-! ## How an exchange ends -/

/-- A good SAMPLE is handed to the engine for the bound position (R55, R56). -/
def handSample (a : NodeId) (ans : Answer) (s : State) : State :=
  match ans, boundCell s a with
  | .sample r, some (b, p) => deliverSample b p r s
  | _, _ => s

/-- An ATTENTION ON or OFF answered ACK sets the entry's attention-enabled field (R71), whether or not the command still
stands in the queue. -/
def mirrorAttention (a : NodeId) (f : CommandFrame) (o : Outcome) (s : State) : State :=
  match f, o with
  | .attentionOn, .ack => modNode a (fun n => { n with attention := true }) s
  | .attentionOff, .ack => modNode a (fun n => { n with attention := false }) s
  | _, _ => s

/-- The command of an exchange ends with a good answer: it leaves the queue and its originator is told (R65). A command
that left the queue during its exchange has been told already. -/
def commandAnswered (o : Outcome) (s : State) : State :=
  match s.bus.queue.find? (fun c => c.sent) with
  | some c =>
    tellAnswered c o (modBus (fun x => placeHeld 1 { x with queue := x.queue.erase c }) s)
  | none => s

/-- A command's exchange ends with a response error: the command stays, to be sent again (R65). -/
def commandFailed (s : State) : State :=
  modBus (fun x => { x with queue := x.queue.map (fun c => { c with sent := false }) }) s

/-- How many commands of this cycle have counted. -/
def commandsDone (s : State) : Nat :=
  match s.bus.scan.part with
  | some (.commands n) => n
  | _ => 0

/-- The outcome an answer to a command stands for. -/
def Answer.outcome : Answer → Outcome
  | .nak reason => .nak reason
  | .reply payload => .reply payload
  | _ => .ack

/-- The cell poll or slow poll after the present one. -/
def nextPoll (s : State) : State :=
  match s.bus.scan.part with
  | some (.cellPolls next) => cellPart next s
  | some (.slowPolls next) => slowPart next s
  | _ => s

/-- A DESCRIPTOR that fails ends the slot, and with it the cycle (R74). An entry that was ACTIVE, SILENT or LOST keeps the state
and fields it had by R74, and the error is counted against it by R58: the model counts it, so that the error total and the
miss count rise and an ACTIVE entry at its third miss goes SILENT (DEDUCED, notes/assumptions/27.md). The entry that counts
no error is one that was FREE before the slot (R58), whatever a RELEASE NODE made of it since. -/
def slotFailed (a : NodeId) (x : Serial) (wasFree : Bool) (s : State) : State :=
  let s := if wasFree then s else countError a s
  let s := sendBus (busAddress a) 0x0B [2] s
  modEnum (fun e => { e with failed := e.failed ++ [x] }) s

/-- The open exchange ends with a good answer. -/
def exchangeGood (x : Exchange) (ans : Answer) (s : State) : State :=
  let s := closeExchange s
  match x with
  | .cellPoll a => nextPoll (handSample a ans (countGood a s))
  | .slowSample a => nextPoll (handSample a ans (countGood a s))
  | .presence a => nextPoll (countGood a s)
  | .command a f =>
    let done := commandsDone s
    runCommands (done + 1) (commandAnswered ans.outcome (mirrorAttention a f ans.outcome (countGood a s)))
  | .go a =>
    match ans with
    | .report r => nextWindow (takeReport a r (countGood a s))
    | _ => nextWindow s
  | .assign a x _ =>
    match ans with
    | .descriptor _ d => endCycle (entryAssigned a x d s)
    | _ => endCycle s
  | .attentionCall => s
  | .enumerate => s

/-- The open exchange ends with a response error (R58, R65, R69, R74). -/
def exchangeFailed (x : Exchange) (s : State) : State :=
  let s := closeExchange s
  match x with
  | .cellPoll a => nextPoll (countError a s)
  | .slowSample a => nextPoll (countError a s)
  | .presence a => nextPoll (countError a s)
  | .command a _ => openWindow 0 (commandFailed (countError a s))
  | .go a => nextWindow (countError a s)
  | .assign a x wasFree => endCycle (slotFailed a x wasFree s)
  | .attentionCall => s
  | .enumerate => s

/-- An answer arrives: it is judged against the open exchange, which ends good or with a response error (R57). With no
exchange open that expects a framed answer, there is nothing to judge. -/
def answerArrives (kind : Byte) (f : BusAnswer) (s : State) : State :=
  match s.bus.scan.exchange with
  | none => s
  | some x =>
    match x.entry with
    | none => s
    | some a =>
      match judgeAnswer s x a kind f with
      | .ok ans => exchangeGood x ans s
      | .error _ => exchangeFailed x s

/-- An answer that fails a check of R57; one that passes them all is not this event. -/
def errorArrives (kind : Byte) (f : BusAnswer) (s : State) : State :=
  match s.bus.scan.exchange with
  | none => s
  | some x =>
    match x.entry with
    | none => s
    | some a =>
      match judgeAnswer s x a kind f with
      | .ok _ => s
      | .error _ => exchangeFailed x s

/-- No answer begins within the response window: NO_RESPONSE (R57). -/
def noAnswer (s : State) : State :=
  match s.bus.scan.exchange with
  | none => s
  | some x => if x.entry.isSome then exchangeFailed x s else s

/-! ## Arbitration fields (R68, R73) -/

/-- The address read in an attention window is acted on (R68). Values 33 to 62 name no entry: the window ends. -/
def windowRead (v : BitVec 6) (s : State) : State :=
  if s.bus.scan.exchange ≠ some .attentionCall then s
  else
    let s := closeExchange s
    if v.toNat = 63 then slotPart s
    else if v.toNat = 0 then nextWindow (joinRequest (sendBus 0 0x07 [] s))
    else match nodeOf v.toNat with
      | none => nextWindow s
      | some a =>
        if (s.bus.nodes[a]).state = .active ∨ (s.bus.nodes[a]).state = .silent then
          match s.bus.scan.part with
          | some part => openExchange v.toNat 0x04 [] part (.go a) s
          | none => s
        else nextWindow (sendBus v.toNat 0x0B [2] s)

/-- ASSIGN with a serial and an address (R51, R216). -/
def sendAssign (x : Serial) (address : Nat) (s : State) : State := sendBus 0 0x09 (serial6 x ++ u8 address) s

/-- ASSIGN with address 0: the node stays out, and the round will end in a hold-off (R72, R73). -/
def assignNone (x : Serial) (s : State) : State :=
  endCycle (modEnum (fun e => { e with gaveZero := true }) (sendAssign x 0 s))

/-- The serial read in an enumeration slot is acted on (R73, R74). Whether the entry was FREE before the slot (R58) is taken as
it stands here, where the field is read and the entry is chosen, and not as it stood when ENUMERATE was sent: a LOST entry
released between the two counts as FREE before the slot (DESIGN CHOICE, notes/assumptions/27.md). -/
def slotRead (v : Serial) (s : State) : State :=
  if s.bus.scan.exchange ≠ some .enumerate then s
  else
    let s := closeExchange s
    if v = Serial.none then endCycle (endRound s)
    else if 2 ≤ s.bus.enum.failed.count v then assignNone v s
    else match chooseEntry s v with
      | none => assignNone v (queueRecord (.nodeTableFull v) s)
      | some a => modScan (fun c => { c with exchange := some (.assign a v ((s.bus.nodes[a]).state == .free)) })
          (sendAssign v (busAddress a) s)

end Sys2Proof.Machine
end

