-- ==== Sys2Proof/Machine/TableRequests.lean ====
section
/-! DEFINITION. The table unit's requests (Chapter 6): clock, vehicles, accounts, tariff rows and the tariff switch. Its calls are in Machine/Money.lean. -/
namespace Sys2Proof.Machine

/-- A weight or a number of kg that an optional field gives. -/
def asInt : Option Value → Option Int
  | some (.int i) => some i
  | _ => none

/-- A number that an optional field gives. -/
def asNum : Option Value → Option Nat
  | some (.num n) => some n
  | _ => none

/-- An optional value lies in a range, or is absent. -/
def within (lo hi : Int) : Option Int → Bool
  | some i => decide (lo ≤ i) && decide (i ≤ hi)
  | none => true

/-! ## Clock -/

/-- The sub-second count passes 999: the seconds count rises unless it is saturated, and a rise is an occasion for the
switch test (R127, R148). -/
def tickSecond (s : State) : State :=
  if Config.max32 ≤ s.tables.clock.secs then modTables (fun t => { t with clock := { t.clock with ms := 0 } }) s
  else switchTest (modTables (fun t => { t with clock := { t.clock with ms := 0, secs := t.clock.secs + 1 } }) s)

/-- SET CLOCK (R128). -/
def setClock (_ : Byte) (vs : List (Option Value)) (s : State) : Reply :=
  match vs with
  | [some (.num n)] =>
    reply .done (switchTest (modTables (fun t => { t with clock := { secs := n, ms := 0, set := true } }) s))
  | _ => reply .range s

/-! ## Vehicles -/

/-- The ranges of R130 hold for an entry's fields (R132). -/
def vehicleInRange (id : Text) (account : Nat) (tare : Option Int) (expiry : Option Nat) (gross : Option Int)
    (material : Option Nat) : Bool :=
  validId id && decide (account ≤ 999999)
    && (match material with
      | some m => decide (1 ≤ m) && decide (m ≤ 255)
      | none => true)
    && within 1 150000 tare && within 1 150000 gross
    && (match expiry with
      | some d => decide (d ≤ 49710) && tare.isSome
      | none => true)
    && (match tare, gross with
      | some t, some g => decide (t ≤ g)
      | _, _ => true)

/-- An entry is written: the one that holds the id is replaced whole, or a new one takes its place in order (R132). -/
def writeVehicle (v : Vehicle) (s : State) : State :=
  modTables (fun t => { t with vehicles := place t.vehicles }) s
where
  /-- The table with the entry written. -/
  place (vs : List Vehicle) : List Vehicle :=
    if vs.any (fun x => x.id = v.id) then vs.map (fun x => if x.id = v.id then v else x)
    else insertBy (fun a b => idBefore a.id b.id) v vs

/-- PUT VEHICLE (R132). -/
def putVehicle (_ : Byte) (vs : List (Option Value)) (s : State) : Reply :=
  match vs with
  | [some (.text id), some (.num account), tare, expiry, gross, material, some (.flag permit), some (.flag attendance)] =>
    if !vehicleInRange id account (asInt tare) (asNum expiry) (asInt gross) (asNum material) then reply .range s
    else if (findVehicle s id).isNone ∧ Config.vehicleSlots ≤ s.tables.vehicles.length then reply .full s
    else reply .done (writeVehicle
      { id := id, account := account, tare := (asInt tare).map Int.toNat, expiry := asNum expiry,
        maxGross := (asInt gross).map Int.toNat, material := asNum material, permit := permit,
        attendance := attendance } s)
  | _ => reply .range s

/-- DROP VEHICLE (R133). -/
def dropVehicle (_ : Byte) (vs : List (Option Value)) (s : State) : Reply :=
  match vs with
  | [some (.text id)] =>
    if (findVehicle s id).isNone then reply .notFound s
    else reply .done (modTables (fun t => { t with vehicles := t.vehicles.filter (fun v => v.id ≠ id) }) s)
  | _ => reply .range s

/-- A vehicle entry in an answer, with its tare status (R134). -/
def vehicleItems (s : State) (v : Vehicle) : Bytes :=
  string1 v.id ++ u32 v.account ++ opt (fun t : Nat => weight4 t) v.tare ++ opt u16 v.expiry
    ++ opt (fun g : Nat => weight4 g) v.maxGross ++ opt u8 v.material ++ flag1 v.permit ++ flag1 v.attendance
    ++ u8 (tareStatus s.tables.clock v).code

/-- READ VEHICLE (R134). -/
def readVehicle (_ : Byte) (vs : List (Option Value)) (s : State) : Reply :=
  match vs with
  | [some (.text id)] =>
    match findVehicle s id with
    | some v => replyWith .done (vehicleItems s v) s
    | none => reply .notFound s
  | _ => reply .range s

/-- READ VEHICLE NEXT (R134). -/
def readVehicleNext (_ : Byte) (vs : List (Option Value)) (s : State) : Reply :=
  let found : Option Vehicle := match vs with
    | [some (.text id)] => s.tables.vehicles.find? (fun v => idBefore id v.id)
    | _ => s.tables.vehicles.head?
  match found with
  | some v => replyWith .done (vehicleItems s v) s
  | none => reply .notFound s

/-! ## Accounts -/

/-- The kind of an account's code. -/
def accountKindOf (n : Nat) : AccountKind := if n = 1 then .credit else if n = 2 then .prepaid else .council

/-- The ranges of R136 hold. -/
def accountInRange (number : Nat) (kind : AccountKind) (limit reserve : Int) : Bool :=
  decide (1 ≤ number) && decide (number ≤ 999999) && decide (0 ≤ limit) && decide (limit ≤ 2000000000)
    && decide (0 ≤ reserve) && decide (reserve ≤ 100000000)
    && (match kind with
      | .credit => true
      | .prepaid => decide (limit = 0)
      | .council => decide (limit = 0) && decide (reserve = 0))

/-- An account is written: an existing one keeps its balance, reserved total and visit count (R136). -/
def writeAccount (number : Nat) (kind : AccountKind) (limit reserve : Nat) (held : Bool) (s : State) : State :=
  if (findAccount s number).isSome then
    modAccount number (fun a => { a with kind := kind, limit := limit, reserve := reserve, isHeld := held }) s
  else
    let a : Account := { number := number, kind := kind, balance := 0, limit := limit, reserve := reserve, isHeld := held,
                         overLimit := false, reserved := 0, visits := 0 }
    modTables (fun t => { t with accounts := insertBy (fun x y => x.number < y.number) a t.accounts }) s

/-- PUT ACCOUNT (R136). -/
def putAccount (_ : Byte) (vs : List (Option Value)) (s : State) : Reply :=
  match vs with
  | [some (.num number), some (.num kind), some (.int limit), some (.int reserve), some (.flag held)] =>
    let kind := accountKindOf kind
    if !accountInRange number kind limit reserve then reply .range s
    else if (findAccount s number).isNone ∧ Config.accountSlots ≤ s.tables.accounts.length then reply .full s
    else reply .done (evaluateOverLimit number (writeAccount number kind limit.toNat reserve.toNat held s))
  | _ => reply .range s

/-- DROP ACCOUNT (R137). -/
def dropAccount (_ : Byte) (vs : List (Option Value)) (s : State) : Reply :=
  match vs with
  | [some (.num number)] =>
    if number < 1 ∨ 999999 < number then reply .range s
    else match findAccount s number with
      | none => reply .notFound s
      | some a =>
        if 0 < a.visits then reply .state s
        else reply .done (modTables (fun t => { t with accounts := t.accounts.filter (fun a => a.number ≠ number) }) s)
  | _ => reply .range s

/-- SET BALANCE (R142): the answer carries the balance as it stands after the request, but for RANGE and NOT_FOUND. -/
def setBalance (_ : Byte) (vs : List (Option Value)) (s : State) : Reply :=
  match vs with
  | [some (.num number), some (.int expected), some (.int new)] =>
    if number < 1 ∨ 999999 < number ∨ !(within (-2000000000) 2000000000 (some expected))
        ∨ !(within (-2000000000) 2000000000 (some new)) then reply .range s
    else match findAccount s number with
      | none => reply .notFound s
      | some a =>
        if a.balance ≠ expected then replyWith .mismatch (money8 a.balance) s
        else replyWith .done (money8 new) (evaluateOverLimit number (modAccount number (fun a => { a with balance := new }) s))
  | _ => reply .range s

/-- An account entry in an answer, with its available credit (R143). -/
def accountItems (a : Account) : Bytes :=
  u32 a.number ++ u8 a.kind.code ++ money8 a.balance ++ money8 a.limit ++ money8 a.reserve ++ flag1 a.isHeld
    ++ flag1 a.overLimit ++ money8 a.reserved ++ u8 a.visits ++ money8 (availableCredit a)

/-- READ ACCOUNT (R143). -/
def readAccount (_ : Byte) (vs : List (Option Value)) (s : State) : Reply :=
  match vs with
  | [some (.num number)] =>
    if number < 1 ∨ 999999 < number then reply .range s
    else match findAccount s number with
      | some a => replyWith .done (accountItems a) s
      | none => reply .notFound s
  | _ => reply .range s

/-- READ ACCOUNT NEXT (R143). -/
def readAccountNext (_ : Byte) (vs : List (Option Value)) (s : State) : Reply :=
  let found : Option Account := match vs with
    | [some (.num number)] => s.tables.accounts.find? (fun a => number < a.number)
    | _ => s.tables.accounts.head?
  match found with
  | some a => replyWith .done (accountItems a) s
  | none => reply .notFound s

/-! ## Tariff rows -/

/-- A bank may be written: it is not active and no open visit carries it (R145, R146). -/
def bankLocked (s : State) (b : BankId) : Bool := s.tables.active == b || decide (0 < (s.tables.banks[b]).refs)

/-- A row is written: the one for the code is replaced whole, or a new one takes its place in order (R146). -/
def writeRow (b : BankId) (r : TariffRow) (s : State) : State :=
  modTables (fun t => { t with banks := alter t.banks b (fun x => { x with rows := place x.rows }) }) s
where
  /-- The rows with the row written. -/
  place (rows : List TariffRow) : List TariffRow :=
    if rows.any (fun y => y.material = r.material) then rows.map (fun y => if y.material = r.material then r else y)
    else insertBy (fun y z => y.material < z.material) r rows

/-- PUT TARIFF ROW (R146). -/
def putTariffRow (_ : Byte) (vs : List (Option Value)) (s : State) : Reply :=
  match vs with
  | [some (.num bank), some (.num material), some (.num kind), some (.num gate), some (.num levy), some (.int minimum),
      some (.flag restricted)] =>
    match bankOf bank with
    | none => reply .range s
    | some b =>
      if material < 1 ∨ 255 < material then reply .range s
      else if 99999 < gate ∨ 99999 < levy ∨ !(within 0 999999 (some minimum)) then reply .range s
      else if bankLocked s b then reply .locked s
      else if (rowIn s b material).isNone ∧ Config.tariffRows ≤ (s.tables.banks[b]).rows.length then reply .full s
      else reply .done (writeRow b
        { material := material, kind := if kind = 1 then .delivery else .collection, gate := gate, levy := levy,
          minimum := minimum.toNat, restricted := restricted } s)
  | _ => reply .range s

/-- DROP TARIFF ROW (R147). -/
def dropTariffRow (_ : Byte) (vs : List (Option Value)) (s : State) : Reply :=
  match vs with
  | [some (.num bank), some (.num material)] =>
    match bankOf bank with
    | none => reply .range s
    | some b =>
      if material < 1 ∨ 255 < material then reply .range s
      else if bankLocked s b then reply .locked s
      else if (rowIn s b material).isNone then reply .notFound s
      else reply .done (modTables (fun t => { t with banks := alter t.banks b (fun x =>
        { x with rows := x.rows.filter (fun y => y.material ≠ material) }) }) s)
  | _ => reply .range s

/-- SET TARIFF SWITCH (R148). -/
def setTariffSwitch (_ : Byte) (vs : List (Option Value)) (s : State) : Reply :=
  match vs with
  | [some (.num n)] => reply .done (switchTest (modTables (fun t => { t with switchTime := some n }) s))
  | _ => reply .done (modTables (fun t => { t with switchTime := none }) s)

/-- A tariff row in an answer (R149). -/
def TariffRow.items (r : TariffRow) : Bytes :=
  u8 r.material ++ u8 r.kind.code ++ u32 r.gate ++ u32 r.levy ++ money8 r.minimum ++ flag1 r.restricted

/-- READ TARIFF ROW (R149). -/
def readTariffRow (_ : Byte) (vs : List (Option Value)) (s : State) : Reply :=
  match vs with
  | [some (.num bank), some (.num material)] =>
    match bankOf bank with
    | none => reply .range s
    | some b =>
      if material < 1 ∨ 255 < material then reply .range s
      else match rowIn s b material with
        | some r => replyWith .done r.items s
        | none => reply .notFound s
  | _ => reply .range s

/-- READ TARIFF ROW NEXT (R149). A bank other than 0 or 1, for which R149 gives NEXT no result, is RANGE (DESIGN CHOICE,
notes/assumptions/28.md). -/
def readTariffRowNext (_ : Byte) (vs : List (Option Value)) (s : State) : Reply :=
  match vs with
  | [some (.num bank), material] =>
    match bankOf bank with
    | none => reply .range s
    | some b =>
      let rows := (s.tables.banks[b]).rows
      let found : Option TariffRow := match asNum material with
        | some m => rows.find? (fun r => m < r.material)
        | none => rows.head?
      match found with
      | some r => replyWith .done r.items s
      | none => reply .notFound s
  | _ => reply .range s

/-- READ TABLES (R149). -/
def readTables (_ : Byte) (_ : List (Option Value)) (s : State) : Reply :=
  let t := s.tables
  replyWith .done
    (u16 t.vehicles.length ++ u16 t.accounts.length ++ bank1 t.active
      ++ u8 (t.banks[(0 : BankId)]).rows.length ++ u8 (t.banks[(1 : BankId)]).rows.length
      ++ u8 (t.banks[(0 : BankId)]).refs ++ u8 (t.banks[(1 : BankId)]).refs
      ++ opt u32 t.switchTime ++ u32 t.clock.secs ++ u16 (dayNumber t.clock.secs) ++ flag1 t.clock.set) s

end Sys2Proof.Machine
end

