-- ==== Sys2Proof/Machine/VisitRequests.lean ====
section
/-! DEFINITION. The visit unit's requests (Chapter 7): opening, voiding, resolving, restoring and reading visits. -/
namespace Sys2Proof.Machine

/-- The tare source of a code and an optional value; none where the two do not fit or the value is out of range. -/
def tareOf (code : Nat) (value : Option Int) : Option TareSource :=
  match code, value with
  | 1, some v => if 1 ≤ v ∧ v ≤ 150000 then some (.stored v.toNat) else none
  | 2, some v => if 1 ≤ v ∧ v ≤ 150000 then some (.declared v.toNat) else none
  | 3, _ => some .twoPass
  | _, _ => none

/-- A refusal of OPEN VISIT with its reason (R157, R214). -/
def refuse (r : Result) (reason : Nat) (s : State) : Reply := replyWith r (u8 reason) s

/-- OPEN VISIT (R157). -/
def openWalkIn (_ : Byte) (vs : List (Option Value)) (s : State) : Reply :=
  match vs with
  | [some (.text id), some (.num material), some (.num source), value, some (.flag permit)] =>
    match tareOf source (asInt value) with
    | none => reply .range s
    | some tare =>
      if !validId id ∨ material < 1 ∨ source = 1 then reply .range s
      else if (visitOf s id).isSome then refuse .state 2 s
      else if Config.visitSlots ≤ s.visits.table.length then refuse .full 3 s
      else match activeRow s material with
        | none => refuse .notFound 5 s
        | some row =>
          if row.restricted ∧ !permit then refuse .state 6 s
          else if !canClaim 4 s then refuse .full 8 s
          else
            let attendance := ((findVehicle s id).map (·.attendance)).getD false
            replyWith .done (u16 (assignVisitNumber s))
              (openVisit (fun n => freshVisit s n id 0 material 0 tare none attendance true) s)
  | _ => reply .range s

/-- The lane of the visit is absent, or not in ENTERING, WEIGHING or TICKETING (R169). -/
def laneLeavesAlone (s : State) (v : Visit) : Bool :=
  match v.lane with
  | none => true
  | some l =>
    match (s.seq.lanes[l]).state with
    | .entering => false
    | .weighing => false
    | .ticketing => false
    | _ => true

/-- A visit is voided with reason OFFICE, and the lane that carried it is told (R168). -/
def voidByOffice (v : Visit) (s : State) : State :=
  let s := voidVisit v.number .office s
  match v.lane with
  | some l => voidTold l s
  | none => s

/-- VOID VISIT (R169). -/
def voidRequest (_ : Byte) (vs : List (Option Value)) (s : State) : Reply :=
  match vs with
  | [some (.num n)] =>
    if n < 1 then reply .range s
    else match findVisit s n with
      | none => reply .notFound s
      | some v =>
        if !v.underlying.early then reply .state s
        else if !laneLeavesAlone s v then reply .state s
        else reply .done (voidByOffice v s)
  | _ => reply .range s

/-- The actions of RESOLVE VISIT (R170). -/
inductive VisitAction
  | accept
  | useTare (value : Nat)
  | reweigh
  | void
  deriving DecidableEq, Repr

/-- The action of a code and an optional tare value. A value given with ACCEPT, REWEIGH or VOID, of which R170 does not speak,
is not used (DESIGN CHOICE, notes/assumptions/5.md). -/
def actionOf (code : Nat) (value : Option Int) : Option VisitAction :=
  match code, value with
  | 1, _ => some .accept
  | 2, some v => if 1 ≤ v ∧ v ≤ 150000 then some (.useTare v.toNat) else none
  | 3, _ => some .reweigh
  | 4, _ => some .void
  | _, _ => none

/-- The action is allowed for the hold: the table of R170. -/
def allowed (reason : HoldReason) (resume : VisitState) (a : VisitAction) : Bool :=
  match reason, resume, a with
  | .unstable, .admitted, .reweigh => true
  | .unstable, .leaving, .reweigh => true
  | .unstable, .admitted, .void => true
  | .unstable, .leaving, .void => true
  | .notForTrade, .admitted, .useTare _ => false
  | .noZeroReturn, .admitted, .useTare _ => false
  | .notForTrade, .admitted, _ => true
  | .noZeroReturn, .admitted, _ => true
  | .notForTrade, .leaving, _ => true
  | .noZeroReturn, .leaving, _ => true
  | .tareMismatch, .leaving, _ => true
  | .netNegative, .leaving, _ => true
  | .noTariff, .admitted, .accept => true
  | .noTariff, .leaving, .accept => true
  | .noTariff, .admitted, .void => true
  | .noTariff, .leaving, .void => true
  | .office, st, .void => st.early
  | .yardStop, st, .void => st.early
  | _, _, _ => false

/-- The lane carrying the visit is told a resolution. -/
def tellResolution (v : Visit) (r : Resolution) (s : State) : State :=
  match v.lane with
  | some l => resolveLane l r s
  | none => s

/-- The visit's row in the bank it carries. -/
def visitRow (s : State) (v : Visit) : Option TariffRow := v.bank.bind (fun b => rowIn s b v.material)

/-- The bank is given up and the active bank fixed, as ACCEPT of a visit held NO_TARIFF does first (R171). -/
def refixBank (v : Visit) (s : State) : State :=
  let s := match v.bank with
    | some b => unrefBank b s
    | none => s
  modVisit v.number (fun x => { x with bank := some s.tables.active }) (refBank s.tables.active s)

/-- ACCEPT once the visit carries the bank it will be charged from (R171). `former` is the state the request was taken in: a net
below 0 is refused with the visit HELD as it was, and a refused request changes nothing (R197). Only a want of a row keeps
the bank just taken. -/
def acceptHeld (n : Nat) (former s : State) : Reply :=
  match findVisit s n with
  | none => reply .notFound s
  | some v =>
    match v.hold, v.held, visitRow s v with
    | some (_, .admitted), some (_, w), some row => reply .done (tellResolution v .release (acceptFirst n w row.kind s))
    | some (_, .leaving), some (_, w), some row =>
      match v.first with
      | some w1 =>
        if netWeight row.kind v.tare w1.weight w.weight < 0 then reply .state former
        else reply .done (tellResolution v .ticket (complete v w1 w row v.tare s))
      | none => reply .state s
    | _, _, _ => reply .state s

/-- ACCEPT (R171). -/
def resolveAccept (v : Visit) (s : State) : Reply :=
  match v.hold with
  | some (.noTariff, _) => acceptHeld v.number s (refixBank v s)
  | _ => acceptHeld v.number s s

/-- USE TARE (R172). -/
def resolveTare (v : Visit) (value : Nat) (s : State) : Reply :=
  match visitRow s v, v.first, v.held with
  | some row, some w1, some (_, w) =>
    if netWeight row.kind (.declared value) w1.weight w.weight < 0 then reply .range s
    else reply .done (tellResolution v .ticket (complete v w1 w row (.declared value) s))
  | _, _, _ => reply .state s

/-- REWEIGH (R173). -/
def resolveReweigh (v : Visit) (s : State) : Reply :=
  reply .done (tellResolution v .reweigh
    (modVisit v.number (fun x => { x with held := none, state := x.underlying, hold := none }) s))

/-- VOID (R173): the void tells the lane (R168). -/
def resolveVoid (v : Visit) (s : State) : Reply := reply .done (voidByOffice v s)

/-- RESOLVE VISIT (R170). -/
def resolveVisit (_ : Byte) (vs : List (Option Value)) (s : State) : Reply :=
  match vs with
  | [some (.num n), some (.num code), value] =>
    match actionOf code (asInt value) with
    | none => reply .range s
    | some a =>
      if n < 1 then reply .range s
      else match findVisit s n with
        | none => reply .notFound s
        | some v =>
          match v.hold with
          | none => reply .state s
          | some (reason, resume) =>
            if !allowed reason resume a then reply .state s
            else match a with
              | .accept => resolveAccept v s
              | .useTare value => resolveTare v value s
              | .reweigh => resolveReweigh v s
              | .void => resolveVoid v s
  | _ => reply .range s

/-! ## RESTORE VISIT (R174) -/

/-- The visit state of a code. -/
def visitStateOf (n : Nat) : Option VisitState :=
  match n with
  | 1 => some .admitted
  | 2 => some .onSite
  | 3 => some .leaving
  | _ => none

/-- The first weight record shows the conditions of R174's third check. -/
def restoredWeightFits (w : WeightRecord) : Bool :=
  decide (1 ≤ w.bridge) && decide (w.bridge ≤ 4) && [1, 2, 5, 10, 20, 50, 100].contains w.e
    && decide (w.weight % w.e = 0)
    && (!w.trade || (w.stableMark && w.zeroReturn && w.legality == .ready && decide ((20 * w.e : Int) ≤ w.weight)
      && decide (w.weight ≤ 150000)))

/-- The visit is restored, once every check has passed: the steps of R174 but the answer. -/
def restoreInto (v : Visit) (s : State) : State :=
  let s := if v.account = 0 then s else reserve v.account v.reserve s
  let s := match v.bank with
    | some b => refBank b s
    | none => s
  let s := insertVisit v (takeClaims 4 s)
  let s := spendVisitClaim v.number (.visitOpened v.number v.vehicle v.account v.material v.tare v.reserve v.inLane
    v.attendance v.opened v.restored) s
  if v.state = .admitted then s
  else releaseClaims 1 (modVisit v.number (fun x => { x with claims := x.claims - 1 }) s)

/-- The reserve of a RESTORE VISIT lies in its range: 0 to 100,000,000 cents, and 0 for account 0 (R174) and for an account whose
kind is COUNCIL (R139, R151, whose ranges R174's first check takes; DEDUCED, notes/assumptions/30.md). -/
def restoredReserveFits (s : State) (account : Nat) (reserve_ : Int) : Bool :=
  within 0 100000000 (some reserve_) && (account != 0 || reserve_ == 0)
    && match findAccount s account with
      | some a => a.kind != .council || reserve_ == 0
      | none => true

/-- RESTORE VISIT (R174). -/
def restoreVisit (_ : Byte) (vs : List (Option Value)) (s : State) : Reply :=
  match vs with
  | [some (.num n), some (.text id), some (.num account), some (.num material), some (.num source), value,
      some (.int reserve_), some (.num st), some (.time opened), some (.flag officeOpened), some (.flag attendance),
      bank, first, gross] =>
    let bank := (asNum bank).map bankOf
    let first := match first with
      | some (.weightRecord w) => some w
      | _ => none
    match tareOf source (asInt value), visitStateOf st with
    | some tare, some st =>
      if n < 1 ∨ !validId id ∨ 999999 < account ∨ material < 1 ∨ bank = some none ∨ !(within 1 150000 (asInt gross))
          ∨ !restoredReserveFits s account reserve_ then reply .range s
      else if (st = .admitted ∧ (bank.isSome ∨ first.isSome)) ∨ (st ≠ .admitted ∧ (bank.isNone ∨ first.isNone)) then
        reply .range s
      else if (match first with
          | some w => !restoredWeightFits w
          | none => false) then reply .range s
      else if (findVisit s n).isSome ∨ (visitOf s id).isSome then reply .state s
      else if Config.visitSlots ≤ s.visits.table.length then reply .full s
      else if account ≠ 0 ∧ (findAccount s account).isNone then reply .notFound s
      else if !canClaim 4 s then reply .full s
      else
        let v := freshVisit s n id account material reserve_.toNat tare none attendance officeOpened
        reply .done (restoreInto
          { v with bank := bank.join, first := first, maxGross := (asInt gross).map Int.toNat, state := st,
                   opened := opened, restored := true } s)
    | _, _ => reply .range s
  | _ => reply .range s

/-! ## Settings and reading -/

/-- SET TARE TOLERANCE (R175). -/
def setTareTolerance (_ : Byte) (vs : List (Option Value)) (s : State) : Reply :=
  match vs with
  | [some (.num p)] =>
    if p < 1 ∨ 20 < p then reply .range s
    else reply .done (modVisits (fun t => { t with tolerance := p }) s)
  | _ => reply .range s

/-- A visit record in an answer, in the order of R151 (R176). -/
def Visit.items (v : Visit) : Bytes :=
  u16 v.number ++ string1 v.vehicle ++ u32 v.account ++ u8 v.material ++ u8 v.tare.code
    ++ opt (fun t : Nat => weight4 t) v.tare.value ++ money8 v.reserve ++ opt bank1 v.bank
    ++ opt (fun g : Nat => weight4 g) v.maxGross ++ opt WeightRecord.bytes v.first ++ opt WeightRecord.bytes v.second
    ++ opt (fun h : WeightSlot × WeightRecord => h.2.bytes ++ u8 h.1.code) v.held
    ++ opt idx1 v.inLane ++ opt idx1 v.outLane ++ opt idx1 v.lane ++ u8 v.state.code
    ++ opt (fun h : HoldReason × VisitState => u8 h.1.code ++ u8 h.2.code) v.hold
    ++ opt (fun c : Charge => weight4 c.net ++ money8 c.gate ++ money8 c.levy ++ money8 c.total) v.charge
    ++ marks1 [v.posted, v.saturated, v.overweight] ++ u8 v.claims ++ v.opened.bytes
    ++ flag1 v.officeOpened ++ flag1 v.attendance ++ flag1 v.restored

/-- READ VISIT (R176). -/
def readVisit (_ : Byte) (vs : List (Option Value)) (s : State) : Reply :=
  match vs with
  | [some (.num n)] =>
    if n < 1 then reply .range s
    else match findVisit s n with
      | some v => replyWith .done v.items s
      | none => reply .notFound s
  | _ => reply .range s

/-- READ VISIT BY VEHICLE (R176). -/
def readVisitByVehicle (_ : Byte) (vs : List (Option Value)) (s : State) : Reply :=
  match vs with
  | [some (.text id)] =>
    match visitOf s id with
    | some v => replyWith .done v.items s
    | none => reply .notFound s
  | _ => reply .range s

/-- READ VISIT NEXT (R176). The count of open visits, the next visit number and the tare tolerance are returned whether or not a
visit follows. -/
def readVisitNext (_ : Byte) (vs : List (Option Value)) (s : State) : Reply :=
  let found : Option Visit := match vs with
    | [some (.num n)] => s.visits.table.find? (fun v => n < v.number)
    | _ => s.visits.table.head?
  let tail := u8 s.visits.table.length ++ u16 s.visits.next ++ u8 s.visits.tolerance
  match found with
  | some v => replyWith .done (v.items ++ tail) s
  | none => replyWith .notFound tail s

end Sys2Proof.Machine
end

