-- ==== Sys2Proof/Machine/LaneRequests.lean ====
section
/-! DEFINITION. The lane sequencer's requests (section 5.10). -/
namespace Sys2Proof.Machine

/-- A value taken with its default where the request leaves it out (R95). -/
def setting (default lo hi : Nat) (given : Option Value) : Nat := clamp lo hi ((asNum given).getD default)

/-- A value given inside its range, or left out. -/
def unclamped (lo hi : Nat) (given : Option Value) : Bool :=
  match asNum given with
  | some n => decide (lo ≤ n) && decide (n ≤ hi)
  | none => true

/-- PUT LANE (R118): function, direction and bridge as given, the flag and the timers with their defaults where they are
left out (R95). -/
def putLane (_ : Byte) (vs : List (Option Value)) (s : State) : Reply :=
  match vs with
  | [some (.num k), some (.num bridge), some (.num direction), some (.num function), flag, entry, ask, stability,
      clearance, motion, print] =>
    match laneOf k, bridgeOf bridge with
    | some l, some b =>
      if (s.seq.lanes[l]).state ≠ .closed then reply .state s
      else
        let release := match flag with
          | some (.flag f) => f
          | _ => false
        let c : LaneConfig :=
          { bridge := b, direction := if direction = 1 then .aToB else .bToA,
            function := if function = 1 then .inbound else .outbound, releaseOnFailure := release,
            entryTime := setting 90 10 600 entry, askTime := setting 60 10 300 ask,
            stabilityTime := setting 30 5 120 stability, clearanceTime := setting 60 10 600 clearance,
            motionTime := setting 8 2 30 motion, printTime := setting 20 5 120 print }
        let inRanges := unclamped 10 600 entry && unclamped 10 300 ask && unclamped 5 120 stability
          && unclamped 10 600 clearance && unclamped 2 30 motion && unclamped 5 120 print
        let s := modLane l (fun x => { x with config := some c }) s
        reply (if inRanges then .done else .doneClamped) (if admittable s l then enterPlain l .idle s else s)
    | _, _ => reply .range s
  | _ => reply .range s

/-- OPEN LANE (R119). -/
def openLane (_ : Byte) (vs : List (Option Value)) (s : State) : Reply :=
  match vs with
  | [some (.num k)] =>
    match laneOf k with
    | none => reply .range s
    | some l =>
      if (s.seq.lanes[l]).config.isNone then reply .state s
      else
        let s := modLane l (fun x => { x with isOpen := true }) s
        reply .done (if (s.seq.lanes[l]).state = .closed ∧ admittable s l then enterPlain l .idle s else s)
  | _ => reply .range s

/-- CLOSE LANE (R120). -/
def closeLane (_ : Byte) (vs : List (Option Value)) (s : State) : Reply :=
  match vs with
  | [some (.num k)] =>
    match laneOf k with
    | none => reply .range s
    | some l =>
      let s := modLane l (fun x => { x with isOpen := false }) s
      reply .done (match (s.seq.lanes[l]).state with
        | .idle => enterPlain l .closed s
        | .asking => enterPlain l .closed (modLane l (fun x => { x with asking := none }) s)
        | _ => s)
  | _ => reply .range s

/-- HOLD LANE (R121). -/
def holdRequest (_ : Byte) (vs : List (Option Value)) (s : State) : Reply :=
  match vs with
  | [some (.num k)] =>
    match laneOf k with
    | none => reply .range s
    | some l =>
      let st := (s.seq.lanes[l]).state
      if st.faults && st != .idle then reply .done (holdLane l .office st s) else reply .state s
  | _ => reply .range s

/-- A hold reason RESUME is taken for (R122). -/
def HoldReason.resumes : HoldReason → Bool
  | .office => true
  | r => r.attendant

/-- RELEASE LANE's checks on the lane's state (R122). -/
def releaseRefused (s : State) (l : LaneId) (resumeAsked : Bool) : Bool :=
  let lane := s.seq.lanes[l]
  match lane.state with
  | .held => resumeAsked && !((lane.hold.map (fun h => h.1.resumes)).getD false)
  | .fault =>
    lane.armFaulted || (roleOf s (.station l .entry)).fill == .empty || (roleOf s (.station l .exit)).fill == .empty
  | _ => true

/-- RELEASE LANE (R122): action 1 is RESUME and 2 is LET_OFF. -/
def releaseLane (_ : Byte) (vs : List (Option Value)) (s : State) : Reply :=
  match vs with
  | [some (.num k), some (.num action)] =>
    match laneOf k with
    | none => reply .range s
    | some l =>
      if s.yardStop then reply .state s
      else if releaseRefused s l (action == 1) then reply .state s
      else if action = 1 then reply .done (resume l s)
      else reply .done (letOff l (modLane l (fun x => { x with reweigh := false, outcome := none }) s))
  | _ => reply .range s

/-- BARRIER OVERRIDE (R123): action 1 is RAISE and 2 is LOWER. The override's own command is offered first, so that its refusal
leaves everything as it was; the other offers of R110 follow the change of the desired position (notes/assumptions/10.md). A LOWER is not offered while the loop image is not CLEAR:
the desired position stands, R110 offers the command later, and the answer, which R123 does not give for it, is DONE as
behind an outstanding command (DESIGN CHOICE, notes/assumptions/10.md). -/
def barrierOverride (_ : Byte) (vs : List (Option Value)) (s : State) : Reply :=
  match vs with
  | [some (.num k), some (.num end_), some (.num action)] =>
    match laneOf k with
    | none => reply .range s
    | some l =>
      let e := endOf end_
      match filledNode s (.station l e) with
      | none => reply .state s
      | some a =>
        let x := (s.seq.lanes[l]).station e
        if x.driveOffMark ∨ x.arm = .off then reply .state s
        else
          let want : WantedArm := if action = 1 then .up else .down
          let settle (u : State) : State := stationOffers l e (modStation l e (fun x => { x with wantArm := want }) u)
          if x.outArm.isSome ∨ (want = .down ∧ x.loop ≠ .clear) then reply .done (settle s)
          else match offerArm l e a (if action = 1 then .raise else .lower) s with
            | (taken, none) => reply .done (settle taken)
            | (_, some .queueFull) => reply .busy s
            | (_, some _) => reply .state s
  | _ => reply .range s

/-- The code of a signal image: the aspects of R216, then UNKNOWN as the fourth value R109 lists (R214). -/
def signalCode : Option Aspect → Nat
  | some a => a.code
  | none => 4

/-- A station in an answer (R124). R124 does not say how the outstanding commands are laid out: the model sends the arm
command and the SIGNAL as optional codes, and DRIVE OFF and DRIVE ON as bits 0 and 1 of a marks byte (DESIGN CHOICE,
notes/assumptions/5.md). -/
def Station.items (x : Station) : Bytes :=
  u8 x.arm.code ++ u8 x.loop.code ++ u8 (signalCode x.signal) ++ u8 x.drive.code
    ++ u8 x.wantArm.code ++ u8 x.wantSignal.code ++ marks1 [x.driveOffMark]
    ++ opt (fun c : ArmCommand => u8 c.code) x.outArm ++ opt (fun a : Aspect => u8 a.code) x.outSignal
    ++ marks1 [x.outOff, x.outOn] ++ opt (fun m : ArmCommand × Nat => u32 m.2) x.motion

/-- A lane's configuration in an answer, in the order of R95. -/
def LaneConfig.items (c : LaneConfig) : Bytes :=
  idx1 c.bridge ++ u8 c.direction.code ++ u8 c.function.code ++ flag1 c.releaseOnFailure ++ u16 c.entryTime
    ++ u16 c.askTime ++ u8 c.stabilityTime ++ u16 c.clearanceTime ++ u8 c.motionTime ++ u8 c.printTime

/-- A bridge's grant, queue, beams and pause in an answer (R124). -/
def BridgeSeq.items (x : BridgeSeq) : Bytes :=
  opt idx1 x.holder ++ counted idx1 x.queue ++ u8 x.beamA.code ++ u8 x.beamB.code ++ flag1 x.pause
    ++ opt u32 x.pauseTimer

/-- READ LANE (R124). -/
def readLane (_ : Byte) (vs : List (Option Value)) (s : State) : Reply :=
  match vs with
  | [some (.num k)] =>
    match laneOf k with
    | none => reply .range s
    | some l =>
      let x := s.seq.lanes[l]
      replyWith .done
        (opt LaneConfig.items x.config
          ++ flag1 x.isOpen ++ u8 x.state.code ++ flag1 (admittable s l)
          ++ opt u16 x.visit ++ opt string1 x.asking
          ++ opt (fun h : HoldReason × LaneState => u8 h.1.code ++ u8 h.2.code) x.hold
          ++ opt (fun f : FaultReason × LaneState => u8 f.1.code ++ u8 f.2.code) x.fault
          ++ u8 (match x.outcome with
              | none => 1
              | some true => 2
              | some false => 3)
          ++ marks1 [x.reweigh, x.nearBeam]
          ++ opt (fun t : LaneTimer × Countdown => u8 t.1.code ++ u32 t.2.left) x.timer
          ++ opt (fun b : BridgeId => (s.seq.bridges[b]).items) x.bridge
          ++ x.entry.items ++ x.exit.items ++ flag1 s.yardStop) s
  | _ => reply .range s

end Sys2Proof.Machine
end

