-- ==== Sys2Proof/Machine/Resets.lean ====
section
/-! DEFINITION. The cold reset and the warm reset of every block (R28, R29, R46, R49, R81, R94, R125, R126, R150, R177, R178, R192, R211, R212), loss of supply, and the completion of store writes with a reset waiting for them (R31). -/
namespace Sys2Proof.Machine

/-- The STARTED record of a reset (R211). The number of records queued that it names is the number before it joins the queue:
R211 does not say whether it counts itself (DESIGN CHOICE, notes/assumptions/16.md). -/
def queueStarted (kind : ResetKind) (s : State) : State :=
  let st := s.cal.store
  queueRecord (.started kind
    (st.records.toList.map (fun (i : StoreItem CalRecord) => i.valid) ++ [st.counter.valid, st.ticket.valid])
    s.tables.clock.set s.calEnable s.yardStop s.port.records.length s.port.claims) s

/-- The judgements and bridge states made at a reset, with no record (R28, R47, R49). -/
def deriveAtReset (s : State) : State :=
  allBridges.foldl (fun s b => setBridgeState b s) (allBridges.foldl (fun s b => judge b s) s)

/-- A line asserted at a reset is acted on as an assertion (R125, R126). -/
def stopAtReset (s : State) : State := if s.yardStop then assertStop s else s

/-! ## Cold reset -/

/-- What a cold reset sets: a write that was in flight is left with a failed check, every volatile block takes its cold
values, the six checks are run, STARTED is queued first and a line asserted is acted on. -/
def coldValues (s : State) : State :=
  let store := checkStore (cutWrite s.cal.store)
  let s : State :=
    { powered := true, calEnable := s.calEnable, yardStop := s.yardStop,
      engine := Vector.replicate 4 (Engine.cold false),
      cal := { store := store, session := none, restricted := Vector.replicate 4 false },
      bus := Bus.cold 20, plan := Plan.cold (Vector.replicate 32 none), seq := Seq.cold s.yardStop,
      tables := Tables.cold, visits := Visits.cold, tickets := Tickets.cold, port := Port.cold,
      sentFrames := [], pending := s.pending }
  stopAtReset (queueStarted .cold (deriveAtReset s))

/-- Power-on: the cold values, and the first scan cycle starts at once (R81). -/
def coldReset (s : State) : State := startCycle (coldValues s)

/-! ## Warm reset, block by block -/

/-- The engine across a warm reset (R29). -/
def Engine.warm (e : Engine) : Engine :=
  { Engine.cold false with
    zero := e.zero, zeroReturn := e.zeroReturn, last := e.last, previous := e.previous, params := e.params,
    outOfService := e.outOfService }

/-- A station across a warm reset, with its desired arm (R126). -/
def Station.warm (stop : Bool) (want : WantedArm) : Station := { Station.cold stop with wantArm := want }

/-- The state a lane takes at a warm reset (R126). -/
def warmState : LaneState → LaneState
  | .entering => .held
  | .weighing => .held
  | .ticketing => .held
  | .releasing => .held
  | .waitBridge => .waitBridge
  | .held => .held
  | .fault => .fault
  | .asking => .closed
  | .idle => .closed
  | .closed => .closed

/-- A lane across a warm reset (R126). The near-beam mark, the reweigh-pending mark, the kept resolution and the pending
admission of a lane in HELD or FAULT, which R126 does not name, stay (DEDUCED, notes/assumptions/16.md). -/
def Lane.warm (stop : Bool) (x : Lane) : Lane :=
  let st := warmState x.state
  let want : WantedArm := if st = .held ∨ st = .fault then .none else .down
  { x with
    state := st,
    hold := if x.state.onBridge then some (.restart, x.state) else x.hold,
    visit := if st = .closed then none else x.visit,
    asking := if st = .closed then none else x.asking,
    timer := none, reversing := false,
    entry := Station.warm stop want, exit := Station.warm stop want }

/-- A bridge of the sequencer across a warm reset: its queue is filled again in lane-number order (R126). -/
def BridgeSeq.warm (x : BridgeSeq) : BridgeSeq :=
  { BridgeSeq.cold with holder := x.holder, queue := (List.finRange 8).filter (fun l => x.queue.contains l) }

/-- The port across a warm reset (R212). A frame already being sent is cut off with those that wait, here and at a cold reset
(DESIGN CHOICE, notes/assumptions/16.md). -/
def Port.warm (kind : ResetKind) (p : Port) : Port :=
  { Port.cold with timeout := p.timeout, records := p.records, nextRecord := p.nextRecord, claims := p.claims,
                   dropped := p.dropped, lastReset := kind }

/-- A session open at a warm reset is aborted without an answer (R46). -/
def abortAtReset (s : State) : State :=
  match s.cal.session with
  | some x => dropSession x s
  | none => s

/-- The store across a warm reset: no write is in flight, writes not begun are given up, and the checks are run (R30, R49). -/
def warmStore (st : Store) : Store := checkStore { st with inFlight := none, asked := [] }

/-- The ticket at a place of a printer's queue ends as FAILED RESET when it is an ORIGINAL; a COPY is discarded (R192). -/
def endAtReset (l : LaneId) (t : Ticket) (s : State) : State :=
  match t.kind with
  | .copy => s
  | .original =>
    let s := modPrinter l (fun p => { p with
      lastJob := some { kind := .original, number := t.number, jobTag := t.jobTag, failure := some .reset } }) s
    let lane := (findVisit s t.content.visit).bind (·.lane)
    let s := closeVisit t.content.visit t.number (some .reset) s
    match lane with
    | some k => ticketTold k false s
    | none => s

/-- The tickets at one place of the eight queues end, in lane order (R192). -/
def endPlace (queues : LaneId → List Ticket) (i : Nat) (s : State) : State :=
  (List.finRange 8).foldl (fun s l =>
    match (queues l)[i]? with
    | some t => endAtReset l t s
    | none => s) s

/-- The ticket unit across a warm reset: the queues are emptied place by place, then the hand-over list is handed again in
its order (R179, R192). -/
def resetTickets (s : State) : State :=
  let former := s.tickets
  let s := modTickets (fun t => { t with
    printers := t.printers.map (fun p => { p with queue := [], timer := none, outstanding := false, retry := none }),
    handOver := [], numbering := [], inFlight := none }) s
  let s := (List.range Config.ticketSlots).foldl (fun s i => endPlace (fun l => (former.printers[l]).queue) i s) s
  former.handOver.foldl (fun s x => handOver x.1 x.2 s) s

/-- What a warm reset sets, once no write is in flight. -/
def warmValues (kind : ResetKind) (s : State) : State :=
  let s := abortAtReset s
  let s : State := { s with
    engine := s.engine.map Engine.warm,
    cal := { s.cal with store := warmStore s.cal.store },
    bus := Bus.cold s.bus.scan.period,
    plan := Plan.cold s.plan.entries,
    seq := { lanes := s.seq.lanes.map (Lane.warm s.yardStop), bridges := s.seq.bridges.map BridgeSeq.warm },
    port := Port.warm kind s.port }
  stopAtReset (resetTickets (queueStarted kind (deriveAtReset s)))

/-- The warm reset, once no write is in flight: the values of each block, and the first scan cycle starts at once (R81). -/
def warmReset (kind : ResetKind) (s : State) : State := startCycle (warmValues kind s)

/-- A warm reset is asked for: it takes effect at once, or when the write in flight is complete (R31, R210). -/
def askReset (kind : ResetKind) (s : State) : State :=
  if s.port.resetAsked.isSome then s
  else if s.cal.store.inFlight.isSome then modPort (fun p => { p with resetAsked := some kind }) s
  else warmReset kind s

/-- After a write's own work: a warm reset that waited for it takes effect, unless the commit's second write follows
(R31, R44). -/
def settleWrite (s : State) : State :=
  match s.cal.store.inFlight, s.port.resetAsked with
  | none, some kind => warmReset kind s
  | _, _ => s

/-! ## Supply and lines -/

/-- Supply is lost: a write in flight leaves its item with a failed check; nothing runs until the next cold reset (R31). -/
def losePower (s : State) : State :=
  modStore cutWrite { s with powered := false, sentFrames := [] }

/-- The calibration enable line's level; a deassertion aborts an open session (R34). -/
def setCalEnable (level : Bool) (s : State) : State :=
  let former := s.calEnable
  let s := { s with calEnable := level }
  if s.powered && former && !level then lineAbort s else s

/-- The yard stop line's level; each change is acted on (R117). -/
def setYardStop (level : Bool) (s : State) : State :=
  let former := s.yardStop
  let s := { s with yardStop := level }
  if !s.powered ∨ former = level then s
  else if level then assertStop s
  else deassertStop s

end Sys2Proof.Machine
end

