-- ==== Sys2Proof/Machine/PortEvents.lean ====
section
/-! DEFINITION. The office link port (Chapter 9): frames received and sent, the link state, the live subscription, and the port's requests. -/
namespace Sys2Proof.Machine

/-! ## Frames and the link (R193 to R198) -/

/-- A valid frame makes the link UP, or restarts the silence timer (R194, R202). -/
def linkUp (s : State) : State :=
  let silence := some (s.port.timeout * 1000)
  if s.port.up then modPort (fun p => { p with silence := silence }) s
  else
    let s := modPort (fun p => { p with up := true, silence := silence }) s
    if s.port.records.isEmpty then s else makeReady (.notice (noticeBody s)) s

/-- A valid frame joins the request buffer, or is answered BUSY (R196). -/
def bufferFrame (f : OfficeFrame) (s : State) : State :=
  if s.port.buffer.length < Config.requestSlots then
    modPort (fun p => { p with buffer := p.buffer ++ [{ kind := f.kind, tag := f.tag, body := f.body }] }) s
  else answer f.tag .busy [] s

/-- A frame is received; one that is not valid is discarded (R193). -/
def receiveFrame (f : OfficeFrame) (s : State) : State := if frameValid f then bufferFrame f (linkUp s) else s

/-- The transmitter takes the oldest waiting frame (R198). -/
def sendNext (s : State) : State :=
  match s.port.waiting with
  | f :: rest => startSending f (modPort (fun p => { p with waiting := rest }) s)
  | [] => s

/-- The frame being sent has gone: after RESTART's answer the warm reset is asked for (R210). The next frame that waits is
sent (R198); none waits after a reset that took effect at once. -/
def frameGone (s : State) : State :=
  match s.port.sending with
  | none => s
  | some x =>
    let s := modPort (fun p => { p with sending := none }) s
    match x.frame with
    | .restartAnswer _ _ => sendNext (askReset .warmRestart s)
    | _ => sendNext s

/-- The answer to RESTART is waiting to be sent. -/
def restartWaits (s : State) : Bool :=
  s.port.waiting.any fun f => match f with
    | .restartAnswer _ _ => true
    | _ => false

/-- The link becomes DOWN: the subscription ends and what waits to be sent is discarded (R194, R205); an answer to RESTART
among it leaves the reset to be asked for at once (R210). -/
def linkDown (s : State) : State :=
  let restart := restartWaits s
  let s := modPort (fun p => { p with up := false, silence := none, live := none, waiting := [] }) s
  if restart then askReset .warmRestart s else s

/-- The silence timer expires (R194). -/
def silenceExpiry (s : State) : State := if s.port.silence.isSome then linkDown s else s

/-- The interval timer of the subscription expires (R205). -/
def liveExpiry (s : State) : State :=
  match s.port.live with
  | none => s
  | some x =>
    let s := modPort (fun p => { p with live := some { x with timer := x.interval } }) s
    if s.port.waiting.contains .live then s else makeReady .live s

/-- The frame at the head is no request of section 9.3 (R197). -/
def takeUnknown (s : State) : State :=
  match s.port.buffer with
  | [] => s
  | r :: _ =>
    if s.port.restarting ∨ (1 ≤ r.kind.toNat ∧ r.kind.toNat ≤ 64) then s
    else popRequest (answer r.tag .unknownRequest [] s)

/-- A HELP report (R208). -/
def helpReport (l : LaneId) (a : NodeId) (code : Nat) (s : State) : State :=
  queueRecord (.helpCall l a code (s.seq.lanes[l]).state (s.seq.lanes[l]).visit) s

/-! ## Requests -/

/-- SET SILENCE TIMEOUT (R195). -/
def setSilenceTimeout (_ : Byte) (vs : List (Option Value)) (s : State) : Reply :=
  match vs with
  | [some (.num n)] =>
    reply (if clamp 5 300 n = n then .done else .doneClamped) (modPort (fun p => { p with timeout := clamp 5 300 n }) s)
  | _ => reply .range s

/-- The records an answer carries: at most `count`, within the bytes left, and always the first when `always` (R203). -/
def recordsThatFit : Nat → Nat → Bool → List Record → List Record
  | 0, _, _, _ => []
  | _ + 1, _, _, [] => []
  | count + 1, room, always, r :: rest =>
    let size := r.bytes.length
    if size ≤ room then r :: recordsThatFit count (room - size) false rest
    else if always then [r]
    else []

/-- READ RECORDS (R203, R218). -/
def readRecords (_ : Byte) (vs : List (Option Value)) (s : State) : Reply :=
  match vs with
  | [some (.num n)] =>
    if n < 1 ∨ 8 < n then reply .range s
    else
      let rs := recordsThatFit n (Config.maxBody - 4) true s.port.records
      replyWith .done (u16 s.port.records.length ++ u8 rs.length ++ rs.flatMap Record.bytes) s
  | _ => reply .range s

/-- RELEASE RECORDS (R204). -/
def releaseRecords (_ : Byte) (vs : List (Option Value)) (s : State) : Reply :=
  match vs with
  | [some (.num n)] =>
    let left := s.port.records.dropWhile (fun r => decide (r.number ≤ n))
    replyWith .done (u16 (s.port.records.length - left.length) ++ u16 left.length)
      (modPort (fun p => { p with records := left }) s)
  | _ => reply .range s

/-- SUBSCRIBE LIVE (R205). -/
def subscribeLive (_ : Byte) (vs : List (Option Value)) (s : State) : Reply :=
  match vs with
  | [some (.text set), interval] =>
    if set.any (fun b => (bridgeOf b.toNat).isNone) then reply .range s
    else if set = [] then
      reply .done (modPort (fun p => { p with live := none, waiting := p.waiting.filter (fun f => f ≠ .live) }) s)
    else match asNum interval with
      | none => reply .range s
      | some n =>
        let t := clamp 100 5000 n
        let bridges := allBridges.filter (fun b => set.any (fun x => bridgeOf x.toNat = some b))
        reply (if t = n then .done else .doneClamped)
          (modPort (fun p => { p with live := some { bridges := bridges, interval := t, timer := t } }) s)
  | _ => reply .range s

/-- SEND TO NODE (R206). -/
def sendToNode (tag : Byte) (vs : List (Option Value)) (s : State) : Reply :=
  match vs with
  | [some (.role at_), some (.text message)] =>
    if message.length < 1 ∨ 32 < message.length then reply .range s
    else if Config.passSlots ≤ s.port.pass.length then reply .full s
    else match (roleOf s at_).fill, (roleOf s at_).node with
      | .empty, _ => reply .notFound s
      | .degraded, _ => reply .state s
      | .filled, none => reply .state s
      | .filled, some (a, x) =>
        let e : PassEntry := { tag := tag, role := at_, node := a, serial := some x }
        match offer a (.message message) (.pass e) s with
        | (taken, none) => reply .done (modPort (fun p => { p with pass := p.pass ++ [e] }) taken)
        | (_, some .tooLong) => reply .range s
        | (_, some .queueFull) => reply .busy s
        | (_, some .notActive) => reply .state s
  | _ => reply .range s

/-- A live subscription in an answer (R209). -/
def Live.items (x : Live) : Bytes := counted idx1 x.bridges ++ u16 x.interval

/-- READ STATUS (R209): the dropped count is set to 0 once the answer is composed. The silence timer's time has a presence byte,
absent while the timer is stopped; the oldest and the newest record number have one each, and the subscription's bridge set and
interval share one (DESIGN CHOICE, notes/assumptions/5.md). -/
def readStatus (_ : Byte) (_ : List (Option Value)) (s : State) : Reply :=
  let p := s.port
  replyWith .done
    (flag1 p.up ++ u16 p.timeout ++ opt u32 p.silence ++ u8 p.buffer.length
      ++ u16 p.records.length ++ u16 p.claims ++ u16 (unclaimedFree s)
      ++ opt u32 (p.records.head?.map (·.number)) ++ opt u32 (p.records.getLast?.map (·.number)) ++ u32 p.nextRecord
      ++ u16 p.dropped ++ opt Live.items p.live
      ++ counted (fun e : PassEntry => e.role.bytes ++ [e.tag]) p.pass
      ++ flag1 s.calEnable ++ flag1 s.yardStop ++ u8 p.lastReset.code)
    (modPort (fun p => { p with dropped := 0 }) s)

/-- RESTART (R210): its answer is made ready here, and the reset follows its sending; with the link DOWN the reset is asked for
at once. -/
def restart (tag : Byte) (_ : List (Option Value)) (s : State) : Reply :=
  let s := modPort (fun p => { p with restarting := true }) s
  if s.port.up then (makeReady (.restartAnswer tag (u8 Result.done.code)) s, none)
  else (askReset .warmRestart s, none)

end Sys2Proof.Machine
end

