-- ==== Sys2Proof/Machine/Clock.lean ====
section
/-! DEFINITION. A millisecond in which no command arrives: every running timer has one less to run, and the sub-second count rises (notes/assumptions/2.md). What an expiry does is the work of its own row. -/
namespace Sys2Proof.Machine

/-- A running timer with one ms less remaining. -/
def lessOne (t : Option Nat) : Option Nat := t.map (· - 1)

/-- A countdown with one ms less remaining. -/
def Countdown.less (t : Countdown) : Countdown := { t with left := t.left - 1 }

/-- The zero-tracking timer of a bridge (R16). -/
def Engine.tick (e : Engine) : Engine := { e with trackTimer := e.trackTimer - 1 }

/-- The timer of the ladder step an entry stands on (R59). -/
def Ladder.tick : Ladder → Ladder
  | .level1 t => .level1 (t - 1)
  | .level2 t => .level2 (lessOne t)

/-- The timers of the lane bus controller (R59, R72). -/
def Bus.tick (x : Bus) : Bus :=
  { x with nodes := x.nodes.map (fun n => { n with ladder := n.ladder.map Ladder.tick }),
           enum := { x.enum with holdOff := lessOne x.enum.holdOff } }

/-- The attention retry timers (R86). -/
def Plan.tick (x : Plan) : Plan :=
  { x with nodes := x.nodes.map (fun n => { n with retry := lessOne n.retry }) }

/-- The timer of a calibration step (R37). -/
def Session.tick (x : Session) : Session :=
  { x with step := x.step.map (fun r => { r with timer := r.timer - 1 }) }

/-- The timers of a station (R111, R117). -/
def Station.tick (x : Station) : Station :=
  { x with motion := x.motion.map (fun m => (m.1, m.2 - 1)), retry := lessOne x.retry,
           retryOff := lessOne x.retryOff, retryOn := lessOne x.retryOn }

/-- The timers of a lane (section 5.1). -/
def Lane.tick (x : Lane) : Lane :=
  { x with timer := x.timer.map (fun t => (t.1, t.2.less)), entry := x.entry.tick, exit := x.exit.tick }

/-- The timers of the sequencer (section 5.1, R104). -/
def Seq.tick (x : Seq) : Seq :=
  { lanes := x.lanes.map Lane.tick,
    bridges := x.bridges.map (fun b => { b with pauseTimer := lessOne b.pauseTimer }) }

/-- The sub-second count rises up to 999; SECONDS_TICK takes it past (R127). -/
def Clock.tick (c : Clock) : Clock := { c with ms := min 999 (c.ms + 1) }

/-- The timers of a printer (section 8.1). -/
def Printer.tick (p : Printer) : Printer := { p with timer := p.timer.map Countdown.less, retry := lessOne p.retry }

/-- The timers of the office link port (R194, R205). -/
def Port.tick (p : Port) : Port :=
  { p with silence := lessOne p.silence, live := p.live.map (fun x => { x with timer := x.timer - 1 }) }

/-- One millisecond in which nothing arrives. -/
def idleTick (s : State) : State :=
  { s with
    engine := s.engine.map Engine.tick,
    cal := { s.cal with session := s.cal.session.map Session.tick },
    bus := s.bus.tick, plan := s.plan.tick, seq := s.seq.tick,
    tables := { s.tables with clock := s.tables.clock.tick },
    tickets := { s.tickets with printers := s.tickets.printers.map Printer.tick },
    port := s.port.tick, sentFrames := [] }

/-- What the part does when no command waits: a part without supply does nothing. -/
def idle (s : State) : State := if s.powered then idleTick s else s

end Sys2Proof.Machine
end

