-- ==== Sys2Proof/Machine/LineCommands.lean ====
section
/-! DEFINITION. The meanings of the resets, the two lines and the loss of supply. -/
namespace Sys2Proof.Machine

/-- A line changes whether or not the part is supplied; the frames put on the bus are gathered afresh. -/
def onLine (f : State → State) (s : State) : Host.Outcome State Fault Refusal := .next (f { s with sentFrames := [] })

/-- COLD_RESET (R28): the first event of a part that has just been supplied. -/
def execColdReset (s : State) : Host.Outcome State Fault Refusal :=
  .next (coldReset s)

/-- WARM_RESET (R29): the reset line is asserted; the reset waits for a store write in flight (R31). -/
def execWarmReset (s : State) : Host.Outcome State Fault Refusal :=
  act (askReset .warmLine) s

/-- CAL_ENABLE_ASSERT (R34). -/
def execCalEnableAssert (s : State) : Host.Outcome State Fault Refusal :=
  onLine (setCalEnable true) s

/-- CAL_ENABLE_DEASSERT (R34). -/
def execCalEnableDeassert (s : State) : Host.Outcome State Fault Refusal :=
  onLine (setCalEnable false) s

/-- YARD_STOP_ASSERT (R117). -/
def execYardStopAssert (s : State) : Host.Outcome State Fault Refusal :=
  onLine (setYardStop true) s

/-- YARD_STOP_DEASSERT (R117). -/
def execYardStopDeassert (s : State) : Host.Outcome State Fault Refusal :=
  onLine (setYardStop false) s

/-- POWER_LOSS (R31). -/
def execPowerLoss (s : State) : Host.Outcome State Fault Refusal :=
  onLine losePower s

end Sys2Proof.Machine
end

