-- ==== Sys2Proof/Machine/BusCommands.lean ====
section
/-! DEFINITION. The meanings of the scan cycle and of what arrives on the lane bus. -/
namespace Sys2Proof.Machine

/-- SCAN_CYCLE_START (R54). -/
def execScanCycleStart (s : State) : Host.Outcome State Fault Refusal :=
  act cycleDue s

/-- SAMPLE (R2). -/
def execSample (f : BusAnswer) (s : State) : Host.Outcome State Fault Refusal :=
  act (answerArrives 0x40 f) s

/-- PRESENT (R56). -/
def execPresent (f : BusAnswer) (s : State) : Host.Outcome State Fault Refusal :=
  act (answerArrives 0x41 f) s

/-- NO_RESPONSE (R57). -/
def execNoResponse (s : State) : Host.Outcome State Fault Refusal :=
  act noAnswer s

/-- ACK (R65). -/
def execAck (f : BusAnswer) (s : State) : Host.Outcome State Fault Refusal :=
  act (answerArrives 0x45 f) s

/-- NAK_REFUSED (R65). -/
def execNakRefused (f : BusAnswer) (s : State) : Host.Outcome State Fault Refusal :=
  act (answerArrives 0x46 f) s

/-- REPLY (R65). -/
def execReply (f : BusAnswer) (s : State) : Host.Outcome State Fault Refusal :=
  act (answerArrives 0x47 f) s

/-- ATTENTION_WINDOW (R68). -/
def execAttentionWindow (v : BitVec 6) (s : State) : Host.Outcome State Fault Refusal :=
  act (windowRead v) s

/-- REPORT (R69). -/
def execReport (kind : Byte) (f : BusAnswer) (s : State) : Host.Outcome State Fault Refusal :=
  act (answerArrives kind f) s

/-- ENUMERATION_SLOT (R73). -/
def execEnumerationSlot (v : Serial) (s : State) : Host.Outcome State Fault Refusal :=
  act (slotRead v) s

/-- DESCRIPTOR (R74). -/
def execDescriptor (f : BusAnswer) (s : State) : Host.Outcome State Fault Refusal :=
  act (answerArrives 0x42 f) s

/-- RESPONSE_ERROR (R57). -/
def execResponseError (kind : Byte) (f : BusAnswer) (s : State) : Host.Outcome State Fault Refusal :=
  act (errorArrives kind f) s

end Sys2Proof.Machine
end

