-- ==== Sys2Proof/Machine/ReportCommands.lean ====
section
/-! DEFINITION. The meanings of the report rows: each owner takes the report at the head of the attention queue (R71). -/
namespace Sys2Proof.Machine

/-- A BEAM report, taken for the beam pair of a bridge. -/
def pickBeam : Report → Option (NodeId → Attach → State → State)
  | .beam a b => some fun _ at_ s => match at_ with
    | .beams bridge => beamReport bridge a b s
    | _ => s
  | _ => none

/-- A STATION report, taken for a barrier station. -/
def pickStation : Report → Option (NodeId → Attach → State → State)
  | .station arm loop signal drive => some fun _ at_ s => match at_ with
    | .station l e => stationReport l e arm loop signal drive s
    | _ => s
  | _ => none

/-- An IDENTIFY report, taken for a lane terminal. -/
def pickIdentify : Report → Option (NodeId → Attach → State → State)
  | .identify id => some fun _ at_ s => match at_ with
    | .terminal l => identifyReport l id s
    | _ => s
  | _ => none

/-- A KEY report, taken for a lane terminal. -/
def pickKey : Report → Option (NodeId → Attach → State → State)
  | .key k => some fun _ at_ s => match at_ with
    | .terminal l => keyReport l k s
    | _ => s
  | _ => none

/-- An ATTENDANT report, taken for a lane terminal. -/
def pickAttendant : Report → Option (NodeId → Attach → State → State)
  | .attendant => some fun _ at_ s => match at_ with
    | .terminal l => attendantReport l s
    | _ => s
  | _ => none

/-- A HELP report, taken for a lane terminal. -/
def pickHelp : Report → Option (NodeId → Attach → State → State)
  | .help code => some fun a at_ s => match at_ with
    | .terminal l => helpReport l a code s
    | _ => s
  | _ => none

/-- A DONE report, taken for a printer. -/
def pickDone : Report → Option (NodeId → Attach → State → State)
  | .done tag => some fun _ at_ s => match at_ with
    | .printer l => doneReport l tag s
    | _ => s
  | _ => none

/-- A PAPER_OUT report, taken for a printer. -/
def pickPaperOut : Report → Option (NodeId → Attach → State → State)
  | .paperOut _ => some fun _ at_ s => match at_ with
    | .printer l => printerTrouble l .paperOut s
    | _ => s
  | _ => none

/-- A JAM report, taken for a printer. -/
def pickJam : Report → Option (NodeId → Attach → State → State)
  | .jam _ => some fun _ at_ s => match at_ with
    | .printer l => printerTrouble l .jam s
    | _ => s
  | _ => none

/-- BEAM (R103). -/
def execBeam (s : State) : Host.Outcome State Fault Refusal :=
  act (takeHead pickBeam) s

/-- STATION (R109). -/
def execStation (s : State) : Host.Outcome State Fault Refusal :=
  act (takeHead pickStation) s

/-- IDENTIFY (R98). -/
def execIdentify (s : State) : Host.Outcome State Fault Refusal :=
  act (takeHead pickIdentify) s

/-- KEY (R99). -/
def execKey (s : State) : Host.Outcome State Fault Refusal :=
  act (takeHead pickKey) s

/-- ATTENDANT (R114). -/
def execAttendant (s : State) : Host.Outcome State Fault Refusal :=
  act (takeHead pickAttendant) s

/-- HELP (R208). -/
def execHelp (s : State) : Host.Outcome State Fault Refusal :=
  act (takeHead pickHelp) s

/-- DONE (R186). -/
def execDone (s : State) : Host.Outcome State Fault Refusal :=
  act (takeHead pickDone) s

/-- PAPER_OUT (R187). -/
def execPaperOut (s : State) : Host.Outcome State Fault Refusal :=
  act (takeHead pickPaperOut) s

/-- JAM (R187). -/
def execJam (s : State) : Host.Outcome State Fault Refusal :=
  act (takeHead pickJam) s

end Sys2Proof.Machine
end

