-- ==== Sys2Proof/Machine/TimerCommands.lean ====
section
/-! DEFINITION. The meanings of the timer expiries, of SECONDS_TICK and of the completed store writes. An expiry of a timer that is not running does nothing. -/
namespace Sys2Proof.Machine

/-- The hold-off timer's expiry, while a hold-off runs (R72). -/
def holdOffEnds (s : State) : State := if s.bus.enum.holdOff.isSome then endHoldOff s else s

/-- The write is a record write. -/
def StoreWrite.isRecord : StoreWrite → Bool
  | .record _ _ => true
  | _ => false

/-- The write is a counter write. -/
def StoreWrite.isCounter : StoreWrite → Bool
  | .counter _ _ => true
  | _ => false

/-- The write is the next-ticket-number write of a numbering. -/
def StoreWrite.isTicket : StoreWrite → Bool
  | .ticket _ => true
  | _ => false

/-- The write is that of SET TICKET NUMBER. -/
def StoreWrite.isSetTicket : StoreWrite → Bool
  | .setTicket _ _ => true
  | _ => false

/-- The write in flight completes when it is of the row's kind: its own work first, then what waited for it (R31). -/
def onWrite (kind : StoreWrite → Bool) (f : State → State) (s : State) : State :=
  if (s.cal.store.inFlight.map kind).getD false then settleWrite (f s) else s

/-- ZERO_TRACKING_EXPIRY (R16). -/
def execZeroTrackingExpiry (b : BridgeId) (s : State) : Host.Outcome State Fault Refusal :=
  act (trackExpiry b) s

/-- LEVEL_1_EXPIRY (R59). -/
def execLevel1Expiry (a : NodeId) (s : State) : Host.Outcome State Fault Refusal :=
  act (Machine.level1Expiry a) s

/-- LEVEL_2_EXPIRY (R59). -/
def execLevel2Expiry (a : NodeId) (s : State) : Host.Outcome State Fault Refusal :=
  act (Machine.level2Expiry a) s

/-- HOLD_OFF_EXPIRY (R72). -/
def execHoldOffExpiry (s : State) : Host.Outcome State Fault Refusal :=
  act holdOffEnds s

/-- ATTENTION_RETRY_EXPIRY (R86). -/
def execAttentionRetryExpiry (a : NodeId) (s : State) : Host.Outcome State Fault Refusal :=
  act (attentionRetry a) s

/-- CAL_STEP_TIMEOUT (R37). -/
def execCalStepTimeout (s : State) : Host.Outcome State Fault Refusal :=
  act stepTimeout s

/-- INTRUSION_EMPTY_EXPIRY (R104). -/
def execIntrusionEmptyExpiry (b : BridgeId) (s : State) : Host.Outcome State Fault Refusal :=
  act (pauseExpiry b) s

/-- ENTRY_TIMER_EXPIRY (R105). -/
def execEntryTimerExpiry (l : LaneId) (s : State) : Host.Outcome State Fault Refusal :=
  act (entryExpiry l) s

/-- ASK_TIMER_EXPIRY (R99). -/
def execAskTimerExpiry (l : LaneId) (s : State) : Host.Outcome State Fault Refusal :=
  act (askExpiry l) s

/-- STABILITY_TIMER_EXPIRY (R106). -/
def execStabilityTimerExpiry (l : LaneId) (s : State) : Host.Outcome State Fault Refusal :=
  act (stabilityExpiry l) s

/-- CLEARANCE_TIMER_EXPIRY (R108). -/
def execClearanceTimerExpiry (l : LaneId) (s : State) : Host.Outcome State Fault Refusal :=
  act (clearanceExpiry l) s

/-- MOTION_TIMER_EXPIRY (R111). -/
def execMotionTimerExpiry (l : LaneId) (e : LaneEnd) (s : State) : Host.Outcome State Fault Refusal :=
  act (motionExpiry l e) s

/-- STATION_RETRY_EXPIRY (R111). -/
def execStationRetryExpiry (l : LaneId) (e : LaneEnd) (s : State) : Host.Outcome State Fault Refusal :=
  act (Machine.stationRetryExpiry l e) s

/-- DRIVE_RETRY_EXPIRY (R117). -/
def execDriveRetryExpiry (l : LaneId) (e : LaneEnd) (s : State) : Host.Outcome State Fault Refusal :=
  act (Machine.driveRetryExpiry l e) s

/-- PRINT_TIMER_EXPIRY (R187). -/
def execPrintTimerExpiry (l : LaneId) (s : State) : Host.Outcome State Fault Refusal :=
  act (printTimeout l) s

/-- PRINT_RETRY_EXPIRY (R185). -/
def execPrintRetryExpiry (l : LaneId) (s : State) : Host.Outcome State Fault Refusal :=
  act (printRetry l) s

/-- SILENCE_TIMER_EXPIRY (R194). -/
def execSilenceTimerExpiry (s : State) : Host.Outcome State Fault Refusal :=
  act silenceExpiry s

/-- LIVE_INTERVAL_EXPIRY (R205). -/
def execLiveIntervalExpiry (s : State) : Host.Outcome State Fault Refusal :=
  act liveExpiry s

/-- FRAME_GAP_TIMEOUT (R193): the bytes received so far are no frame, and nothing of them is kept. -/
def execFrameGapTimeout (s : State) : Host.Outcome State Fault Refusal :=
  act id s

/-- SECONDS_TICK (R127). -/
def execSecondsTick (s : State) : Host.Outcome State Fault Refusal :=
  act tickSecond s

/-- COMMIT_RECORD_WRITE_DONE (R31). -/
def execCommitRecordWriteDone (s : State) : Host.Outcome State Fault Refusal :=
  act (onWrite StoreWrite.isRecord recordWritten) s

/-- COMMIT_COUNTER_WRITE_DONE (R44). -/
def execCommitCounterWriteDone (s : State) : Host.Outcome State Fault Refusal :=
  act (onWrite StoreWrite.isCounter counterWritten) s

/-- TICKET_NUMBER_WRITE_DONE (R180). -/
def execTicketNumberWriteDone (s : State) : Host.Outcome State Fault Refusal :=
  act (onWrite StoreWrite.isTicket ticketNumbered) s

/-- SET_TICKET_NUMBER_WRITE_DONE (R182). -/
def execSetTicketNumberWriteDone (s : State) : Host.Outcome State Fault Refusal :=
  act (onWrite StoreWrite.isSetTicket numberSet) s

end Sys2Proof.Machine
end

