-- ==== Sys2Proof/Machine/RequestCommands.lean ====
section
/-! DEFINITION. The meanings of the requests of the office link: the port takes the frame at the head of the request buffer, judges its body by the layout here and hands it to the owner (R196, R197). -/
namespace Sys2Proof.Machine

/-- The body of ZERO_BRIDGE, kind 0x01: its fields in order (R217, R15, notes/assumptions/5.md). -/
def zeroBridgeLayout : List Field :=
  [need .u8]

/-- The body of SET_BRIDGE_PARAMETERS, kind 0x02: its fields in order (R217, R25, notes/assumptions/5.md). -/
def setBridgeParametersLayout : List Field :=
  [need .u8, need .u8, need .u8, may .weight, need .u8, need .u16]

/-- The body of SET_BRIDGE_SERVICE, kind 0x03: its fields in order (R217, R26, notes/assumptions/5.md). -/
def setBridgeServiceLayout : List Field :=
  [need .u8, need (.code 2)]

/-- The body of READ_BRIDGE, kind 0x04: its fields in order (R217, R27, notes/assumptions/5.md). -/
def readBridgeLayout : List Field :=
  [need .u8]

/-- The body of CAL_BEGIN, kind 0x05: its fields in order (R217, R36, notes/assumptions/5.md). -/
def calBeginLayout : List Field :=
  [need .u8, may .u8]

/-- The body of CAL_ZERO, kind 0x06: its fields in order (R217, R38, notes/assumptions/5.md). -/
def calZeroLayout : List Field :=
  [need .u8]

/-- The body of CAL_SPAN, kind 0x07: its fields in order (R217, R39, notes/assumptions/5.md). -/
def calSpanLayout : List Field :=
  [need .u8, need .weight]

/-- The body of CAL_CORNER, kind 0x08: its fields in order (R217, R40, notes/assumptions/5.md). -/
def calCornerLayout : List Field :=
  [need .u8, need .u8]

/-- The body of CAL_TRIM, kind 0x09: its fields in order (R217, R41, notes/assumptions/5.md). -/
def calTrimLayout : List Field :=
  [need .u8]

/-- The body of CAL_SET_LIMITS, kind 0x0A: its fields in order (R217, R42, notes/assumptions/5.md). -/
def calSetLimitsLayout : List Field :=
  [need .u8, need .u8, need .weight]

/-- The body of CAL_COMMIT, kind 0x0B: its fields in order (R217, R43, notes/assumptions/5.md). -/
def calCommitLayout : List Field :=
  [need .u8]

/-- The body of CAL_ABORT, kind 0x0C: its fields in order (R217, R45, notes/assumptions/5.md). -/
def calAbortLayout : List Field :=
  [need .u8]

/-- The body of READ_CALIBRATION, kind 0x0D: its fields in order (R217, R48, notes/assumptions/5.md). -/
def readCalibrationLayout : List Field :=
  [need .u8]

/-- The body of SET_SCAN_PERIOD, kind 0x0E: its fields in order (R217, R75, notes/assumptions/5.md). -/
def setScanPeriodLayout : List Field :=
  [need .u8]

/-- The body of ENUMERATE, kind 0x0F: its fields in order (R217, R76, notes/assumptions/5.md). -/
def enumerateLayout : List Field :=
  []

/-- The body of RESET_NODE, kind 0x10: its fields in order (R217, R77, notes/assumptions/5.md). -/
def resetNodeLayout : List Field :=
  [need .u8, need .u8]

/-- The body of RELEASE_NODE, kind 0x11: its fields in order (R217, R78, notes/assumptions/5.md). -/
def releaseNodeLayout : List Field :=
  [need .u8]

/-- The body of READ_NODE, kind 0x12: its fields in order (R217, R79, notes/assumptions/5.md). -/
def readNodeLayout : List Field :=
  [need .u8]

/-- The body of READ_BUS, kind 0x13: its fields in order (R217, R80, notes/assumptions/5.md). -/
def readBusLayout : List Field :=
  []

/-- The body of PUT_PLAN_ENTRY, kind 0x14: its fields in order (R217, R91, notes/assumptions/5.md). -/
def putPlanEntryLayout : List Field :=
  [need .u8, need .serial, need (.code 5), need .role]

/-- The body of DROP_PLAN_ENTRY, kind 0x15: its fields in order (R217, R92, notes/assumptions/5.md). -/
def dropPlanEntryLayout : List Field :=
  [need .u8]

/-- The body of READ_PLAN_ENTRY, kind 0x16: its fields in order (R217, R93, notes/assumptions/5.md). -/
def readPlanEntryLayout : List Field :=
  [need .u8]

/-- The body of PUT_LANE, kind 0x17: its fields in order (R217, R118, notes/assumptions/5.md). -/
def putLaneLayout : List Field :=
  [need .u8, need .u8, need (.code 2), need (.code 2), may .flag, may .u16, may .u16, may .u8, may .u16, may .u8, may .u8]

/-- The body of OPEN_LANE, kind 0x18: its fields in order (R217, R119, notes/assumptions/5.md). -/
def openLaneLayout : List Field :=
  [need .u8]

/-- The body of CLOSE_LANE, kind 0x19: its fields in order (R217, R120, notes/assumptions/5.md). -/
def closeLaneLayout : List Field :=
  [need .u8]

/-- The body of HOLD_LANE, kind 0x1A: its fields in order (R217, R121, notes/assumptions/5.md). -/
def holdLaneLayout : List Field :=
  [need .u8]

/-- The body of RELEASE_LANE, kind 0x1B: its fields in order (R217, R122, notes/assumptions/5.md). -/
def releaseLaneLayout : List Field :=
  [need .u8, need (.code 2)]

/-- The body of BARRIER_OVERRIDE, kind 0x1C: its fields in order (R217, R123, notes/assumptions/5.md). -/
def barrierOverrideLayout : List Field :=
  [need .u8, need (.code 2), need (.code 2)]

/-- The body of READ_LANE, kind 0x1D: its fields in order (R217, R124, notes/assumptions/5.md). -/
def readLaneLayout : List Field :=
  [need .u8]

/-- The body of SET_CLOCK, kind 0x1E: its fields in order (R217, R128, notes/assumptions/5.md). -/
def setClockLayout : List Field :=
  [need .u32]

/-- The body of PUT_VEHICLE, kind 0x1F: its fields in order (R217, R132, notes/assumptions/5.md). -/
def putVehicleLayout : List Field :=
  [need .text, need .u32, may .weight, may .u16, may .weight, may .u8, need .flag, need .flag]

/-- The body of DROP_VEHICLE, kind 0x20: its fields in order (R217, R133, notes/assumptions/5.md). -/
def dropVehicleLayout : List Field :=
  [need .text]

/-- The body of READ_VEHICLE, kind 0x21: its fields in order (R217, R134, notes/assumptions/5.md). -/
def readVehicleLayout : List Field :=
  [need .text]

/-- The body of READ_VEHICLE_NEXT, kind 0x22: its fields in order (R217, R134, notes/assumptions/5.md). -/
def readVehicleNextLayout : List Field :=
  [may .text]

/-- The body of PUT_ACCOUNT, kind 0x23: its fields in order (R217, R136, notes/assumptions/5.md). -/
def putAccountLayout : List Field :=
  [need .u32, need (.code 3), need .money, need .money, need .flag]

/-- The body of DROP_ACCOUNT, kind 0x24: its fields in order (R217, R137, notes/assumptions/5.md). -/
def dropAccountLayout : List Field :=
  [need .u32]

/-- The body of SET_BALANCE, kind 0x25: its fields in order (R217, R142, notes/assumptions/5.md). -/
def setBalanceLayout : List Field :=
  [need .u32, need .money, need .money]

/-- The body of READ_ACCOUNT, kind 0x26: its fields in order (R217, R143, notes/assumptions/5.md). -/
def readAccountLayout : List Field :=
  [need .u32]

/-- The body of READ_ACCOUNT_NEXT, kind 0x27: its fields in order (R217, R143, notes/assumptions/5.md). -/
def readAccountNextLayout : List Field :=
  [may .u32]

/-- The body of PUT_TARIFF_ROW, kind 0x28: its fields in order (R217, R146, notes/assumptions/5.md). -/
def putTariffRowLayout : List Field :=
  [need .u8, need .u8, need (.code 2), need .u32, need .u32, need .money, need .flag]

/-- The body of DROP_TARIFF_ROW, kind 0x29: its fields in order (R217, R147, notes/assumptions/5.md). -/
def dropTariffRowLayout : List Field :=
  [need .u8, need .u8]

/-- The body of SET_TARIFF_SWITCH, kind 0x2A: its fields in order (R217, R148, notes/assumptions/5.md). -/
def setTariffSwitchLayout : List Field :=
  [may .u32]

/-- The body of READ_TARIFF_ROW, kind 0x2B: its fields in order (R217, R149, notes/assumptions/5.md). -/
def readTariffRowLayout : List Field :=
  [need .u8, need .u8]

/-- The body of READ_TARIFF_ROW_NEXT, kind 0x2C: its fields in order (R217, R149, notes/assumptions/5.md). -/
def readTariffRowNextLayout : List Field :=
  [need .u8, may .u8]

/-- The body of READ_TABLES, kind 0x2D: its fields in order (R217, R149, notes/assumptions/5.md). -/
def readTablesLayout : List Field :=
  []

/-- The body of OPEN_VISIT, kind 0x2E: its fields in order (R217, R157, notes/assumptions/5.md). -/
def openVisitLayout : List Field :=
  [need .text, need .u8, need (.code 3), may .weight, need .flag]

/-- The body of VOID_VISIT, kind 0x2F: its fields in order (R217, R169, notes/assumptions/5.md). -/
def voidVisitLayout : List Field :=
  [need .u16]

/-- The body of RESOLVE_VISIT, kind 0x30: its fields in order (R217, R170, notes/assumptions/5.md). -/
def resolveVisitLayout : List Field :=
  [need .u16, need (.code 4), may .weight]

/-- The body of RESTORE_VISIT, kind 0x31: its fields in order (R217, R174, notes/assumptions/5.md). -/
def restoreVisitLayout : List Field :=
  [need .u16, need .text, need .u32, need .u8, need (.code 3), may .weight, need .money, need (.code 6), need .time, need .flag, need .flag, may .u8, may .weightRecord, may .weight]

/-- The body of SET_TARE_TOLERANCE, kind 0x32: its fields in order (R217, R175, notes/assumptions/5.md). -/
def setTareToleranceLayout : List Field :=
  [need .u8]

/-- The body of READ_VISIT, kind 0x33: its fields in order (R217, R176, notes/assumptions/5.md). -/
def readVisitLayout : List Field :=
  [need .u16]

/-- The body of READ_VISIT_BY_VEHICLE, kind 0x34: its fields in order (R217, R176, notes/assumptions/5.md). -/
def readVisitByVehicleLayout : List Field :=
  [need .text]

/-- The body of READ_VISIT_NEXT, kind 0x35: its fields in order (R217, R176, notes/assumptions/5.md). -/
def readVisitNextLayout : List Field :=
  [may .u16]

/-- The body of SET_TICKET_NUMBER, kind 0x36: its fields in order (R217, R182, notes/assumptions/5.md). -/
def setTicketNumberLayout : List Field :=
  [need .u32]

/-- The body of REPRINT_TICKET, kind 0x37: its fields in order (R217, R189, notes/assumptions/5.md). -/
def reprintTicketLayout : List Field :=
  [need .u32, need .u8]

/-- The body of SET_TICKET_HEADER, kind 0x38: its fields in order (R217, R190, notes/assumptions/5.md). -/
def setTicketHeaderLayout : List Field :=
  [need .u8, need .text]

/-- The body of READ_TICKETS, kind 0x39: its fields in order (R217, R191, notes/assumptions/5.md). -/
def readTicketsLayout : List Field :=
  [need .u8]

/-- The body of SET_SILENCE_TIMEOUT, kind 0x3A: its fields in order (R217, R195, notes/assumptions/5.md). -/
def setSilenceTimeoutLayout : List Field :=
  [need .u16]

/-- The body of READ_RECORDS, kind 0x3B: its fields in order (R217, R203, notes/assumptions/5.md). -/
def readRecordsLayout : List Field :=
  [need .u8]

/-- The body of RELEASE_RECORDS, kind 0x3C: its fields in order (R217, R204, notes/assumptions/5.md). -/
def releaseRecordsLayout : List Field :=
  [need .u32]

/-- The body of SUBSCRIBE_LIVE, kind 0x3D: its fields in order (R217, R205, notes/assumptions/5.md). -/
def subscribeLiveLayout : List Field :=
  [need .bytes, may .u16]

/-- The body of SEND_TO_NODE, kind 0x3E: its fields in order (R217, R206, notes/assumptions/5.md). -/
def sendToNodeLayout : List Field :=
  [need .role, need .bytes]

/-- The body of READ_STATUS, kind 0x3F: its fields in order (R217, R209, notes/assumptions/5.md). -/
def readStatusLayout : List Field :=
  []

/-- The body of RESTART, kind 0x40: its fields in order (R217, R210, notes/assumptions/5.md). -/
def restartLayout : List Field :=
  []

/-- ZERO_BRIDGE (R15). -/
def execZeroBridge (s : State) : Host.Outcome State Fault Refusal :=
  act (takeRequest 1 zeroBridgeLayout Machine.zeroBridge) s

/-- SET_BRIDGE_PARAMETERS (R25). -/
def execSetBridgeParameters (s : State) : Host.Outcome State Fault Refusal :=
  act (takeRequest 2 setBridgeParametersLayout Machine.setBridgeParameters) s

/-- SET_BRIDGE_SERVICE (R26). -/
def execSetBridgeService (s : State) : Host.Outcome State Fault Refusal :=
  act (takeRequest 3 setBridgeServiceLayout Machine.setBridgeService) s

/-- READ_BRIDGE (R27). -/
def execReadBridge (s : State) : Host.Outcome State Fault Refusal :=
  act (takeRequest 4 readBridgeLayout Machine.readBridge) s

/-- CAL_BEGIN (R36). -/
def execCalBegin (s : State) : Host.Outcome State Fault Refusal :=
  act (takeRequest 5 calBeginLayout Machine.calBegin) s

/-- CAL_ZERO (R38). -/
def execCalZero (s : State) : Host.Outcome State Fault Refusal :=
  act (takeRequest 6 calZeroLayout Machine.calZero) s

/-- CAL_SPAN (R39). -/
def execCalSpan (s : State) : Host.Outcome State Fault Refusal :=
  act (takeRequest 7 calSpanLayout Machine.calSpan) s

/-- CAL_CORNER (R40). -/
def execCalCorner (s : State) : Host.Outcome State Fault Refusal :=
  act (takeRequest 8 calCornerLayout Machine.calCorner) s

/-- CAL_TRIM (R41). -/
def execCalTrim (s : State) : Host.Outcome State Fault Refusal :=
  act (takeRequest 9 calTrimLayout Machine.calTrim) s

/-- CAL_SET_LIMITS (R42). -/
def execCalSetLimits (s : State) : Host.Outcome State Fault Refusal :=
  act (takeRequest 10 calSetLimitsLayout Machine.calSetLimits) s

/-- CAL_COMMIT (R43). -/
def execCalCommit (s : State) : Host.Outcome State Fault Refusal :=
  act (takeRequest 11 calCommitLayout Machine.calCommit) s

/-- CAL_ABORT (R45). -/
def execCalAbort (s : State) : Host.Outcome State Fault Refusal :=
  act (takeRequest 12 calAbortLayout Machine.calAbort) s

/-- READ_CALIBRATION (R48). -/
def execReadCalibration (s : State) : Host.Outcome State Fault Refusal :=
  act (takeRequest 13 readCalibrationLayout Machine.readCalibration) s

/-- SET_SCAN_PERIOD (R75). -/
def execSetScanPeriod (s : State) : Host.Outcome State Fault Refusal :=
  act (takeRequest 14 setScanPeriodLayout Machine.setScanPeriod) s

/-- ENUMERATE (R76). -/
def execEnumerate (s : State) : Host.Outcome State Fault Refusal :=
  act (takeRequest 15 enumerateLayout Machine.enumerate) s

/-- RESET_NODE (R77). -/
def execResetNode (s : State) : Host.Outcome State Fault Refusal :=
  act (takeRequest 16 resetNodeLayout Machine.resetNode) s

/-- RELEASE_NODE (R78). -/
def execReleaseNode (s : State) : Host.Outcome State Fault Refusal :=
  act (takeRequest 17 releaseNodeLayout Machine.releaseNode) s

/-- READ_NODE (R79). -/
def execReadNode (s : State) : Host.Outcome State Fault Refusal :=
  act (takeRequest 18 readNodeLayout Machine.readNode) s

/-- READ_BUS (R80). -/
def execReadBus (s : State) : Host.Outcome State Fault Refusal :=
  act (takeRequest 19 readBusLayout Machine.readBus) s

/-- PUT_PLAN_ENTRY (R91). -/
def execPutPlanEntry (s : State) : Host.Outcome State Fault Refusal :=
  act (takeRequest 20 putPlanEntryLayout Machine.putPlanEntry) s

/-- DROP_PLAN_ENTRY (R92). -/
def execDropPlanEntry (s : State) : Host.Outcome State Fault Refusal :=
  act (takeRequest 21 dropPlanEntryLayout Machine.dropPlanEntry) s

/-- READ_PLAN_ENTRY (R93). -/
def execReadPlanEntry (s : State) : Host.Outcome State Fault Refusal :=
  act (takeRequest 22 readPlanEntryLayout Machine.readPlanEntry) s

/-- PUT_LANE (R118). -/
def execPutLane (s : State) : Host.Outcome State Fault Refusal :=
  act (takeRequest 23 putLaneLayout Machine.putLane) s

/-- OPEN_LANE (R119). -/
def execOpenLane (s : State) : Host.Outcome State Fault Refusal :=
  act (takeRequest 24 openLaneLayout Machine.openLane) s

/-- CLOSE_LANE (R120). -/
def execCloseLane (s : State) : Host.Outcome State Fault Refusal :=
  act (takeRequest 25 closeLaneLayout Machine.closeLane) s

/-- HOLD_LANE (R121). -/
def execHoldLane (s : State) : Host.Outcome State Fault Refusal :=
  act (takeRequest 26 holdLaneLayout Machine.holdRequest) s

/-- RELEASE_LANE (R122). -/
def execReleaseLane (s : State) : Host.Outcome State Fault Refusal :=
  act (takeRequest 27 releaseLaneLayout Machine.releaseLane) s

/-- BARRIER_OVERRIDE (R123). -/
def execBarrierOverride (s : State) : Host.Outcome State Fault Refusal :=
  act (takeRequest 28 barrierOverrideLayout Machine.barrierOverride) s

/-- READ_LANE (R124). -/
def execReadLane (s : State) : Host.Outcome State Fault Refusal :=
  act (takeRequest 29 readLaneLayout Machine.readLane) s

/-- SET_CLOCK (R128). -/
def execSetClock (s : State) : Host.Outcome State Fault Refusal :=
  act (takeRequest 30 setClockLayout Machine.setClock) s

/-- PUT_VEHICLE (R132). -/
def execPutVehicle (s : State) : Host.Outcome State Fault Refusal :=
  act (takeRequest 31 putVehicleLayout Machine.putVehicle) s

/-- DROP_VEHICLE (R133). -/
def execDropVehicle (s : State) : Host.Outcome State Fault Refusal :=
  act (takeRequest 32 dropVehicleLayout Machine.dropVehicle) s

/-- READ_VEHICLE (R134). -/
def execReadVehicle (s : State) : Host.Outcome State Fault Refusal :=
  act (takeRequest 33 readVehicleLayout Machine.readVehicle) s

/-- READ_VEHICLE_NEXT (R134). -/
def execReadVehicleNext (s : State) : Host.Outcome State Fault Refusal :=
  act (takeRequest 34 readVehicleNextLayout Machine.readVehicleNext) s

/-- PUT_ACCOUNT (R136). -/
def execPutAccount (s : State) : Host.Outcome State Fault Refusal :=
  act (takeRequest 35 putAccountLayout Machine.putAccount) s

/-- DROP_ACCOUNT (R137). -/
def execDropAccount (s : State) : Host.Outcome State Fault Refusal :=
  act (takeRequest 36 dropAccountLayout Machine.dropAccount) s

/-- SET_BALANCE (R142). -/
def execSetBalance (s : State) : Host.Outcome State Fault Refusal :=
  act (takeRequest 37 setBalanceLayout Machine.setBalance) s

/-- READ_ACCOUNT (R143). -/
def execReadAccount (s : State) : Host.Outcome State Fault Refusal :=
  act (takeRequest 38 readAccountLayout Machine.readAccount) s

/-- READ_ACCOUNT_NEXT (R143). -/
def execReadAccountNext (s : State) : Host.Outcome State Fault Refusal :=
  act (takeRequest 39 readAccountNextLayout Machine.readAccountNext) s

/-- PUT_TARIFF_ROW (R146). -/
def execPutTariffRow (s : State) : Host.Outcome State Fault Refusal :=
  act (takeRequest 40 putTariffRowLayout Machine.putTariffRow) s

/-- DROP_TARIFF_ROW (R147). -/
def execDropTariffRow (s : State) : Host.Outcome State Fault Refusal :=
  act (takeRequest 41 dropTariffRowLayout Machine.dropTariffRow) s

/-- SET_TARIFF_SWITCH (R148). -/
def execSetTariffSwitch (s : State) : Host.Outcome State Fault Refusal :=
  act (takeRequest 42 setTariffSwitchLayout Machine.setTariffSwitch) s

/-- READ_TARIFF_ROW (R149). -/
def execReadTariffRow (s : State) : Host.Outcome State Fault Refusal :=
  act (takeRequest 43 readTariffRowLayout Machine.readTariffRow) s

/-- READ_TARIFF_ROW_NEXT (R149). -/
def execReadTariffRowNext (s : State) : Host.Outcome State Fault Refusal :=
  act (takeRequest 44 readTariffRowNextLayout Machine.readTariffRowNext) s

/-- READ_TABLES (R149). -/
def execReadTables (s : State) : Host.Outcome State Fault Refusal :=
  act (takeRequest 45 readTablesLayout Machine.readTables) s

/-- OPEN_VISIT (R157). -/
def execOpenVisit (s : State) : Host.Outcome State Fault Refusal :=
  act (takeRequest 46 openVisitLayout Machine.openWalkIn) s

/-- VOID_VISIT (R169). -/
def execVoidVisit (s : State) : Host.Outcome State Fault Refusal :=
  act (takeRequest 47 voidVisitLayout Machine.voidRequest) s

/-- RESOLVE_VISIT (R170). -/
def execResolveVisit (s : State) : Host.Outcome State Fault Refusal :=
  act (takeRequest 48 resolveVisitLayout Machine.resolveVisit) s

/-- RESTORE_VISIT (R174). -/
def execRestoreVisit (s : State) : Host.Outcome State Fault Refusal :=
  act (takeRequest 49 restoreVisitLayout Machine.restoreVisit) s

/-- SET_TARE_TOLERANCE (R175). -/
def execSetTareTolerance (s : State) : Host.Outcome State Fault Refusal :=
  act (takeRequest 50 setTareToleranceLayout Machine.setTareTolerance) s

/-- READ_VISIT (R176). -/
def execReadVisit (s : State) : Host.Outcome State Fault Refusal :=
  act (takeRequest 51 readVisitLayout Machine.readVisit) s

/-- READ_VISIT_BY_VEHICLE (R176). -/
def execReadVisitByVehicle (s : State) : Host.Outcome State Fault Refusal :=
  act (takeRequest 52 readVisitByVehicleLayout Machine.readVisitByVehicle) s

/-- READ_VISIT_NEXT (R176). -/
def execReadVisitNext (s : State) : Host.Outcome State Fault Refusal :=
  act (takeRequest 53 readVisitNextLayout Machine.readVisitNext) s

/-- SET_TICKET_NUMBER (R182). -/
def execSetTicketNumber (s : State) : Host.Outcome State Fault Refusal :=
  act (takeRequest 54 setTicketNumberLayout Machine.setTicketNumber) s

/-- REPRINT_TICKET (R189). -/
def execReprintTicket (s : State) : Host.Outcome State Fault Refusal :=
  act (takeRequest 55 reprintTicketLayout Machine.reprintTicket) s

/-- SET_TICKET_HEADER (R190). -/
def execSetTicketHeader (s : State) : Host.Outcome State Fault Refusal :=
  act (takeRequest 56 setTicketHeaderLayout Machine.setTicketHeader) s

/-- READ_TICKETS (R191). -/
def execReadTickets (s : State) : Host.Outcome State Fault Refusal :=
  act (takeRequest 57 readTicketsLayout Machine.readTickets) s

/-- SET_SILENCE_TIMEOUT (R195). -/
def execSetSilenceTimeout (s : State) : Host.Outcome State Fault Refusal :=
  act (takeRequest 58 setSilenceTimeoutLayout Machine.setSilenceTimeout) s

/-- READ_RECORDS (R203). -/
def execReadRecords (s : State) : Host.Outcome State Fault Refusal :=
  act (takeRequest 59 readRecordsLayout Machine.readRecords) s

/-- RELEASE_RECORDS (R204). -/
def execReleaseRecords (s : State) : Host.Outcome State Fault Refusal :=
  act (takeRequest 60 releaseRecordsLayout Machine.releaseRecords) s

/-- SUBSCRIBE_LIVE (R205). -/
def execSubscribeLive (s : State) : Host.Outcome State Fault Refusal :=
  act (takeRequest 61 subscribeLiveLayout Machine.subscribeLive) s

/-- SEND_TO_NODE (R206). -/
def execSendToNode (s : State) : Host.Outcome State Fault Refusal :=
  act (takeRequest 62 sendToNodeLayout Machine.sendToNode) s

/-- READ_STATUS (R209). -/
def execReadStatus (s : State) : Host.Outcome State Fault Refusal :=
  act (takeRequest 63 readStatusLayout Machine.readStatus) s

/-- RESTART (R210). -/
def execRestart (s : State) : Host.Outcome State Fault Refusal :=
  act (takeRequest 64 restartLayout Machine.restart) s

end Sys2Proof.Machine
end

