-- ==== Sys2Proof/Machine/LinkCommands.lean ====
section
/-! DEFINITION. The meanings of the rows of the office link that are no request. -/
namespace Sys2Proof.Machine

/-- A frame that is not valid is discarded: nothing of it is kept and no timer restarts (R193). -/
def discardFrame (_ : OfficeFrame) (s : State) : State := s

/-- OFFICE_FRAME (R193). -/
def execOfficeFrame (f : OfficeFrame) (s : State) : Host.Outcome State Fault Refusal :=
  act (receiveFrame f) s

/-- FRAME_SENT (R198). -/
def execFrameSent (s : State) : Host.Outcome State Fault Refusal :=
  act frameGone s

/-- FRAME_DISCARD (R193). -/
def execFrameDiscard (f : OfficeFrame) (s : State) : Host.Outcome State Fault Refusal :=
  act (discardFrame f) s

/-- UNKNOWN_REQUEST (R197). -/
def execUnknownRequest (s : State) : Host.Outcome State Fault Refusal :=
  act takeUnknown s

end Sys2Proof.Machine
end

