-- ==== Sys2Proof/Machine/Dispatch.lean ====
section
/-! DEFINITION. The dispatch of a command to its meaning: one arm per row of spec/opcode_table.json, in its order. -/
namespace Sys2Proof.Machine

/-- What a command does to everything but the queue of waiting commands. -/
def exec (i : Instr) (s : State) : Host.Outcome State Fault Refusal :=
  match i with
  | .coldReset => Sys2Proof.Machine.execColdReset s
  | .warmReset => Sys2Proof.Machine.execWarmReset s
  | .calEnableAssert => Sys2Proof.Machine.execCalEnableAssert s
  | .calEnableDeassert => Sys2Proof.Machine.execCalEnableDeassert s
  | .yardStopAssert => Sys2Proof.Machine.execYardStopAssert s
  | .yardStopDeassert => Sys2Proof.Machine.execYardStopDeassert s
  | .scanCycleStart => Sys2Proof.Machine.execScanCycleStart s
  | .sample f => Sys2Proof.Machine.execSample f s
  | .present f => Sys2Proof.Machine.execPresent f s
  | .noResponse => Sys2Proof.Machine.execNoResponse s
  | .ack f => Sys2Proof.Machine.execAck f s
  | .nakRefused f => Sys2Proof.Machine.execNakRefused f s
  | .reply f => Sys2Proof.Machine.execReply f s
  | .attentionWindow v => Sys2Proof.Machine.execAttentionWindow v s
  | .report kind f => Sys2Proof.Machine.execReport kind f s
  | .enumerationSlot v => Sys2Proof.Machine.execEnumerationSlot v s
  | .descriptor f => Sys2Proof.Machine.execDescriptor f s
  | .beam => Sys2Proof.Machine.execBeam s
  | .station => Sys2Proof.Machine.execStation s
  | .identify => Sys2Proof.Machine.execIdentify s
  | .key => Sys2Proof.Machine.execKey s
  | .attendant => Sys2Proof.Machine.execAttendant s
  | .help => Sys2Proof.Machine.execHelp s
  | .done => Sys2Proof.Machine.execDone s
  | .paperOut => Sys2Proof.Machine.execPaperOut s
  | .jam => Sys2Proof.Machine.execJam s
  | .zeroTrackingExpiry b => Sys2Proof.Machine.execZeroTrackingExpiry b s
  | .level1Expiry a => Sys2Proof.Machine.execLevel1Expiry a s
  | .level2Expiry a => Sys2Proof.Machine.execLevel2Expiry a s
  | .holdOffExpiry => Sys2Proof.Machine.execHoldOffExpiry s
  | .attentionRetryExpiry a => Sys2Proof.Machine.execAttentionRetryExpiry a s
  | .calStepTimeout => Sys2Proof.Machine.execCalStepTimeout s
  | .intrusionEmptyExpiry b => Sys2Proof.Machine.execIntrusionEmptyExpiry b s
  | .entryTimerExpiry l => Sys2Proof.Machine.execEntryTimerExpiry l s
  | .askTimerExpiry l => Sys2Proof.Machine.execAskTimerExpiry l s
  | .stabilityTimerExpiry l => Sys2Proof.Machine.execStabilityTimerExpiry l s
  | .clearanceTimerExpiry l => Sys2Proof.Machine.execClearanceTimerExpiry l s
  | .motionTimerExpiry l e => Sys2Proof.Machine.execMotionTimerExpiry l e s
  | .stationRetryExpiry l e => Sys2Proof.Machine.execStationRetryExpiry l e s
  | .driveRetryExpiry l e => Sys2Proof.Machine.execDriveRetryExpiry l e s
  | .printTimerExpiry l => Sys2Proof.Machine.execPrintTimerExpiry l s
  | .printRetryExpiry l => Sys2Proof.Machine.execPrintRetryExpiry l s
  | .silenceTimerExpiry => Sys2Proof.Machine.execSilenceTimerExpiry s
  | .liveIntervalExpiry => Sys2Proof.Machine.execLiveIntervalExpiry s
  | .frameGapTimeout => Sys2Proof.Machine.execFrameGapTimeout s
  | .secondsTick => Sys2Proof.Machine.execSecondsTick s
  | .commitRecordWriteDone => Sys2Proof.Machine.execCommitRecordWriteDone s
  | .commitCounterWriteDone => Sys2Proof.Machine.execCommitCounterWriteDone s
  | .ticketNumberWriteDone => Sys2Proof.Machine.execTicketNumberWriteDone s
  | .setTicketNumberWriteDone => Sys2Proof.Machine.execSetTicketNumberWriteDone s
  | .officeFrame f => Sys2Proof.Machine.execOfficeFrame f s
  | .frameSent => Sys2Proof.Machine.execFrameSent s
  | .zeroBridge => Sys2Proof.Machine.execZeroBridge s
  | .setBridgeParameters => Sys2Proof.Machine.execSetBridgeParameters s
  | .setBridgeService => Sys2Proof.Machine.execSetBridgeService s
  | .readBridge => Sys2Proof.Machine.execReadBridge s
  | .calBegin => Sys2Proof.Machine.execCalBegin s
  | .calZero => Sys2Proof.Machine.execCalZero s
  | .calSpan => Sys2Proof.Machine.execCalSpan s
  | .calCorner => Sys2Proof.Machine.execCalCorner s
  | .calTrim => Sys2Proof.Machine.execCalTrim s
  | .calSetLimits => Sys2Proof.Machine.execCalSetLimits s
  | .calCommit => Sys2Proof.Machine.execCalCommit s
  | .calAbort => Sys2Proof.Machine.execCalAbort s
  | .readCalibration => Sys2Proof.Machine.execReadCalibration s
  | .setScanPeriod => Sys2Proof.Machine.execSetScanPeriod s
  | .enumerate => Sys2Proof.Machine.execEnumerate s
  | .resetNode => Sys2Proof.Machine.execResetNode s
  | .releaseNode => Sys2Proof.Machine.execReleaseNode s
  | .readNode => Sys2Proof.Machine.execReadNode s
  | .readBus => Sys2Proof.Machine.execReadBus s
  | .putPlanEntry => Sys2Proof.Machine.execPutPlanEntry s
  | .dropPlanEntry => Sys2Proof.Machine.execDropPlanEntry s
  | .readPlanEntry => Sys2Proof.Machine.execReadPlanEntry s
  | .putLane => Sys2Proof.Machine.execPutLane s
  | .openLane => Sys2Proof.Machine.execOpenLane s
  | .closeLane => Sys2Proof.Machine.execCloseLane s
  | .holdLane => Sys2Proof.Machine.execHoldLane s
  | .releaseLane => Sys2Proof.Machine.execReleaseLane s
  | .barrierOverride => Sys2Proof.Machine.execBarrierOverride s
  | .readLane => Sys2Proof.Machine.execReadLane s
  | .setClock => Sys2Proof.Machine.execSetClock s
  | .putVehicle => Sys2Proof.Machine.execPutVehicle s
  | .dropVehicle => Sys2Proof.Machine.execDropVehicle s
  | .readVehicle => Sys2Proof.Machine.execReadVehicle s
  | .readVehicleNext => Sys2Proof.Machine.execReadVehicleNext s
  | .putAccount => Sys2Proof.Machine.execPutAccount s
  | .dropAccount => Sys2Proof.Machine.execDropAccount s
  | .setBalance => Sys2Proof.Machine.execSetBalance s
  | .readAccount => Sys2Proof.Machine.execReadAccount s
  | .readAccountNext => Sys2Proof.Machine.execReadAccountNext s
  | .putTariffRow => Sys2Proof.Machine.execPutTariffRow s
  | .dropTariffRow => Sys2Proof.Machine.execDropTariffRow s
  | .setTariffSwitch => Sys2Proof.Machine.execSetTariffSwitch s
  | .readTariffRow => Sys2Proof.Machine.execReadTariffRow s
  | .readTariffRowNext => Sys2Proof.Machine.execReadTariffRowNext s
  | .readTables => Sys2Proof.Machine.execReadTables s
  | .openVisit => Sys2Proof.Machine.execOpenVisit s
  | .voidVisit => Sys2Proof.Machine.execVoidVisit s
  | .resolveVisit => Sys2Proof.Machine.execResolveVisit s
  | .restoreVisit => Sys2Proof.Machine.execRestoreVisit s
  | .setTareTolerance => Sys2Proof.Machine.execSetTareTolerance s
  | .readVisit => Sys2Proof.Machine.execReadVisit s
  | .readVisitByVehicle => Sys2Proof.Machine.execReadVisitByVehicle s
  | .readVisitNext => Sys2Proof.Machine.execReadVisitNext s
  | .setTicketNumber => Sys2Proof.Machine.execSetTicketNumber s
  | .reprintTicket => Sys2Proof.Machine.execReprintTicket s
  | .setTicketHeader => Sys2Proof.Machine.execSetTicketHeader s
  | .readTickets => Sys2Proof.Machine.execReadTickets s
  | .setSilenceTimeout => Sys2Proof.Machine.execSetSilenceTimeout s
  | .readRecords => Sys2Proof.Machine.execReadRecords s
  | .releaseRecords => Sys2Proof.Machine.execReleaseRecords s
  | .subscribeLive => Sys2Proof.Machine.execSubscribeLive s
  | .sendToNode => Sys2Proof.Machine.execSendToNode s
  | .readStatus => Sys2Proof.Machine.execReadStatus s
  | .restart => Sys2Proof.Machine.execRestart s
  | .powerLoss => Sys2Proof.Machine.execPowerLoss s
  | .frameDiscard f => Sys2Proof.Machine.execFrameDiscard f s
  | .unknownRequest => Sys2Proof.Machine.execUnknownRequest s
  | .responseError kind f => Sys2Proof.Machine.execResponseError kind f s

end Sys2Proof.Machine
end

