-- ==== Sys2Proof/Safety.lean ====
section
/-! DEFINITION. The terms the statements use: the laws of the part (capacities, the record queue's law), the situation a request, a report or an answer finds, and the shape of what it leaves. -/
namespace Sys2Proof.Machine

/-! ## Laws of the part -/

/-- The law of the record queue: records queued plus the claim total never exceed 256 (R200). -/
def RecordLaw (s : State) : Prop := s.port.records.length + s.port.claims ≤ Config.recordSlots

/-- The queues of the bus controller and of the port keep to their sizes (R63, R71, R196, R206). -/
def QueueLaw (s : State) : Prop :=
  s.bus.queue.length ≤ Config.commandSlots ∧ s.bus.reports.length ≤ Config.reportSlots
    ∧ s.port.buffer.length ≤ Config.requestSlots ∧ s.port.pass.length ≤ Config.passSlots

/-- The tables keep to their sizes (R130, R135, R144, R151) and each printer's queue holds at most 4 tickets
(section 8.1). -/
def TableLaw (s : State) : Prop :=
  s.tables.vehicles.length ≤ Config.vehicleSlots ∧ s.tables.accounts.length ≤ Config.accountSlots
    ∧ (∀ b : BankId, (s.tables.banks[b]).rows.length ≤ Config.tariffRows)
    ∧ s.visits.table.length ≤ Config.visitSlots
    ∧ (∀ l : LaneId, (s.tickets.printers[l]).queue.length ≤ Config.ticketSlots)

/-! ## The bounds of the working zero (R17) -/

/-- A zero keeps the bounds of R17 against a calibration source. -/
def Zero.within (z : Zero) (d : CalData) : Prop :=
  5 * |z.zb - z.zinit| ≤ (d.max : Int) ∧ |z.zinit - d.zCal| ≤ (d.max : Int)

/-- A write that belongs to a commit (R31). -/
def StoreWrite.ofCommit : StoreWrite → Bool
  | .record _ _ => true
  | .counter _ _ => true
  | .ticket _ => false
  | .setTicket _ _ => false

/-- The session that asked for a commit's write: open on its bridge, its commit taken and no step in progress. -/
def sessionCommits (s : State) (b : BridgeId) (d : CalData) : Bool :=
  s.cal.session.any (fun x => x.bridge == b && x.commit.isSome && x.step.isNone && x.work == d)

/-- A write of a commit is backed by the session that asked for it, and writes what that session's working copy holds. -/
def StoreWrite.backed (s : State) : StoreWrite → Bool
  | .record b r => sessionCommits s b r.data
  | .counter b _ => (s.cal.store.records[b]).valid && sessionCommits s b (s.cal.store.records[b]).content.data
  | .ticket _ => true
  | .setTicket _ _ => true

/-- The counter write of a commit on the bridge is in flight. -/
def counterWriting (s : State) (b : BridgeId) : Bool :=
  match s.cal.store.inFlight with
  | some (.counter k _) => k == b
  | _ => false

/-- The law of the working zero. While the part is supplied, a bridge with an established zero has a calibration source and
keeps the bounds of R17 against it; so does the zero a session would put back, against the record, until the commit's record
is written; of the writes of the store at most one belongs to a commit, and that one is the open session's; and a VALID
record passes its check. -/
def ZeroLaw (s : State) : Prop :=
  s.powered = true →
    (∀ b : BridgeId, ∀ z ∈ (s.engine[b]).zero, ∃ d ∈ source s b, z.within d)
    ∧ (∀ x ∈ s.cal.session, counterWriting s x.bridge = false →
        ∀ z ∈ x.savedZero, (s.cal.store.records[x.bridge]).valid = true
          ∧ z.within (s.cal.store.records[x.bridge]).content.data)
    ∧ (∀ w ∈ s.cal.store.inFlight.toList ++ s.cal.store.asked, w.backed s = true)
    ∧ (s.cal.store.inFlight.toList ++ s.cal.store.asked).countP StoreWrite.ofCommit ≤ 1
    ∧ (∀ b : BridgeId, (s.cal.store.records[b]).valid = true →
        (s.cal.store.records[b]).check = crc16 (CalRecord.bytes (s.cal.store.records[b]).content))

/-! ## The state a command works on -/

/-- The state with the frames of the step before put away: what a command works on. -/
def fresh (s : State) : State := { s with sentFrames := [] }

/-! ## Requests (R196, R197) -/

/-- The port is about to take a request of a kind: the part is supplied, RESTART has not been taken, and the frame at the
head of the buffer has that kind and this tag. -/
def HeadIs (s : State) (code : Nat) (tag : Byte) (body : Bytes) : Prop :=
  s.powered = true ∧ s.port.restarting = false
    ∧ ∃ r rest, s.port.buffer = r :: rest ∧ r.kind.toNat = code ∧ r.tag = tag ∧ r.body = body

/-- The request at the head has a body that its layout reads as these values. -/
def RequestAt (s : State) (code : Nat) (layout : List Field) (tag : Byte) (vs : List (Option Value)) : Prop :=
  ∃ body, HeadIs s code tag body ∧ readBody layout body = .ok vs

/-- A request answered: the answer is made ready and the frame leaves the buffer (R196). -/
def answered (tag : Byte) (r : Result) (body : Bytes) (s : State) : State := popRequest (answer tag r body s)

/-- The command completes with an answer of this result and result body, the rest of the part being left as in `t`. -/
def Answers (c : Instr) (s : State) (tag : Byte) (r : Result) (body : Bytes) (t : State) : Prop :=
  exec c s = .next (answered tag r body t)

/-- The kind and layout of a request row; none for a row that is no request. -/
def requestOf : Instr → Option (Nat × List Field)
  | .zeroBridge => some (1, zeroBridgeLayout)
  | .setBridgeParameters => some (2, setBridgeParametersLayout)
  | .setBridgeService => some (3, setBridgeServiceLayout)
  | .readBridge => some (4, readBridgeLayout)
  | .calBegin => some (5, calBeginLayout)
  | .calZero => some (6, calZeroLayout)
  | .calSpan => some (7, calSpanLayout)
  | .calCorner => some (8, calCornerLayout)
  | .calTrim => some (9, calTrimLayout)
  | .calSetLimits => some (10, calSetLimitsLayout)
  | .calCommit => some (11, calCommitLayout)
  | .calAbort => some (12, calAbortLayout)
  | .readCalibration => some (13, readCalibrationLayout)
  | .setScanPeriod => some (14, setScanPeriodLayout)
  | .enumerate => some (15, enumerateLayout)
  | .resetNode => some (16, resetNodeLayout)
  | .releaseNode => some (17, releaseNodeLayout)
  | .readNode => some (18, readNodeLayout)
  | .readBus => some (19, readBusLayout)
  | .putPlanEntry => some (20, putPlanEntryLayout)
  | .dropPlanEntry => some (21, dropPlanEntryLayout)
  | .readPlanEntry => some (22, readPlanEntryLayout)
  | .putLane => some (23, putLaneLayout)
  | .openLane => some (24, openLaneLayout)
  | .closeLane => some (25, closeLaneLayout)
  | .holdLane => some (26, holdLaneLayout)
  | .releaseLane => some (27, releaseLaneLayout)
  | .barrierOverride => some (28, barrierOverrideLayout)
  | .readLane => some (29, readLaneLayout)
  | .setClock => some (30, setClockLayout)
  | .putVehicle => some (31, putVehicleLayout)
  | .dropVehicle => some (32, dropVehicleLayout)
  | .readVehicle => some (33, readVehicleLayout)
  | .readVehicleNext => some (34, readVehicleNextLayout)
  | .putAccount => some (35, putAccountLayout)
  | .dropAccount => some (36, dropAccountLayout)
  | .setBalance => some (37, setBalanceLayout)
  | .readAccount => some (38, readAccountLayout)
  | .readAccountNext => some (39, readAccountNextLayout)
  | .putTariffRow => some (40, putTariffRowLayout)
  | .dropTariffRow => some (41, dropTariffRowLayout)
  | .setTariffSwitch => some (42, setTariffSwitchLayout)
  | .readTariffRow => some (43, readTariffRowLayout)
  | .readTariffRowNext => some (44, readTariffRowNextLayout)
  | .readTables => some (45, readTablesLayout)
  | .openVisit => some (46, openVisitLayout)
  | .voidVisit => some (47, voidVisitLayout)
  | .resolveVisit => some (48, resolveVisitLayout)
  | .restoreVisit => some (49, restoreVisitLayout)
  | .setTareTolerance => some (50, setTareToleranceLayout)
  | .readVisit => some (51, readVisitLayout)
  | .readVisitByVehicle => some (52, readVisitByVehicleLayout)
  | .readVisitNext => some (53, readVisitNextLayout)
  | .setTicketNumber => some (54, setTicketNumberLayout)
  | .reprintTicket => some (55, reprintTicketLayout)
  | .setTicketHeader => some (56, setTicketHeaderLayout)
  | .readTickets => some (57, readTicketsLayout)
  | .setSilenceTimeout => some (58, setSilenceTimeoutLayout)
  | .readRecords => some (59, readRecordsLayout)
  | .releaseRecords => some (60, releaseRecordsLayout)
  | .subscribeLive => some (61, subscribeLiveLayout)
  | .sendToNode => some (62, sendToNodeLayout)
  | .readStatus => some (63, readStatusLayout)
  | .restart => some (64, restartLayout)
  | _ => none

/-! ## Reports (R71) -/

/-- The report at the head of the attention queue, of a node still bound to the plan entry it was taken under, which stands
at this attachment. -/
def ReportAt (s : State) (r : Report) (a : NodeId) (at_ : Attach) : Prop :=
  s.powered = true ∧ ∃ q rest p e, s.bus.reports = q :: rest ∧ q.node = a ∧ q.report = r ∧ q.plan = some p
    ∧ (s.plan.nodes[a]).binding = some (.bound p) ∧ s.plan.entries[p] = some e ∧ e.attach = at_

/-- The report has left the queue. -/
def reportTaken (s : State) : State := modBus (fun x => { x with reports := x.reports.tail }) (fresh s)

/-! ## Exchanges (R51, R57) -/

/-- An exchange is open that expects a framed answer from an entry. -/
def ExchangeOpen (s : State) (x : Exchange) (a : NodeId) : Prop :=
  s.powered = true ∧ s.bus.scan.exchange = some x ∧ x.entry = some a

/-! ## Lanes -/

/-- No arm image of the lane's two stations is FAULT. -/
def ArmsSound (s : State) (l : LaneId) : Prop := (s.seq.lanes[l]).armFaulted = false

/-- The nodes that fill the lane's stations are ACTIVE, as FILLED asks (R88). -/
def StationsActive (s : State) (l : LaneId) : Prop :=
  ∀ (e : LaneEnd) (a : NodeId), filledNode s (.station l e) = some a → (s.bus.nodes[a]).state = .active

/-- The state of a lane at rest: IDLE while it is admittable, CLOSED otherwise (R97). -/
def restState (s : State) (l : LaneId) : LaneState := if admittable s l then .idle else .closed

/-! ## Frames of the office link -/

/-- The frames the port owes: the one being sent, then those waiting (R198). -/
def outgoing (p : Port) : List OutFrame := (p.sending.map (·.frame)).toList ++ p.waiting

end Sys2Proof.Machine
end

