-- ==== Sys2Proof/Certificates/Slice0/Obligations.lean ====
section
/-! DEFINITION. The statements for the provers, each a proposition about the part that formalises rules of the spec or, where its docstring says so, a choice of the model. -/

open Sys2Proof Sys2Proof.Machine

/-- A step runs the command at the front of the queue (section "Conventions" (Order of events), section "Ports and lines"). For every state whose queue of waiting commands holds c at the front with rest behind it, step is exec of c on that state with rest as its queue. -/
def Obligations.StepRunsTheFrontCommand : Prop :=
  ∀ (c : Instr) (rest : List Instr) (s : State), s.pending = c :: rest → step s = exec c { s with pending := rest }

/-- With no command waiting, a supplied part counts one millisecond (notes/assumptions/2.md) (R127). The model's choice, notes/assumptions/2.md: on an empty queue a step of a supplied part is one millisecond of R127's tick. The sub-second count rises by one up to 999, each lane timer, the silence timer, a calibration step's timer and each zero-tracking timer have one ms less to run, and the seconds count, the lane states, the record queue and the command queue stay as they were. What an expiry does is the work of its own command. -/
def Obligations.IdleMillisecondRunsTheTimers : Prop :=
  ∀ s : State, s.pending = [] → s.powered = true →
    ∃ t, step s = .next t
      ∧ t.tables.clock = { s.tables.clock with ms := min 999 (s.tables.clock.ms + 1) }
      ∧ (∀ l : LaneId, (t.seq.lanes[l]).timer
          = (s.seq.lanes[l]).timer.map (fun x => (x.1, { x.2 with left := x.2.left - 1 })))
      ∧ (∀ l : LaneId, (t.seq.lanes[l]).state = (s.seq.lanes[l]).state)
      ∧ (∀ b : BridgeId, t.engine[b] = { s.engine[b] with trackTimer := (s.engine[b]).trackTimer - 1 })
      ∧ t.port.silence = s.port.silence.map (· - 1)
      ∧ (t.cal.session.bind (·.step)).map (·.timer) = (s.cal.session.bind (·.step)).map (fun r => r.timer - 1)
      ∧ t.port.records = s.port.records ∧ t.bus.queue = s.bus.queue ∧ t.pending = []

/-- Every command answers a next state in every state and leaves the queue of waiting commands alone (notes/assumptions/1.md) (section "Conventions" (Order of events), R197). The model's choice, notes/assumptions/1.md: no command ends in a fault or a refusal, because one that finds nothing to act on changes nothing. For every command c and every state s, exec c s answers some next state whose queue of waiting commands is that of s. What each command does is stated elsewhere. -/
def Obligations.EveryCommandCompletes : Prop :=
  ∀ (c : Instr) (s : State), ∃ t, exec c s = .next t ∧ t.pending = s.pending

/-- Every step keeps the law of the record queue (section 9.4, R200, R201). From every state in which the records queued plus the claim total are at most 256, every step leads to such a state. The three calls of section 9.4 and every record queued keep the law. -/
def Obligations.RecordLawKept : Prop :=
  ∀ s t : State, RecordLaw s → step s = .next t → RecordLaw t

/-- Every step keeps the sizes of the command queue, attention queue, request buffer and pass-through list (R63, R71, R196, section 9.6). From every state in which the command queue and the attention queue hold at most 16 entries, the request buffer at most 4 frames and the pass-through list at most 8 entries, every step leads to such a state. -/
def Obligations.QueueLawKept : Prop :=
  ∀ s t : State, QueueLaw s → step s = .next t → QueueLaw t

/-- Every step keeps the sizes of the tables and the printer queues (R130, R135, R144, R151, section 8.1). From every state in which the vehicle table holds at most 1,024 entries, the account table at most 256, each tariff bank at most 64 rows, the visit table at most 64 visits and each printer's queue at most 4 tickets, every step leads to such a state. -/
def Obligations.TableLawKept : Prop :=
  ∀ s t : State, TableLaw s → step s = .next t → TableLaw t

/-- The laws of the records, the queues, the tables and the zero hold at reset, and a cold reset starts the first cycle (notes/assumptions/4.md) (R17, R81, R150, R177, R192, R211, R212). The reset state has the record queue's law, the sizes of the queues, the sizes of the tables and the law of the working zero. It holds the cold values, before the first scan cycle: a cold reset of it is the start of that cycle on it. That the reset state stands before the cycle's start and COLD_RESET after it is the model's choice, notes/assumptions/4.md. -/
def Obligations.LawsHoldAtReset : Prop :=
  RecordLaw State.reset ∧ QueueLaw State.reset ∧ TableLaw State.reset ∧ ZeroLaw State.reset
    ∧ exec .coldReset State.reset = .next (startCycle State.reset)

/-- Every step keeps the bounds of the working zero and of the zero a session would put back (R1, R14, R15, R16, R17, R29, R38, R39, R42, R43, R44, R45). While the part is supplied, from every state in which each established zero keeps both bounds of R17 against its bridge's calibration source, the zero an open session saved keeps them against the record until a commit has written that, at most one write of the store belongs to a commit and that one is the open session's own, and every VALID record passes its check, every step leads to such a state. So the initial zero, ZERO BRIDGE, tracking, the calibration steps, CAL SET LIMITS, a commit, an abort and a reset all keep R17's bounds. -/
def Obligations.ZeroLawKept : Prop :=
  ∀ s t : State, ZeroLaw s → step s = .next t → ZeroLaw t

/-- No step but a cold reset changes a row of an active or referenced bank (section 6.5, R145, R146, R147). For every state and every bank that is active or whose reference count is above zero, a step that does not run COLD_RESET leaves the rows of that bank as they were. -/
def Obligations.LockedBankRowsStand : Prop :=
  ∀ (s t : State) (b : BankId), (s.tables.active = b ∨ 0 < (s.tables.banks[b]).refs) →
    s.pending.head? ≠ some .coldReset → step s = .next t → (t.tables.banks[b]).rows = (s.tables.banks[b]).rows

/-- A part without supply acts on nothing but the lines and power-on (notes/assumptions/3.md) (R31, section "Ports and lines"). The model's choice, notes/assumptions/3.md: without supply, every command but COLD_RESET, POWER_LOSS and the four line commands leaves the whole state as it was; a line command moves its own level and nothing else. -/
def Obligations.PartWithoutSupplyIsStill : Prop :=
  (∀ (c : Instr) (s : State), s.powered = false →
      c ∉ [Instr.coldReset, .powerLoss, .calEnableAssert, .calEnableDeassert, .yardStopAssert, .yardStopDeassert] →
      exec c s = .next s)
    ∧ (∀ s : State, s.powered = false →
      exec .calEnableAssert s = .next { fresh s with calEnable := true }
      ∧ exec .calEnableDeassert s = .next { fresh s with calEnable := false }
      ∧ exec .yardStopAssert s = .next { fresh s with yardStop := true }
      ∧ exec .yardStopDeassert s = .next { fresh s with yardStop := false })

/-- A cold reset: cold values, STARTED as record 1, first cycle, a line asserted acted on (notes/assumptions/3.md, 4.md, 16.md, 22.md) (R28, R30, R49, R81, R94, R117, R125, R150, R177, R192, R211, R212). COLD_RESET sets the values below and the first scan cycle starts on them: FORGET ADDRESSES is sent, a round runs and, nothing being polled or commanded, the first attention window opens. That this start is within the same row, on the values of R81's table, is the model's reading (4.md); that the lines stand and the supply flag is set is its choice (3.md). Its choice too, 22.md, are the values no rule gives: a FREE entry's descriptor, misses, errors and ladder step, the scan's part, exchange and period in use, the engine's stable and occupied marks, a lane's kept resolution and reversing mark; and that a frame being sent is cut off (16.md). The values: it leaves every bridge's engine, the bus controller, the plan, the sequencer, the tables, the visits and the tickets at their cold values, no calibration session, and the port at its cold values with STARTED queued as record 1. With no write in flight every store item keeps its contents and is VALID exactly when its check value is that of its contents. The two lines and the queue of waiting commands stay. With the yard stop line deasserted STARTED is the one record; with it asserted every in-DRIVE-OFF mark is set, no lane leaves CLOSED, and YARD_STOP follows STARTED (that it comes last is the model's reading, 16.md). -/
def Obligations.ColdResetTakesColdValues : Prop :=
  ∀ s : State, ∃ t, exec .coldReset s = .next (startCycle t)
    ∧ (startCycle t).sentFrames = [{ address := 63, kind := 0x0A, payload := [] }, { address := 63, kind := 0x03, payload := [] }]
    ∧ (startCycle t).bus.enum.running = true ∧ (startCycle t).bus.scan.exchange = some .attentionCall
    ∧ (∀ b : BridgeId, ∃ st rs, t.engine[b] = { Engine.cold false with status := st, reasons := rs } ∧ st = .notReady
        ∧ rs.beamUnfilled = true ∧ rs.zeroUnset = true
        ∧ rs.calibrationInvalid = !(t.cal.store.records[b]).valid)
    ∧ t.bus = Bus.cold 20 ∧ t.plan = Plan.cold (Vector.replicate 32 none) ∧ t.seq = Seq.cold s.yardStop
    ∧ t.tables = Tables.cold ∧ t.visits = Visits.cold ∧ t.tickets = Tickets.cold
    ∧ t.cal.session = none
    ∧ (∃ r q, r.number = 1 ∧ q.number = 2 ∧ q.body = .yardStop true
        ∧ t.port = { Port.cold with
            records := if s.yardStop then [r, q] else [r], nextRecord := if s.yardStop then 3 else 2 }
        ∧ r.body = .started .cold ([0, 1, 2, 3].map (fun b : BridgeId => (t.cal.store.records[b]).valid)
            ++ [t.cal.store.counter.valid, t.cal.store.ticket.valid]) false s.calEnable s.yardStop 0 0)
    ∧ (s.cal.store.inFlight = none →
        (∀ b : BridgeId, (t.cal.store.records[b]).content = (s.cal.store.records[b]).content
          ∧ (t.cal.store.records[b]).valid
            = ((s.cal.store.records[b]).check == crc16 (CalRecord.bytes (s.cal.store.records[b]).content)))
        ∧ t.cal.store.counter.content = s.cal.store.counter.content
        ∧ t.cal.store.counter.valid = (s.cal.store.counter.check == crc16 (u16 s.cal.store.counter.content))
        ∧ t.cal.store.ticket.content = s.cal.store.ticket.content
        ∧ t.cal.store.ticket.valid = (s.cal.store.ticket.check == crc16 (u32 s.cal.store.ticket.content)))
    ∧ t.powered = true ∧ t.calEnable = s.calEnable ∧ t.yardStop = s.yardStop ∧ t.pending = s.pending

/-- A warm reset: what each block keeps and sets; it waits for a write in flight (notes/assumptions/4.md, 14.md, 15.md, 16.md, 22.md) (R29, R31, R46, R81, R94, R117, R126, R150, R178, R192, R211, R212). The model's readings: the cycle's start in the row (4.md), the kind WARM_LINE (15.md), the order about STARTED (16.md), one reset asked (14.md). Its choices: the cold values of the bus and the engines that no rule gives (22.md), and that a frame being sent is cut off (16.md). With a write in flight WARM_RESET only notes the reset to come. With none, no session and the yard stop line deasserted it sets these values and starts the first cycle: each bridge keeps its zero, mark, captures, parameters and service flag, the rest as cold; the bus keeps its period; the plan keeps its entries; clock, vehicles, active bank, switch time and rows stay; lanes keep configuration and open flag and take the state R126 gives, stations unknown, grant holders kept, grant queues in lane order; the link is DOWN, buffer, frames, subscription and pass-through list empty, timeout kept; job tags and headers stay and print timers stop; a visit with an ORIGINAL in a queue closes. With no ticket queued or handed over, tables, visits, lanes' visits and outcomes, last jobs and claims stay, and the records stay with STARTED behind them, or one more is counted dropped. An open session ends: its bridge's zero and mark are the saved ones, its claim is given back, no answer is ready. With the line asserted every in-DRIVE-OFF mark is set, a lane in WAIT_BRIDGE is HELD YARD_STOP, a lane on the bridge is HELD RESTART, one in HELD or FAULT stays, one in ASKING, IDLE or CLOSED is CLOSED, and YARD_STOP stands behind STARTED. -/
def Obligations.WarmResetKeepsWhatItKeeps : Prop :=
  (∀ (s : State) (w : StoreWrite), s.powered = true → s.port.resetAsked = none → s.cal.store.inFlight = some w →
      exec .warmReset s = .next { fresh s with port := { s.port with resetAsked := some .warmLine } })
    ∧ (∀ s : State, s.powered = true → s.port.resetAsked = none → s.cal.store.inFlight = none → s.cal.session = none →
      s.yardStop = false → ∃ t, exec .warmReset s = .next (startCycle t)
        ∧ (∀ b : BridgeId, ∃ st rs, t.engine[b] = { Engine.cold false with
              zero := (s.engine[b]).zero, zeroReturn := (s.engine[b]).zeroReturn, last := (s.engine[b]).last,
              previous := (s.engine[b]).previous, params := (s.engine[b]).params,
              outOfService := (s.engine[b]).outOfService, status := st, reasons := rs })
        ∧ t.bus = Bus.cold s.bus.scan.period ∧ t.plan = Plan.cold s.plan.entries
        ∧ t.tables.clock = s.tables.clock ∧ t.tables.vehicles = s.tables.vehicles
        ∧ t.tables.active = s.tables.active ∧ t.tables.switchTime = s.tables.switchTime
        ∧ (∀ b : BankId, (t.tables.banks[b]).rows = (s.tables.banks[b]).rows)
        ∧ (∀ l : LaneId, (t.seq.lanes[l]).config = (s.seq.lanes[l]).config ∧ (t.seq.lanes[l]).isOpen = (s.seq.lanes[l]).isOpen
            ∧ (t.seq.lanes[l]).timer = none
            ∧ ((s.seq.lanes[l]).state ∈ [LaneState.entering, .weighing, .ticketing, .releasing] →
                (t.seq.lanes[l]).state = .held ∧ (t.seq.lanes[l]).hold = some (.restart, (s.seq.lanes[l]).state))
            ∧ ((s.seq.lanes[l]).state ∈ [LaneState.waitBridge, .held, .fault] →
                (t.seq.lanes[l]).state = (s.seq.lanes[l]).state ∧ (t.seq.lanes[l]).hold = (s.seq.lanes[l]).hold
                ∧ (t.seq.lanes[l]).fault = (s.seq.lanes[l]).fault)
            ∧ ((s.seq.lanes[l]).state ∈ [LaneState.asking, .idle, .closed] →
                (t.seq.lanes[l]).state = .closed ∧ (t.seq.lanes[l]).visit = none ∧ (t.seq.lanes[l]).asking = none)
            ∧ (∀ e : LaneEnd, (t.seq.lanes[l]).station e = { Station.cold false with
                wantArm := if (t.seq.lanes[l]).state ∈ [LaneState.held, .fault] then .none else .down }))
        ∧ (∀ b : BridgeId, t.seq.bridges[b] = { BridgeSeq.cold with
              holder := (s.seq.bridges[b]).holder,
              queue := (List.finRange 8).filter (fun l => (s.seq.bridges[b]).queue.contains l) })
        ∧ t.port.up = false ∧ t.port.silence = none ∧ t.port.timeout = s.port.timeout ∧ t.port.buffer = []
        ∧ t.port.sending = none ∧ t.port.waiting = [] ∧ t.port.live = none ∧ t.port.pass = []
        ∧ t.port.lastReset = .warmLine
        ∧ t.tickets.headers = s.tickets.headers
        ∧ (∀ l : LaneId, (t.tickets.printers[l]).jobTag = (s.tickets.printers[l]).jobTag
            ∧ (t.tickets.printers[l]).timer = none ∧ (t.tickets.printers[l]).retry = none
            ∧ (t.tickets.printers[l]).outstanding = false
            ∧ ((s.tickets.printers[l]).queue.length ≤ 4 → ∀ k ∈ (s.tickets.printers[l]).queue, k.kind = .original →
                findVisit t k.content.visit = none))
        ∧ ((∀ l : LaneId, (s.tickets.printers[l]).queue = []) → s.tickets.handOver = [] →
            t.tables = s.tables ∧ t.visits = s.visits
            ∧ (∀ l : LaneId, (t.seq.lanes[l]).outcome = (s.seq.lanes[l]).outcome
                ∧ ((t.seq.lanes[l]).state ≠ .closed → (t.seq.lanes[l]).visit = (s.seq.lanes[l]).visit)
                ∧ (t.tickets.printers[l]).queue = [] ∧ (t.tickets.printers[l]).lastJob = (s.tickets.printers[l]).lastJob)
            ∧ t.tickets.handOver = [] ∧ t.tickets.numbering = [] ∧ t.tickets.inFlight = none
            ∧ t.port.claims = s.port.claims
            ∧ (1 ≤ unclaimedFree s → ∃ r items, t.port.records = s.port.records ++ [r] ∧ r.number = s.port.nextRecord
                ∧ r.body = .started .warmLine items s.tables.clock.set s.calEnable false s.port.records.length s.port.claims
                ∧ t.port.nextRecord = nextNumber s.port.nextRecord ∧ t.port.dropped = s.port.dropped)
            ∧ (unclaimedFree s = 0 → t.port.records = s.port.records ∧ t.port.nextRecord = s.port.nextRecord
                ∧ t.port.dropped = min 65535 (s.port.dropped + 1))))
    ∧ (∀ (s : State) (x : Session), s.powered = true → s.port.resetAsked = none → s.cal.store.inFlight = none →
      s.cal.session = some x → s.yardStop = false → ∃ t, exec .warmReset s = .next (startCycle t)
        ∧ t.cal.session = none
        ∧ (t.engine[x.bridge]).zero = x.savedZero ∧ (t.engine[x.bridge]).zeroReturn = x.savedReturn
        ∧ (∀ b : BridgeId, b ≠ x.bridge → (t.engine[b]).zero = (s.engine[b]).zero
            ∧ (t.engine[b]).zeroReturn = (s.engine[b]).zeroReturn)
        ∧ t.port.up = false ∧ t.port.sending = none ∧ t.port.waiting = []
        ∧ ((∀ l : LaneId, (s.tickets.printers[l]).queue = []) → s.tickets.handOver = [] →
            t.port.claims = s.port.claims - 1))
    ∧ (∀ s : State, s.powered = true → s.port.resetAsked = none → s.cal.store.inFlight = none → s.cal.session = none →
      s.yardStop = true → ∃ t, exec .warmReset s = .next (startCycle t) ∧ t.yardStop = true
        ∧ (∀ (l : LaneId) (e : LaneEnd), ((t.seq.lanes[l]).station e).driveOffMark = true
            ∧ ((t.seq.lanes[l]).station e).motion = none)
        ∧ (∀ l : LaneId,
            ((s.seq.lanes[l]).state = .waitBridge →
                (t.seq.lanes[l]).state = .held ∧ (t.seq.lanes[l]).hold = some (.yardStop, .waitBridge))
            ∧ ((s.seq.lanes[l]).state ∈ [LaneState.entering, .weighing, .ticketing, .releasing] →
                (t.seq.lanes[l]).state = .held ∧ (t.seq.lanes[l]).hold = some (.restart, (s.seq.lanes[l]).state))
            ∧ ((s.seq.lanes[l]).state ∈ [LaneState.held, .fault] →
                (t.seq.lanes[l]).state = (s.seq.lanes[l]).state ∧ (t.seq.lanes[l]).hold = (s.seq.lanes[l]).hold
                ∧ (t.seq.lanes[l]).fault = (s.seq.lanes[l]).fault)
            ∧ ((s.seq.lanes[l]).state ∈ [LaneState.asking, .idle, .closed] →
                (t.seq.lanes[l]).state = .closed ∧ (t.seq.lanes[l]).visit = none ∧ (t.seq.lanes[l]).asking = none))
        ∧ (∀ b : BridgeId, (t.seq.bridges[b]).holder = (s.seq.bridges[b]).holder)
        ∧ ((∀ l : LaneId, (s.tickets.printers[l]).queue = []) → s.tickets.handOver = [] → 2 ≤ unclaimedFree s →
            ∃ r q rest items, t.port.records = s.port.records ++ r :: q :: rest
              ∧ r.body = .started .warmLine items s.tables.clock.set s.calEnable true s.port.records.length s.port.claims
              ∧ q.body = .yardStop true))

/-- The calibration enable line: assertion changes no state, deassertion aborts an open session (R34, R45, R46). CAL_ENABLE_ASSERT sets the line's level and nothing else. CAL_ENABLE_DEASSERT clears it; with no session open, or with a commit's write in flight, nothing else changes; with a session open and no commit taken, the session ends, its bridge's zero and zero-return mark are the saved ones, the claim is given back, and a step in progress is answered LOCKED while the link is UP. -/
def Obligations.EnableLineMovesAndAborts : Prop :=
  (∀ s : State, exec .calEnableAssert s = .next { fresh s with calEnable := true })
    ∧ (∀ s : State, s.powered = true → s.cal.session = none ∨ commitWriting s = true →
        exec .calEnableDeassert s = .next { fresh s with calEnable := false })
    ∧ (∀ (s : State) (x : Session), s.powered = true → s.calEnable = true → s.cal.session = some x → x.commit = none →
        commitWriting s = false → ∃ t, exec .calEnableDeassert s = .next t ∧ t.calEnable = false
          ∧ t.cal.session = none ∧ (t.engine[x.bridge]).zero = x.savedZero
          ∧ (t.engine[x.bridge]).zeroReturn = x.savedReturn ∧ t.port.claims = s.port.claims - 1
          ∧ (∀ r, x.step = some r → s.port.up = true →
              .answer r.tag (u8 Result.locked.code) ∈ outgoing t.port))

/-- The yard stop line: records, drive commands, marks, motion timers and lanes at assertion and at deassertion (notes/assumptions/10.md) (R64, R110, R117). At assertion YARD_STOP marked asserted is queued while a slot is free; every station's in-DRIVE-OFF mark is set and its motion timer stopped; each FILLED station whose node is ACTIVE and that has no DRIVE OFF outstanding has one outstanding and queued, when the queue of at most 16 commands held no DRIVE OFF; every lane in ASKING to RELEASING is HELD with reason YARD_STOP and its state as the resume state, and a lane in CLOSED, IDLE, HELD or FAULT keeps its state. At deassertion, when no lane has a resolution or a reweigh waiting, YARD_STOP marked deasserted is queued, every lane keeps its state and its hold, and with the command queue empty each FILLED station whose node is ACTIVE, whose mark is set and that has no drive command outstanding and no DRIVE ON retry timer running has a DRIVE ON outstanding and queued. Which of R110's conditions hold back these two offers, an outstanding DRIVE OFF and not its retry timer at assertion, every one at deassertion, is the model's choice, 10.md. -/
def Obligations.YardStopHoldsTheLanes : Prop :=
  (∀ s : State, s.powered = true → s.yardStop = false → ∃ t, exec .yardStopAssert s = .next t ∧ t.yardStop = true
      ∧ (1 ≤ unclaimedFree s → ∃ r ∈ t.port.records, r.body = .yardStop true ∧ r.number = s.port.nextRecord)
      ∧ (∀ (l : LaneId) (e : LaneEnd), ((t.seq.lanes[l]).station e).driveOffMark = true
          ∧ ((t.seq.lanes[l]).station e).motion = none)
      ∧ (s.bus.queue.length ≤ 16 → (∀ c ∈ s.bus.queue, c.frame ≠ .driveOff) → ∀ (l : LaneId) (e : LaneEnd) (a : NodeId),
          filledNode s (.station l e) = some a → (s.bus.nodes[a]).state = .active →
          ((s.seq.lanes[l]).station e).outOff = false →
          ((t.seq.lanes[l]).station e).outOff = true
          ∧ { node := a, frame := .driveOff, origin := .station l e, sent := false } ∈ t.bus.queue)
      ∧ (∀ l : LaneId, (s.seq.lanes[l]).state ∈ [LaneState.asking, .waitBridge, .entering, .weighing, .ticketing, .releasing] →
          (t.seq.lanes[l]).state = .held ∧ (t.seq.lanes[l]).hold = some (.yardStop, (s.seq.lanes[l]).state))
      ∧ (∀ l : LaneId, (s.seq.lanes[l]).state ∈ [LaneState.closed, .idle, .held, .fault] →
          (t.seq.lanes[l]).state = (s.seq.lanes[l]).state))
    ∧ (∀ s : State, s.powered = true → s.yardStop = true →
        (∀ l : LaneId, (s.seq.lanes[l]).kept = none ∧ (s.seq.lanes[l]).reweigh = false) →
        ∃ t, exec .yardStopDeassert s = .next t ∧ t.yardStop = false
          ∧ (1 ≤ unclaimedFree s → ∃ r ∈ t.port.records, r.body = .yardStop false ∧ r.number = s.port.nextRecord)
          ∧ (s.bus.queue = [] → ∀ (l : LaneId) (e : LaneEnd) (a : NodeId), filledNode s (.station l e) = some a →
              (s.bus.nodes[a]).state = .active → ((s.seq.lanes[l]).station e).driveOffMark = true →
              ((s.seq.lanes[l]).station e).outOff = false → ((s.seq.lanes[l]).station e).outOn = false →
              ((s.seq.lanes[l]).station e).retryOn = none →
              ((t.seq.lanes[l]).station e).outOn = true
              ∧ { node := a, frame := .driveOn, origin := .station l e, sent := false } ∈ t.bus.queue)
          ∧ (∀ l : LaneId, (t.seq.lanes[l]).state = (s.seq.lanes[l]).state ∧ (t.seq.lanes[l]).hold = (s.seq.lanes[l]).hold))

/-- Loss of supply leaves the item being written INVALID at the next cold reset (notes/assumptions/3.md) (R31). POWER_LOSS leaves the part without supply and no write in flight or asked. When the cold reset comes, the item whose write was in flight is INVALID, and every item not being written keeps its contents. That the part has a flag for its supply, and that the contents of the item being written stay too, of which R31 says only that its check fails, is the model's choice, notes/assumptions/3.md. -/
def Obligations.PowerLossBreaksTheItemWritten : Prop :=
  ∀ s : State, ∃ t u, exec .powerLoss s = .next t ∧ t.powered = false ∧ t.cal.store.inFlight = none
    ∧ t.cal.store.asked = [] ∧ exec .coldReset t = .next u
    ∧ (∀ (b : BridgeId) (r : CalRecord), s.cal.store.inFlight = some (.record b r) → (u.cal.store.records[b]).valid = false)
    ∧ (∀ (b : BridgeId) (n : Nat), s.cal.store.inFlight = some (.counter b n) → u.cal.store.counter.valid = false)
    ∧ (∀ n : Nat, s.cal.store.inFlight = some (.ticket n) → u.cal.store.ticket.valid = false)
    ∧ (∀ (n : Nat) (g : Byte), s.cal.store.inFlight = some (.setTicket n g) → u.cal.store.ticket.valid = false)
    ∧ (∀ b : BridgeId, (u.cal.store.records[b]).content = (s.cal.store.records[b]).content)
    ∧ u.cal.store.counter.content = s.cal.store.counter.content ∧ u.cal.store.ticket.content = s.cal.store.ticket.content

/-- A scan cycle starts, or falls due behind one still running (notes/assumptions/4.md, 18.md) (R54, R72, R81). With a cycle running, SCAN_CYCLE_START notes the cycle that fell due and raises the overrun count, saturating at 65,535; a second one while that is noted changes nothing, which is the model's reading, notes/assumptions/18.md. With none running, the cycle starts under the period as set and goes on until it waits for an answer or an arbitration field; a start with the mark of a first cycle set, which only the reset state carries since a reset spends it in its own step (notes/assumptions/4.md), opens with FORGET ADDRESSES and has a round running. -/
def Obligations.CycleStartsOrFallsDue : Prop :=
  (∀ s : State, s.powered = true → s.bus.scan.part ≠ none → s.bus.scan.overdue = false →
      exec .scanCycleStart s
        = .next (modScan (fun x => { x with overdue := true, overrun := min 65535 (x.overrun + 1) }) (fresh s)))
    ∧ (∀ s : State, s.powered = true → s.bus.scan.part ≠ none → s.bus.scan.overdue = true →
      exec .scanCycleStart s = .next (fresh s))
    ∧ (∀ s : State, s.powered = true → s.bus.scan.part = none → ∃ t, exec .scanCycleStart s = .next t
      ∧ t.bus.scan.exchange.isSome = true ∧ t.bus.scan.part.isSome = true
      ∧ t.bus.scan.periodInUse = s.bus.scan.period ∧ t.bus.scan.startup = false ∧ t.bus.scan.overdue = false
      ∧ (s.bus.scan.startup = true → t.bus.enum.running = true
          ∧ t.sentFrames.head? = some { address := 63, kind := 0x0A, payload := [] }))

/-- A good SAMPLE updates the position's sample table entry (R2, R55, R56). A good SAMPLE from an ACTIVE node bound to a cell position, in the slow-poll part or in the cell-poll part with another cell still to poll, leaves that position's entry with the answer's sequence number and flags and its missed mark clear; a sequence that has advanced brings the count and sets the cycles without advance to 0, a repeated one leaves both. -/
def Obligations.SampleUpdatesTheEntry : Prop :=
  ∀ (s : State) (f : BusAnswer) (x : Exchange) (a : NodeId) (b : BridgeId) (p : CellPos) (r : Reading),
    ExchangeOpen s x a → judgeAnswer s x a 0x40 f = .ok (.sample r) → (s.bus.nodes[a]).state = .active →
    boundCell s a = some (b, p) → (x = .cellPoll a ∨ x = .slowSample a) →
    ((∃ n, s.bus.scan.part = some (.slowPolls n))
      ∨ (∃ n, s.bus.scan.part = some (.cellPolls n) ∧ ∃ c : NodeId, n ≤ c.val ∧ (s.bus.nodes[c]).state = .active
          ∧ (boundCell s c).isSome = true)) →
    ∃ t, exec (.sample f) s = .next t
      ∧ ((t.engine[b]).samples[p]).seq = some r.seq
      ∧ (((s.engine[b]).samples[p]).seq ≠ some r.seq →
          ((t.engine[b]).samples[p]).count = some r.count ∧ ((t.engine[b]).samples[p]).stale = 0)
      ∧ (((s.engine[b]).samples[p]).seq = some r.seq →
          ((t.engine[b]).samples[p]).count = ((s.engine[b]).samples[p]).count
          ∧ ((t.engine[b]).samples[p]).stale = ((s.engine[b]).samples[p]).stale)
      ∧ ((t.engine[b]).samples[p]).overrange = r.overrange ∧ ((t.engine[b]).samples[p]).underrange = r.underrange
      ∧ ((t.engine[b]).samples[p]).cellFault = r.cellFault ∧ ((t.engine[b]).samples[p]).missed = false
      ∧ (t.bus.nodes[a]).misses = 0

/-- A good PRESENT clears the miss count; a missing or failed answer raises both counts and ends the command part (R56, R57, R58, R65). A good PRESENT from an ACTIVE entry leaves its miss count at 0 and its state and error total as they were. NO_RESPONSE, and an answer that fails a check of R57, in the exchange of a command to an ACTIVE entry with fewer than 2 misses raise the error total, saturating at 65,535, and the miss count by one, leave every command in the queue to be sent again, and end the command part: the first attention window opens. -/
def Obligations.AnswersAreCounted : Prop :=
  (∀ (s : State) (f : BusAnswer) (a : NodeId) (ans : Answer) (n : Nat), ExchangeOpen s (.presence a) a →
      s.bus.scan.part = some (.slowPolls n) → judgeAnswer s (.presence a) a 0x41 f = .ok ans →
      (s.bus.nodes[a]).state = .active →
      ∃ t, exec (.present f) s = .next t ∧ (t.bus.nodes[a]).misses = 0 ∧ (t.bus.nodes[a]).state = .active
        ∧ (t.bus.nodes[a]).errors = (s.bus.nodes[a]).errors)
    ∧ (∀ (s : State) (a : NodeId) (g : CommandFrame) (kind : Byte) (f : BusAnswer) (e : BusError),
      ExchangeOpen s (.command a g) a → (s.bus.nodes[a]).state = .active → (s.bus.nodes[a]).misses < 2 →
      judgeAnswer s (.command a g) a kind f = .error e →
      ∃ t, exec .noResponse s = .next t ∧ exec (.responseError kind f) s = .next t
        ∧ t.bus.nodes = alter s.bus.nodes a (fun n =>
            { n with errors := min 65535 (n.errors + 1), misses := n.misses + 1 })
        ∧ t.bus.queue = s.bus.queue.map (fun c => { c with sent := false })
        ∧ t.bus.scan.exchange = some .attentionCall ∧ t.bus.scan.part = some (.attention 1)
        ∧ t.engine = s.engine ∧ t.plan = s.plan ∧ t.seq = s.seq ∧ t.port = s.port ∧ t.tickets = s.tickets)

/-- ACK, NAK REFUSED and REPLY take the command from the queue and return its outcome to the office (R65, R207). The fourth command of a cycle, a pass-through message at the head of the queue to an ACTIVE entry, is answered: the command leaves the queue, the entry leaves the pass-through list, the first attention window opens, and while the link is UP a PASS RESULT with the request's tag carries ACK, the node's reason, or the reply's bytes. -/
def Obligations.CommandAnswersReachThePassThrough : Prop :=
  ∀ (s : State) (f : BusAnswer) (a : NodeId) (c : Command) (rest : List Command) (e : PassEntry),
    ExchangeOpen s (.command a c.frame) a → (s.bus.nodes[a]).state = .active → s.bus.queue = c :: rest →
    c.sent = true → c.origin = .pass e → s.bus.scan.part = some (.commands 3) → s.bus.heldResets = [] →
    (judgeAnswer s (.command a c.frame) a 0x45 f = .ok .ack → ∃ t, exec (.ack f) s = .next t
        ∧ t.bus.queue = rest ∧ t.port.pass = s.port.pass.erase e ∧ t.bus.scan.exchange = some .attentionCall
        ∧ (s.port.up = true → .passResult e.tag [2] ∈ outgoing t.port))
    ∧ (∀ reason, judgeAnswer s (.command a c.frame) a 0x46 f = .ok (.nak reason) → ∃ t, exec (.nakRefused f) s = .next t
        ∧ t.bus.queue = rest ∧ t.port.pass = s.port.pass.erase e ∧ t.bus.scan.exchange = some .attentionCall
        ∧ (s.port.up = true → .passResult e.tag [3, reason] ∈ outgoing t.port))
    ∧ (∀ payload, judgeAnswer s (.command a c.frame) a 0x47 f = .ok (.reply payload) → ∃ t, exec (.reply f) s = .next t
        ∧ t.bus.queue = rest ∧ t.port.pass = s.port.pass.erase e ∧ t.bus.scan.exchange = some .attentionCall
        ∧ (s.port.up = true → .passResult e.tag (1 :: u8 payload.length ++ payload) ∈ outgoing t.port))

/-- The third miss of an ACTIVE entry makes it SILENT on LEVEL_1 and empties the queue of its commands (R58, R59, R66). A response error counted against an ACTIVE entry with two misses leaves it SILENT with three misses on ladder step LEVEL_1 with 2 s to run, and no command for it in the command queue but NODE RESETs. A held command is a NODE RESET by its type, so none but a reset comes back into the queue. -/
def Obligations.ThirdMissStartsTheLadder : Prop :=
  ∀ (s : State) (a : NodeId), (s.bus.nodes[a]).state = .active → (s.bus.nodes[a]).misses = 2 →
    ((countError a s).bus.nodes[a]).state = .silent
      ∧ ((countError a s).bus.nodes[a]).misses = 3
      ∧ ((countError a s).bus.nodes[a]).ladder = some (.level1 2000)
      ∧ ∀ c ∈ (countError a s).bus.queue, c.node = a → c.frame.isReset = true

/-- LEVEL_1 expiry queues a level-2 NODE RESET; LEVEL_2 expiry makes the entry LOST (R59). With room in the command queue, LEVEL_1_EXPIRY of an entry on LEVEL_1 moves it to LEVEL_2 with the timer not yet started and puts a NODE RESET of level 2 at the tail, and changes nothing else. LEVEL_2_EXPIRY of an entry whose LEVEL_2 timer runs leaves it LOST with no ladder step and its serial, descriptor and error total kept. -/
def Obligations.LadderTimersExpire : Prop :=
  (∀ (s : State) (a : NodeId) (n : Nat), s.powered = true → (s.bus.nodes[a]).ladder = some (.level1 n) →
      s.bus.queue.length < 16 →
      exec (.level1Expiry a) s = .next { fresh s with bus := { s.bus with
        nodes := alter s.bus.nodes a (fun x => { x with ladder := some (.level2 none) }),
        queue := s.bus.queue ++ [{ node := a, frame := .nodeReset 2, origin := .controller, sent := false }] } })
    ∧ (∀ (s : State) (a : NodeId) (n : Nat), s.powered = true → (s.bus.nodes[a]).ladder = some (.level2 (some n)) →
      ∃ t, exec (.level2Expiry a) s = .next t
        ∧ t.bus.nodes[a] = { s.bus.nodes[a] with state := .lost, ladder := none })

/-- What the part does with the address read in an attention window (R68, R70). With an attention window open: an address of an ACTIVE or SILENT entry is sent GO and its report is awaited; an address of a FREE or LOST entry, before the fourth window, is sent NODE RESET of level 2 and the next window opens; a join request, before the fourth window and with no round and no hold-off, is answered WAIT, starts a round and the next window opens; no answer ends the windows, and with no round running and no cycle due the cycle ends. -/
def Obligations.AttentionWindowActs : Prop :=
  (∀ (s : State) (a : NodeId) (n : Nat), s.powered = true → s.bus.scan.exchange = some .attentionCall →
      s.bus.scan.part = some (.attention n) → ((s.bus.nodes[a]).state = .active ∨ (s.bus.nodes[a]).state = .silent) →
      exec (.attentionWindow (BitVec.ofNat 6 (a.val + 1))) s
        = .next { fresh s with
            bus := { s.bus with scan := { s.bus.scan with exchange := some (.go a) } },
            sentFrames := [{ address := a.val + 1, kind := 0x04, payload := [] }] })
    ∧ (∀ (s : State) (a : NodeId) (n : Nat), s.powered = true → s.bus.scan.exchange = some .attentionCall →
      s.bus.scan.part = some (.attention n) → n < 4 → ((s.bus.nodes[a]).state = .free ∨ (s.bus.nodes[a]).state = .lost) →
      exec (.attentionWindow (BitVec.ofNat 6 (a.val + 1))) s
        = .next { fresh s with
            bus := { s.bus with scan := { s.bus.scan with part := some (.attention (n + 1)) } },
            sentFrames := [{ address := a.val + 1, kind := 0x0B, payload := [2] },
              { address := 63, kind := 0x03, payload := [] }] })
    ∧ (∀ (s : State) (n : Nat), s.powered = true → s.bus.scan.exchange = some .attentionCall →
      s.bus.scan.part = some (.attention n) → n < 4 → s.bus.enum.running = false → s.bus.enum.holdOff = none →
      exec (.attentionWindow 0) s
        = .next { fresh s with
            bus := { s.bus with scan := { s.bus.scan with part := some (.attention (n + 1)) },
                                enum := { s.bus.enum with running := true, gaveZero := false, failed := [] } },
            sentFrames := [{ address := 0, kind := 0x07, payload := [] }, { address := 63, kind := 0x03, payload := [] }] })
    ∧ (∀ s : State, s.powered = true → s.bus.scan.exchange = some .attentionCall → s.bus.enum.running = false →
      s.bus.scan.overdue = false →
      exec (.attentionWindow 63) s
        = .next { fresh s with bus := { s.bus with scan := { s.bus.scan with part := none, exchange := none } } })

/-- A good report is acknowledged and queued, answered NAK BUSY, or acknowledged and discarded (R69). A good report from an ACTIVE winner before the fourth window: with attention disabled it is answered ACK and discarded; with 16 reports queued it is answered NAK BUSY and discarded; otherwise it is answered ACK and, when the node is bound to a plan entry and the report at the head of the queue still stands, joins the tail with that entry. Each time the next window opens. -/
def Obligations.ReportIsAnsweredAndQueued : Prop :=
  ∀ (s : State) (kind : Byte) (f : BusAnswer) (a : NodeId) (r : Report) (n : Nat),
    ExchangeOpen s (.go a) a → s.bus.scan.part = some (.attention n) → n < 4 →
    judgeAnswer s (.go a) a kind f = .ok (.report r) → (s.bus.nodes[a]).state = .active →
    ((s.bus.nodes[a]).attention = false → ∃ t, exec (.report kind f) s = .next t ∧ t.bus.reports = s.bus.reports
        ∧ t.sentFrames = [{ address := a.val + 1, kind := 0x05, payload := [] }, { address := 63, kind := 0x03, payload := [] }])
    ∧ ((s.bus.nodes[a]).attention = true → 16 ≤ s.bus.reports.length →
        ∃ t, exec (.report kind f) s = .next t ∧ t.bus.reports = s.bus.reports
        ∧ t.sentFrames = [{ address := a.val + 1, kind := 0x06, payload := [] }, { address := 63, kind := 0x03, payload := [] }])
    ∧ (∀ p : PlanId, (s.bus.nodes[a]).attention = true → s.bus.reports.length < 16 →
        (s.plan.nodes[a]).binding = some (.bound p) → (∀ q ∈ s.bus.reports.head?, reportStale s q = false) →
        ∃ t, exec (.report kind f) s = .next t
        ∧ t.bus.reports = s.bus.reports ++ [{ node := a, report := r, plan := some p }]
        ∧ t.sentFrames = [{ address := a.val + 1, kind := 0x05, payload := [] }, { address := 63, kind := 0x03, payload := [] }])

/-- The enumeration slot: the entry chosen, ASSIGN to it, a DESCRIPTOR that does not come, or the round ends (notes/assumptions/27.md) (R58, R72, R73, R74). With ENUMERATE's field read: a serial not failed twice in the round, for which an entry is chosen, is sent ASSIGN with that entry's address, and its DESCRIPTOR is awaited. A field nobody answers ends the round, with a hold-off of 10 s when an ASSIGN with address 0 was sent in it, and with no cycle due the cycle ends. The entry chosen for a serial is the lowest that holds it; when none holds it, the lowest FREE entry with no serial; when there is none of those, the lowest FREE entry with a remembered serial. None is chosen exactly when no entry holds the serial and no entry is FREE. A DESCRIPTOR that does not come, with no cycle due, ends the slot and the cycle: NODE RESET of level 2 is sent to the address and the serial joins those failed in the round; for an entry FREE before the slot no entry changes, and for another that is not ACTIVE the error total and the miss count rise, also when it has been released since. That the counts rise where R74 has the fields kept, that 'before the slot' is taken as the field is read, and that ASSIGN leaves a remembered serial in the entry, is the model's choice, notes/assumptions/27.md. -/
def Obligations.SlotAssignsOrEndsTheRound : Prop :=
  (∀ (s : State) (x : Serial) (a : NodeId), s.powered = true → s.bus.scan.exchange = some .enumerate →
      x ≠ Serial.none → s.bus.enum.failed.count x < 2 → chooseEntry s x = some a →
      exec (.enumerationSlot x) s
        = .next { fresh s with
            bus := { s.bus with scan := { s.bus.scan with exchange := some (.assign a x ((s.bus.nodes[a]).state == .free)) } },
            sentFrames := [{ address := 0, kind := 0x09, payload := serial6 x ++ u8 (a.val + 1) }] })
    ∧ (∀ s : State, s.powered = true → s.bus.scan.exchange = some .enumerate → s.bus.scan.overdue = false →
      s.bus.enum.gaveZero = false →
      exec (.enumerationSlot Serial.none) s
        = .next { fresh s with bus := { s.bus with
            scan := { s.bus.scan with part := none, exchange := none },
            enum := { s.bus.enum with running := false, failed := [] } } })
    ∧ (∀ s : State, s.powered = true → s.bus.scan.exchange = some .enumerate → s.bus.scan.overdue = false →
      s.bus.enum.gaveZero = true →
      exec (.enumerationSlot Serial.none) s
        = .next { fresh s with bus := { s.bus with
            scan := { s.bus.scan with part := none, exchange := none },
            enum := { running := false, gaveZero := false, failed := [], holdOff := some 10000, joinPending := false } } })
    ∧ (∀ (s : State) (x : Serial),
      (∀ a, chooseEntry s x = some a →
        ((s.bus.nodes[a]).serial = some x ∧ ∀ b : NodeId, b < a → (s.bus.nodes[b]).serial ≠ some x)
        ∨ ((∀ b : NodeId, (s.bus.nodes[b]).serial ≠ some x) ∧ (s.bus.nodes[a]).state = .free ∧ (s.bus.nodes[a]).serial = none
            ∧ ∀ b : NodeId, b < a → ¬ ((s.bus.nodes[b]).state = .free ∧ (s.bus.nodes[b]).serial = none))
        ∨ ((∀ b : NodeId, (s.bus.nodes[b]).serial ≠ some x)
            ∧ (∀ b : NodeId, ¬ ((s.bus.nodes[b]).state = .free ∧ (s.bus.nodes[b]).serial = none))
            ∧ (s.bus.nodes[a]).state = .free ∧ ∀ b : NodeId, b < a → (s.bus.nodes[b]).state ≠ .free))
      ∧ (chooseEntry s x = none ↔ ∀ a : NodeId, (s.bus.nodes[a]).serial ≠ some x ∧ (s.bus.nodes[a]).state ≠ .free))
    ∧ (∀ (s : State) (a : NodeId) (x : Serial) (wasFree : Bool), s.powered = true →
      s.bus.scan.exchange = some (.assign a x wasFree) → s.bus.scan.overdue = false →
      wasFree = true ∨ (s.bus.nodes[a]).state ≠ .active →
      exec .noResponse s = .next { fresh s with
        bus := { s.bus with
          scan := { s.bus.scan with part := none, exchange := none },
          enum := { s.bus.enum with failed := s.bus.enum.failed ++ [x] },
          nodes := if wasFree then s.bus.nodes else put s.bus.nodes a { (s.bus.nodes[a]) with
            errors := min 65535 ((s.bus.nodes[a]).errors + 1), misses := min 3 ((s.bus.nodes[a]).misses + 1) } },
        sentFrames := [{ address := a.val + 1, kind := 0x0B, payload := [2] }] })

/-- A good DESCRIPTOR gives the entry its node and makes it ACTIVE (R53, R74). A good DESCRIPTOR for the entry of the ASSIGN just sent, with no cycle due, leaves the entry ACTIVE with the serial and the descriptor, no misses, attention disabled and no ladder step; its error total is kept for the serial it held or remembered and is 0 for another. The slot and with it the cycle end. -/
def Obligations.GoodDescriptorMakesTheEntryActive : Prop :=
  ∀ (s : State) (f : BusAnswer) (a : NodeId) (x : Serial) (wasFree : Bool) (d : NodeDesc),
    ExchangeOpen s (.assign a x wasFree) a →
    judgeAnswer s (.assign a x wasFree) a 0x42 f = .ok (.descriptor x d) → s.bus.scan.overdue = false →
    ∃ t, exec (.descriptor f) s = .next t
      ∧ t.bus.nodes[a] = {
          state := .active, serial := some x, desc := some d, misses := 0,
          errors := if (s.bus.nodes[a]).serial = some x then (s.bus.nodes[a]).errors else 0, attention := false,
          ladder := none }
      ∧ t.bus.scan.part = none ∧ t.bus.scan.exchange = none

/-- A command offered to the queue: the three checks of R63 in order (R63). An offer that is no NODE RESET for an entry that is not ACTIVE is refused NOT_ACTIVE; one whose payload exceeds the node's maximum is refused TOO_LONG; one that is no DRIVE OFF while 16 commands are queued is refused QUEUE_FULL; a refusal changes nothing; an offer that is no DRIVE OFF and passes all three joins the tail. -/
def Obligations.OfferIsTakenOrRefused : Prop :=
  ∀ (s : State) (a : NodeId) (f : CommandFrame) (o : Origin),
    ((s.bus.nodes[a]).state ≠ .active → f.isReset = false → offer a f o s = (s, some .notActive))
    ∧ ((s.bus.nodes[a]).state = .active ∨ f.isReset = true →
        (((s.bus.nodes[a]).desc.map (·.maxPayload)).getD 32 < f.payload.length → offer a f o s = (s, some .tooLong))
        ∧ (f.payload.length ≤ ((s.bus.nodes[a]).desc.map (·.maxPayload)).getD 32 → f ≠ .driveOff →
            (16 ≤ s.bus.queue.length → offer a f o s = (s, some .queueFull))
            ∧ (s.bus.queue.length < 16 → offer a f o s
                = (modBus (fun x => { x with
                    queue := x.queue ++ [{ node := a, frame := f, origin := o, sent := false }] }) s, none))))

/-- A DRIVE OFF stands ahead of every other command, and no RAISE for its station stays queued (R64). Whatever the queue, a DRIVE OFF that is offered for an ACTIVE station and taken stands behind DRIVE OFFs only, no RAISE for that station is left in the queue, and a queue of at most 16 commands stays so. The held commands that take the places of the RAISEs are NODE RESETs by their type. -/
def Obligations.DriveOffGoesAheadAndClearsRaises : Prop :=
  ∀ (s t : State) (a : NodeId) (o : Origin), offer a .driveOff o s = (t, none) → s.bus.queue.length ≤ 16 →
    (∃ before after, t.bus.queue = before ++ { node := a, frame := .driveOff, origin := o, sent := false } :: after
        ∧ ∀ c ∈ before, c.frame = .driveOff)
    ∧ (∀ c ∈ t.bus.queue, ¬ (c.node = a ∧ c.frame = .arm .raise))
    ∧ t.bus.queue.length ≤ 16

/-- BEAM, STATION and HELP reports: images, an intrusion (beam A's where both break: notes/assumptions/21.md), an arm fault, HELP_CALL (R71, R103, R104, R109, R112, R208). A BEAM report taken for a bridge's beam pair sets both beam images, and changes no table, no calibration and no node table entry; a beam A going to BROKEN with no grant held and no pause starts an intrusion pause and, with room, queues INTRUSION for beam A. That it is beam A's record also where the same report shows beam B going BROKEN is the model's choice, notes/assumptions/21.md: R104 does not settle it. A STATION report sets the four parts of the station's image; an arm reported FAULT that was not FAULT, in a lane from IDLE to RELEASING, leaves the lane in FAULT with ARM_FAULT and the state it left. A HELP report queues HELP_CALL. Each report leaves the attention queue. -/
def Obligations.BeamAndStationReports : Prop :=
  (∀ (s : State) (a : NodeId) (b : BridgeId) (x y : Bool), ReportAt s (.beam x y) a (.beams b) → ∃ t, exec .beam s = .next t
      ∧ (t.seq.bridges[b]).beamA = beamImage x ∧ (t.seq.bridges[b]).beamB = beamImage y
      ∧ t.tables = s.tables ∧ t.cal = s.cal ∧ t.bus.nodes = s.bus.nodes
      ∧ ((∀ r ∈ s.bus.reports.tail.head?, reportStale s r = false) → t.bus.reports = s.bus.reports.tail)
      ∧ (x = true → (s.seq.bridges[b]).beamA ≠ .broken → (s.seq.bridges[b]).holder = none →
          (s.seq.bridges[b]).pause = false → 1 ≤ unclaimedFree s →
          (t.seq.bridges[b]).pause = true ∧ ∃ r ∈ t.port.records, r.body = .intrusion b .a (s.engine[b]).w))
    ∧ (∀ (s : State) (a : NodeId) (l : LaneId) (e : LaneEnd) (arm : ArmImage) (loop : LoopImage) (signal : Aspect)
        (drive : DriveImage), ReportAt s (.station arm loop signal drive) a (.station l e) → ∃ t, exec .station s = .next t
      ∧ ((t.seq.lanes[l]).station e).arm = arm ∧ ((t.seq.lanes[l]).station e).loop = loop
      ∧ ((t.seq.lanes[l]).station e).signal = some signal ∧ ((t.seq.lanes[l]).station e).drive = drive
      ∧ ((∀ r ∈ s.bus.reports.tail.head?, reportStale s r = false) → t.bus.reports = s.bus.reports.tail)
      ∧ (arm = .fault → ((s.seq.lanes[l]).station e).arm ≠ .fault → (s.seq.lanes[l]).state.faults = true →
          (t.seq.lanes[l]).state = .fault ∧ (t.seq.lanes[l]).fault = some (.armFault, (s.seq.lanes[l]).state)))
    ∧ (∀ (s : State) (a : NodeId) (l : LaneId) (code : Nat), ReportAt s (.help code) a (.terminal l) →
      exec .help s = .next (settleReports (queueRecord
        (.helpCall l a code (s.seq.lanes[l]).state (s.seq.lanes[l]).visit) (reportTaken s))))

/-- IDENTIFY, KEY and ATTENDANT: an outbound visit found, a material asked again, an admission given up, a hold released (R96, R97, R99, R100, R101, R108, R114, R158). An IDENTIFY taken by a CLOSED lane offers 1 LANE_CLOSED and nothing else; one taken by an OUTBOUND lane in IDLE for a vehicle whose one visit is ON_SITE makes the visit LEAVING in that lane, and with the grant held by a lane and no arm FAULT the lane waits in WAIT_BRIDGE in the grant queue. A KEY of number 0 in ASKING offers 3 ENTER_MATERIAL; CANCEL ends the admission and the lane goes to rest; outside ASKING a KEY is discarded. An ATTENDANT is discarded outside HELD or while the yard stop line is asserted; it releases a hold PRINT_FAILED, and the lane enters RELEASING with its exit arm wanted UP and its clearance timer at the configured limit. -/
def Obligations.TerminalReports : Prop :=
  (∀ (s : State) (a : NodeId) (l : LaneId) (id : Text), ReportAt s (.identify id) a (.terminal l) →
      (s.seq.lanes[l]).state = .closed →
      exec .identify s = .next (settleReports (offerDisplay l .laneClosed (reportTaken s))))
    ∧ (∀ (s : State) (a : NodeId) (l : LaneId) (id : Text) (c : LaneConfig) (v : Visit),
      ReportAt s (.identify id) a (.terminal l) → (s.seq.lanes[l]).state = .idle → s.yardStop = false →
      (s.seq.lanes[l]).config = some c → c.function = .outbound → v ∈ s.visits.table → v.vehicle = id → v.state = .onSite →
      (∀ w ∈ s.visits.table, w.vehicle = id → w = v) →
      ∃ t, exec .identify s = .next t
        ∧ { v with state := .leaving, outLane := some l, lane := some l } ∈ t.visits.table
        ∧ (t.seq.lanes[l]).visit = some v.number
        ∧ ((s.seq.bridges[c.bridge]).holder.isSome = true → ArmsSound s l →
            (t.seq.lanes[l]).state = .waitBridge ∧ l ∈ (t.seq.bridges[c.bridge]).queue))
    ∧ (∀ (s : State) (a : NodeId) (l : LaneId), ReportAt s (.key (.number 0)) a (.terminal l) →
      (s.seq.lanes[l]).state = .asking →
      exec .key s = .next (settleReports (offerDisplay l .enterMaterial (reportTaken s))))
    ∧ (∀ (s : State) (a : NodeId) (l : LaneId), ReportAt s (.key .cancel) a (.terminal l) →
      (s.seq.lanes[l]).state = .asking → ArmsSound s l →
      ∃ t, exec .key s = .next t ∧ (t.seq.lanes[l]).asking = none ∧ (t.seq.lanes[l]).visit = none
        ∧ (t.seq.lanes[l]).state = restState s l)
    ∧ (∀ (s : State) (a : NodeId) (l : LaneId) (k : KeyAction), ReportAt s (.key k) a (.terminal l) →
      (s.seq.lanes[l]).state ≠ .asking → exec .key s = .next (settleReports (reportTaken s)))
    ∧ (∀ (s : State) (a : NodeId) (l : LaneId), ReportAt s .attendant a (.terminal l) →
      (s.seq.lanes[l]).state ≠ .held ∨ s.yardStop = true → exec .attendant s = .next (settleReports (reportTaken s)))
    ∧ (∀ (s : State) (a : NodeId) (l : LaneId) (c : LaneConfig), ReportAt s .attendant a (.terminal l) →
      (s.seq.lanes[l]).state = .held → (s.seq.lanes[l]).hold = some (.printFailed, .releasing) → s.yardStop = false →
      (s.seq.lanes[l]).config = some c → ArmsSound s l → StationsActive s l →
      ∃ t, exec .attendant s = .next t ∧ (t.seq.lanes[l]).state = .releasing ∧ (t.seq.lanes[l]).hold = none
        ∧ (t.seq.lanes[l]).exit.wantArm = .up ∧ (t.seq.lanes[l]).exit.wantSignal = .green
        ∧ (t.seq.lanes[l]).timer
            = some (.clearance, { limit := c.clearanceTime * 1000, left := c.clearanceTime * 1000 }))

/-- A lane admission that passes every check opens a visit (R98, R152, R154, R155, R139). An IDENTIFY taken by an INBOUND lane in IDLE for a known vehicle that passes every check of a lane admission opens an ADMITTED visit under the number the assignment gives, carried by the lane, with the entry's account and material, the tare the tare status allows, the account's reserve and three claims left of four; the account's reserved total and visit count rise, VISIT_OPENED is queued and the next visit number moves on. -/
def Obligations.InboundAdmissionOpensAVisit : Prop :=
  ∀ (s : State) (a : NodeId) (l : LaneId) (id : Text) (c : LaneConfig) (v : Vehicle) (x : Account) (m : Nat) (row : TariffRow),
    ReportAt s (.identify id) a (.terminal l) → (s.seq.lanes[l]).state = .idle → s.yardStop = false →
    (s.seq.lanes[l]).config = some c → c.function = .inbound → waitingVisit s id = none → findVehicle s id = some v →
    visitOf s id = none → s.visits.table.length < 64 → v.account ≠ 0 → findAccount s v.account = some x →
    x.isHeld = false → x.overLimit = false → (x.kind = .council ∨ (x.reserve : Int) ≤ availableCredit x) →
    v.material = some m → activeRow s m = some row → (row.restricted = true → v.permit = true) →
    (v.attendance = true → s.port.up = true) → 4 ≤ unclaimedFree s →
    ∃ t, exec .identify s = .next t
      ∧ (t.seq.lanes[l]).visit = some (assignVisitNumber s)
      ∧ t.visits.next = nextVisitNumber (assignVisitNumber s)
      ∧ (∃ w ∈ t.visits.table, w.number = assignVisitNumber s ∧ w.vehicle = id ∧ w.account = v.account ∧ w.material = m
          ∧ w.tare = admissionTare s v ∧ w.reserve = x.reserve ∧ w.state = .admitted ∧ w.claims = 3 ∧ w.bank = none
          ∧ w.inLane = some l ∧ w.lane = some l ∧ w.attendance = v.attendance ∧ w.officeOpened = false)
      ∧ findAccount t v.account = some { x with reserved := x.reserved + x.reserve, visits := x.visits + 1 }
      ∧ (∃ r ∈ t.port.records, r.body = .visitOpened (assignVisitNumber s) id v.account m (admissionTare s v) x.reserve
          (some l) v.attendance (stamp s) false)
      ∧ t.port.claims = s.port.claims + 3

/-- A print retry offers the command again; DONE, PAPER_OUT, JAM and the print timer end the head ticket (R166, R167, R185, R186, R187, R188). PRINT_RETRY_EXPIRY offers the head ticket's command again, and the queue takes it. A COPY alone in its printer's queue, its commands all answered, ends PRINTED at the DONE of its job tag and FAILED at PAPER_OUT, JAM or the print timer's expiry: it leaves the queue, the timers stop and the last job carries the outcome. An ORIGINAL so placed ends at the same four commands, and its end closes its visit and leaves the same last job. The end of an ORIGINAL closes its visit: VISIT_CLOSED is queued by a claim, the account's visit count falls, the bank's reference count falls, and the visit leaves the table. -/
def Obligations.PrintingGoesOnAndEnds : Prop :=
  (∀ (s : State) (l : LaneId) (t : Ticket) (rest : List Ticket) (a : NodeId) (x : Serial) (n : Nat), s.powered = true →
      (s.tickets.printers[l]).retry = some n → (s.tickets.printers[l]).queue = t :: rest →
      (roleOf s (.printer l)).node = some (a, x) → (s.bus.nodes[a]).state = .active →
      t.command.payload.length ≤ ((s.bus.nodes[a]).desc.map (·.maxPayload)).getD 32 → s.bus.queue.length < 16 →
      exec (.printRetryExpiry l) s = .next (modPrinter l (fun p => { p with retry := none, outstanding := true })
        (modBus (fun y => { y with queue := y.queue
          ++ [{ node := a, frame := t.command, origin := .ticket l (t.jobTag.getD 0), sent := false }] }) (fresh s))))
    ∧ (∀ (s : State) (l : LaneId) (t : Ticket) (tag : Nat), (s.tickets.printers[l]).queue = [t] → t.kind = .copy →
      t.stage = .awaitingDone → t.parts.length ≤ t.pos → t.jobTag = some tag → (∀ x ∈ s.tickets.handOver, x.2 ≠ l) →
      let gone := fun (f : Option TicketFailure) (u : State) => modPrinter l (fun p => { p with
        queue := [], timer := none, retry := none, outstanding := false,
        lastJob := some { kind := .copy, number := t.number, jobTag := some tag, failure := f } }) u
      (∀ a, ReportAt s (.done tag) a (.printer l) → exec .done s = .next (settleReports (gone none (reportTaken s))))
      ∧ (∀ a k, ReportAt s (.paperOut k) a (.printer l) →
          exec .paperOut s = .next (settleReports (gone (some .paperOut) (reportTaken s))))
      ∧ (∀ a k, ReportAt s (.jam k) a (.printer l) →
          exec .jam s = .next (settleReports (gone (some .jam) (reportTaken s))))
      ∧ (s.powered = true → (s.tickets.printers[l]).timer.isSome = true →
          exec (.printTimerExpiry l) s = .next (gone (some .timeout) (fresh s))))
    ∧ (∀ (s : State) (l : LaneId) (t : Ticket) (tag : Nat) (v : Visit), (s.tickets.printers[l]).queue = [t] →
      t.kind = .original → t.stage = .awaitingDone → t.parts.length ≤ t.pos → t.jobTag = some tag →
      (∀ x ∈ s.tickets.handOver, x.2 ≠ l) → findVisit s v.number = some v → t.content.visit = v.number →
      1 ≤ s.port.claims →
      let ends := fun (c : Instr) (f : Option TicketFailure) => ∀ x, closedOf v t.number f = some x →
        ∃ u, exec c s = .next u ∧ findVisit u v.number = none ∧ u.port.claims = s.port.claims - 1
          ∧ (∃ r ∈ u.port.records, r.body = .visitClosed x) ∧ (u.tickets.printers[l]).queue = []
          ∧ (u.tickets.printers[l]).timer = none
          ∧ (u.tickets.printers[l]).lastJob
              = some { kind := .original, number := t.number, jobTag := some tag, failure := f }
      (∀ a, ReportAt s (.done tag) a (.printer l) → ends .done none)
      ∧ (∀ a k, ReportAt s (.paperOut k) a (.printer l) → ends .paperOut (some .paperOut))
      ∧ (∀ a k, ReportAt s (.jam k) a (.printer l) → ends .jam (some .jam))
      ∧ (s.powered = true → (s.tickets.printers[l]).timer.isSome = true → ends (.printTimerExpiry l) (some .timeout)))
    ∧ (∀ (s : State) (v : Visit) (c : ClosedVisit) (k : Option Nat) (f : Option TicketFailure),
      findVisit s v.number = some v → closedOf v k f = some c → 1 ≤ s.port.claims →
      let t := closeVisit v.number k f s
      findVisit t v.number = none ∧ t.port.claims = s.port.claims - 1
        ∧ (∃ r, r.body = .visitClosed c ∧ r.number = s.port.nextRecord ∧ t.port.records = s.port.records ++ [r])
        ∧ (∀ x, v.account ≠ 0 → findAccount s v.account = some x → findAccount t v.account
            = some { x with reserved := if v.posted then x.reserved else x.reserved - v.reserve, visits := x.visits - 1 })
        ∧ (∀ b : BankId, v.bank = some b → (t.tables.banks[b]).refs = (s.tables.banks[b]).refs - 1))

/-- What an expiry of the zero-tracking timer does, on the source as it stands (notes/assumptions/20.md) (R16, R17). At ZERO_TRACKING_EXPIRY the timer restarts at 1,000 ms. When every condition of tracking holds, the step is the lesser of the distance from Z_b to W_avg and e, in the direction of W_avg: a step within the bound of 2% of Max moves Z_b and clears the zero-limit flag; one that would break it is not made, and sets a clear flag with a ZERO_LIMIT record; a step of 0 changes nothing. When a condition fails, or W_avg or the calibration source is absent, nothing else changes. Cell range, e and Max are those of the source as it stands at the expiry, also between a change of source and the next bridge sample: the model's reading, notes/assumptions/20.md. -/
def Obligations.ZeroTrackingStep : Prop :=
  ∀ (s : State) (b : BridgeId), s.powered = true →
    let u := modEngine b (fun x => { x with trackTimer := 1000 }) (fresh s)
    let e := s.engine[b]
    (∀ (z : Zero) (w : Int) (d : CalData) (step : Int), e.zero = some z → e.wAvg = some w → source s b = some d →
      e.status ≠ .calibrating → e.stable = true → inRange s b = true → |w - z.zb| ≤ 5 * (d.e : Int) → granted s b = false →
      beamsClear s b = true → step = (if z.zb ≤ w then min (w - z.zb) (d.e : Int) else -(min (z.zb - w) (d.e : Int))) →
      (step = 0 → exec (.zeroTrackingExpiry b) s = .next u)
      ∧ (step ≠ 0 → 5 * |z.zb + step - z.zinit| ≤ (d.max : Int) → exec (.zeroTrackingExpiry b) s
          = .next (modEngine b (fun x => { x with zero := some { z with zb := z.zb + step }, zeroLimit := false }) u))
      ∧ (step ≠ 0 → (d.max : Int) < 5 * |z.zb + step - z.zinit| → e.zeroLimit = false → exec (.zeroTrackingExpiry b) s
          = .next (queueRecord (.zeroLimit b z.zb z.zinit) (modEngine b (fun x => { x with zeroLimit := true }) u)))
      ∧ (step ≠ 0 → (d.max : Int) < 5 * |z.zb + step - z.zinit| → e.zeroLimit = true →
          exec (.zeroTrackingExpiry b) s = .next u))
    ∧ ((e.zero = none ∨ e.wAvg = none ∨ source s b = none ∨ e.status = .calibrating ∨ e.stable = false ∨ inRange s b = false ∨ granted s b = true
        ∨ beamsClear s b = false
        ∨ ∃ z w d, e.zero = some z ∧ e.wAvg = some w ∧ source s b = some d ∧ 5 * (d.e : Int) < |w - z.zb|) →
      exec (.zeroTrackingExpiry b) s = .next u)

/-- The retry timers of attention, of a station and of a drive offer their command again (R86, R110, R111, R117). ATTENTION_RETRY_EXPIRY for an ACTIVE node whose attention is not what it should be, with no offer standing and room in the queue, offers ATTENTION ON or OFF; for one whose attention is right, it clears the offer. STATION_RETRY_EXPIRY of a station whose drive and arm want nothing offers the signal wanted. DRIVE_RETRY_EXPIRY offers DRIVE OFF while the yard stop line is asserted and DRIVE ON otherwise. -/
def Obligations.RetryTimersOfferAgain : Prop :=
  (∀ (s : State) (a : NodeId) (n : Nat), s.powered = true → (s.plan.nodes[a]).retry = some n →
      (s.bus.nodes[a]).state = .active →
      ((s.bus.nodes[a]).attention = attentionWanted s a →
        exec (.attentionRetryExpiry a) s = .next (modPlanNode a (fun x => { x with retry := none, offer := .none }) (fresh s)))
      ∧ ((s.bus.nodes[a]).attention ≠ attentionWanted s a → (s.plan.nodes[a]).offer = .none → s.bus.queue.length < 16 →
        exec (.attentionRetryExpiry a) s = .next
          (modPlanNode a (fun x => { x with
            retry := none,
            offer := if attentionWanted s a then .onOffered else .offOffered })
            (modBus (fun x => { x with queue := x.queue ++ [{
              node := a, frame := if attentionWanted s a then .attentionOn else .attentionOff, origin := .plan, sent := false }] })
              (fresh s)))))
    ∧ (∀ (s : State) (l : LaneId) (e : LaneEnd) (a : NodeId) (n : Nat), s.powered = true →
      ((s.seq.lanes[l]).station e).retry = some n → filledNode s (.station l e) = some a →
      (s.bus.nodes[a]).state = .active → 1 ≤ ((s.bus.nodes[a]).desc.map (·.maxPayload)).getD 32 →
      s.bus.queue.length < 16 → s.yardStop = false → ((s.seq.lanes[l]).station e).outOff = false →
      ((s.seq.lanes[l]).station e).outOn = false → ((s.seq.lanes[l]).station e).drive = .on →
      ((s.seq.lanes[l]).station e).driveOffMark = false →
      ((s.seq.lanes[l]).station e).signal ≠ some ((s.seq.lanes[l]).station e).wantSignal →
      ((s.seq.lanes[l]).station e).outSignal = none → ((s.seq.lanes[l]).station e).armCall = none →
      exec (.stationRetryExpiry l e) s = .next
        (modStation l e (fun x => { x with retry := none, outSignal := some x.wantSignal })
          (modBus (fun x => { x with queue := x.queue ++ [{
            node := a, frame := .signal ((s.seq.lanes[l]).station e).wantSignal, origin := .station l e, sent := false }] }) (fresh s))))
    ∧ (∀ (s : State) (l : LaneId) (e : LaneEnd) (a : NodeId) (n : Nat), s.powered = true →
      filledNode s (.station l e) = some a → (s.bus.nodes[a]).state = .active → s.bus.queue.length < 16 →
      ((s.seq.lanes[l]).station e).outOff = false → ((s.seq.lanes[l]).station e).outOn = false →
      (s.yardStop = true → ((s.seq.lanes[l]).station e).retryOff = some n → ((s.seq.lanes[l]).station e).retryOn = none →
        ((s.seq.lanes[l]).station e).drive ≠ .off →
        ∃ t, exec (.driveRetryExpiry l e) s = .next t ∧ ((t.seq.lanes[l]).station e).outOff = true
          ∧ ((t.seq.lanes[l]).station e).retryOff = none
          ∧ { node := a, frame := .driveOff, origin := .station l e, sent := false } ∈ t.bus.queue)
      ∧ (s.yardStop = false → ((s.seq.lanes[l]).station e).retryOn = some n → ((s.seq.lanes[l]).station e).retryOff = none →
        ((s.seq.lanes[l]).station e).drive ≠ .on →
        ∃ t, exec (.driveRetryExpiry l e) s = .next t ∧ ((t.seq.lanes[l]).station e).outOn = true
          ∧ ((t.seq.lanes[l]).station e).retryOn = none
          ∧ { node := a, frame := .driveOn, origin := .station l e, sent := false } ∈ t.bus.queue))

/-- The entry, ask, stability, clearance and motion timers: abandoned, at rest, HELD, FAULT (R99, R105, R106, R108, R111, R112, R113, R168). ENTRY_TIMER_EXPIRY voids the visit carried with ABANDONED, releases the grant and takes the lane to rest. ASK_TIMER_EXPIRY drops the pending admission and takes the lane to rest. STABILITY_TIMER_EXPIRY leaves the lane HELD with UNSTABLE to resume WEIGHING, its timer stopped and its capture request withdrawn. CLEARANCE_TIMER_EXPIRY leaves the lane in FAULT with CLEARANCE and the state it left. MOTION_TIMER_EXPIRY sets the arm image to FAULT and, in a lane from IDLE to RELEASING whose arm was not FAULT, leaves the lane in FAULT with ARM_TIMEOUT. -/
def Obligations.LaneTimersExpire : Prop :=
  (∀ (s : State) (l : LaneId) (n : Countdown) (v : Visit), s.powered = true → (s.seq.lanes[l]).timer = some (.entry, n) →
      (s.seq.lanes[l]).state = .entering → (s.seq.lanes[l]).visit = some v.number → findVisit s v.number = some v →
      1 ≤ v.claims → v.claims ≤ s.port.claims → ArmsSound s l →
      ∃ t, exec (.entryTimerExpiry l) s = .next t ∧ findVisit t v.number = none ∧ (t.seq.lanes[l]).visit = none
        ∧ (t.seq.lanes[l]).state = restState s l ∧ (t.seq.lanes[l]).timer = none
        ∧ (∀ b, (s.seq.lanes[l]).bridge = some b → (t.seq.bridges[b]).holder ≠ some l)
        ∧ ∃ r ∈ t.port.records, r.body = .visitVoid v.number v.vehicle v.account v.material .abandoned v.underlying v.first
            (v.held.map (·.2)))
    ∧ (∀ (s : State) (l : LaneId) (n : Countdown), s.powered = true → (s.seq.lanes[l]).timer = some (.ask, n) →
      ArmsSound s l → ∃ t, exec (.askTimerExpiry l) s = .next t ∧ (t.seq.lanes[l]).asking = none
        ∧ (t.seq.lanes[l]).state = restState s l ∧ (t.seq.lanes[l]).timer = none)
    ∧ (∀ (s : State) (l : LaneId) (n : Countdown), s.powered = true → (s.seq.lanes[l]).timer = some (.stability, n) →
      ∃ t, exec (.stabilityTimerExpiry l) s = .next t ∧ (t.seq.lanes[l]).state = .held
        ∧ (t.seq.lanes[l]).hold = some (.unstable, .weighing) ∧ (t.seq.lanes[l]).timer = none
        ∧ (∀ b, (s.seq.lanes[l]).bridge = some b → ∀ r, (t.engine[b]).capture = some r → r.lane ≠ l))
    ∧ (∀ (s : State) (l : LaneId) (n : Countdown), s.powered = true → (s.seq.lanes[l]).timer = some (.clearance, n) →
      ∃ t, exec (.clearanceTimerExpiry l) s = .next t ∧ (t.seq.lanes[l]).state = .fault ∧ (t.seq.lanes[l]).timer = none
        ∧ (t.seq.lanes[l]).fault = some (.clearance, (s.seq.lanes[l]).state))
    ∧ (∀ (s : State) (l : LaneId) (e : LaneEnd), s.powered = true → ((s.seq.lanes[l]).station e).motion.isSome = true →
      ∃ t, exec (.motionTimerExpiry l e) s = .next t ∧ ((t.seq.lanes[l]).station e).arm = .fault
        ∧ ((t.seq.lanes[l]).station e).motion = none
        ∧ (((s.seq.lanes[l]).station e).arm ≠ .fault → (s.seq.lanes[l]).state.faults = true →
            (t.seq.lanes[l]).state = .fault ∧ (t.seq.lanes[l]).fault = some (.armTimeout, (s.seq.lanes[l]).state)))

/-- The timers of a calibration step, a pause, a hold-off, the link, the live subscription, and the frame gap (notes/assumptions/1.md) (R37, R72, R104, R194, R205, section 9.1). CAL_STEP_TIMEOUT ends the step with an answer STATE. INTRUSION_EMPTY_EXPIRY ends the pause; with no lane waiting in the queue nothing else changes. HOLD_OFF_EXPIRY ends the hold-off, and a pending join starts a round. SILENCE_TIMER_EXPIRY takes the link DOWN, ends the subscription and discards the frames waiting, when none of them is RESTART's answer. LIVE_INTERVAL_EXPIRY restarts the interval and makes a LIVE frame ready, or none while one waits. FRAME_GAP_TIMEOUT changes nothing, which is the model's choice, notes/assumptions/1.md: the bytes R193 has the part discard are no state. SECONDS_TICK and the lane timers have statements of their own. -/
def Obligations.TimersOfTheOtherBlocksExpire : Prop :=
  (∀ (s : State) (run : StepRun), s.powered = true → s.cal.session.bind (·.step) = some run →
      exec .calStepTimeout s = .next (answer run.tag .state [] (modSession (fun x => { x with step := none }) (fresh s))))
    ∧ (∀ (s : State) (b : BridgeId) (n : Nat), s.powered = true → (s.seq.bridges[b]).pauseTimer = some n →
      (∀ l ∈ (s.seq.bridges[b]).queue, (s.seq.lanes[l]).state ≠ .waitBridge) →
      exec (.intrusionEmptyExpiry b) s = .next (modBridge b (fun x => { x with pause := false, pauseTimer := none }) (fresh s)))
    ∧ (∀ (s : State) (n : Nat), s.powered = true → s.bus.enum.holdOff = some n → s.bus.enum.joinPending = false →
      exec .holdOffExpiry s = .next (modEnum (fun x => { x with holdOff := none }) (fresh s)))
    ∧ (∀ (s : State) (n : Nat), s.powered = true → s.bus.enum.holdOff = some n → s.bus.enum.joinPending = true →
      s.bus.enum.running = false →
      exec .holdOffExpiry s = .next (modEnum (fun _ =>
        { running := true, gaveZero := false, failed := [], holdOff := none, joinPending := false }) (fresh s)))
    ∧ (∀ (s : State) (n : Nat), s.powered = true → s.port.silence = some n →
      (∀ tag body, .restartAnswer tag body ∉ s.port.waiting) →
      exec .silenceTimerExpiry s
        = .next (modPort (fun p => { p with up := false, silence := none, live := none, waiting := [] }) (fresh s)))
    ∧ (∀ (s : State) (x : Live), s.powered = true → s.port.live = some x → .live ∉ s.port.waiting →
      exec .liveIntervalExpiry s
        = .next (makeReady .live (modPort (fun p => { p with live := some { x with timer := x.interval } }) (fresh s))))
    ∧ (∀ (s : State) (x : Live), s.powered = true → s.port.live = some x → .live ∈ s.port.waiting →
      exec .liveIntervalExpiry s
        = .next (modPort (fun p => { p with live := some { x with timer := x.interval } }) (fresh s)))
    ∧ (∀ s : State, s.powered = true → exec .frameGapTimeout s = .next (fresh s))

/-- The seconds count, SET CLOCK, SET TARIFF SWITCH and the switch test (R127, R128, R148). SECONDS_TICK returns the sub-second count to 0 and raises the seconds count, which stays at 4,294,967,295 once there. SET CLOCK sets the seconds count and the set flag. SET TARIFF SWITCH sets or clears the switch time. After each rise and each of the two requests, a set clock at or past the switch time switches the active bank, clears the switch time and queues TARIFF_SWITCHED; otherwise nothing else changes. -/
def Obligations.ClockAndTariffSwitch : Prop :=
  (∀ s : State, s.powered = true → 4294967295 ≤ s.tables.clock.secs → exec .secondsTick s
        = .next (modTables (fun t => { t with clock := { t.clock with ms := 0 } }) (fresh s)))
    ∧ (∀ s : State, s.powered = true → s.tables.clock.secs < 4294967295 →
      (∀ n, s.tables.switchTime = some n → s.tables.clock.set = false ∨ s.tables.clock.secs + 1 < n) →
      exec .secondsTick s
        = .next (modTables (fun t => { t with clock := { t.clock with ms := 0, secs := t.clock.secs + 1 } }) (fresh s)))
    ∧ (∀ (s : State) (n : Nat), s.powered = true → s.tables.clock.secs < 4294967295 → s.tables.clock.set = true →
      s.tables.switchTime = some n → n ≤ s.tables.clock.secs + 1 →
      exec .secondsTick s
        = .next (queueRecord (.tariffSwitched s.tables.active (otherBank s.tables.active) n (s.tables.clock.secs + 1))
            (modTables (fun t => { t with clock := { t.clock with ms := 0, secs := t.clock.secs + 1 },
                                          active := otherBank t.active, switchTime := none }) (fresh s))))
    ∧ (∀ (s : State) (tag : Byte) (n : Nat), RequestAt s 30 setClockLayout tag [some (.num n)] →
      ((∀ k, s.tables.switchTime = some k → n < k) →
        Answers .setClock s tag .done []
          (modTables (fun t => { t with clock := { secs := n, ms := 0, set := true } }) (fresh s)))
      ∧ (∀ k, s.tables.switchTime = some k → k ≤ n →
        Answers .setClock s tag .done []
          (queueRecord (.tariffSwitched s.tables.active (otherBank s.tables.active) k n)
            (modTables (fun t => { t with clock := { secs := n, ms := 0, set := true },
                                          active := otherBank t.active, switchTime := none }) (fresh s)))))
    ∧ (∀ (s : State) (tag : Byte), RequestAt s 42 setTariffSwitchLayout tag [none] →
      Answers .setTariffSwitch s tag .done [] (modTables (fun t => { t with switchTime := none }) (fresh s)))
    ∧ (∀ (s : State) (tag : Byte) (n : Nat), RequestAt s 42 setTariffSwitchLayout tag [some (.num n)] →
      (s.tables.clock.set = false ∨ s.tables.clock.secs < n →
        Answers .setTariffSwitch s tag .done [] (modTables (fun t => { t with switchTime := some n }) (fresh s)))
      ∧ (s.tables.clock.set = true → n ≤ s.tables.clock.secs →
        Answers .setTariffSwitch s tag .done []
          (queueRecord (.tariffSwitched s.tables.active (otherBank s.tables.active) n s.tables.clock.secs)
            (modTables (fun t => { t with active := otherBank t.active, switchTime := none }) (fresh s)))))

/-- What the completion of each of the four store writes does (notes/assumptions/14.md) (R23, R30, R31, R43, R44, R180, R182). COMMIT_RECORD_WRITE_DONE makes the bridge's record the committed one, VALID, starts the counter write and derives the bridge state; that the record is VALID from there on, and the legality judged only after the counter write, is the model's reading, notes/assumptions/14.md. COMMIT_COUNTER_WRITE_DONE, with no reset waiting, makes the counter VALID with its value, closes the session, spends its claim on CALIBRATION_COMMITTED and answers DONE. TICKET_NUMBER_WRITE_DONE makes the next ticket number VALID and gives the ticket its number and the stage WAITING; SET_TICKET_NUMBER_WRITE_DONE makes it VALID and answers DONE; with nothing else waiting for the store nothing else changes. With a write waiting behind a ticket number's, that one is in flight afterwards, whatever is numbered next. -/
def Obligations.StoreWritesComplete : Prop :=
  (∀ (s : State) (b : BridgeId) (r : CalRecord), s.powered = true → s.cal.store.inFlight = some (.record b r) →
      exec .commitRecordWriteDone s = .next (deriveBridge b (modStore (fun st => { st with
        records := put st.records b { content := r, check := crc16 (CalRecord.bytes r), valid := true },
        inFlight := some (.counter b r.audit) }) (fresh s))))
    ∧ (∀ (s : State) (b : BridgeId) (v : Nat) (x : Session) (tag : Byte), s.powered = true → s.port.resetAsked = none →
      s.cal.store.inFlight = some (.counter b v) → s.cal.session = some x → x.commit = some tag → 1 ≤ s.port.claims →
      ∃ t, exec .commitCounterWriteDone s = .next t ∧ t.cal.session = none
        ∧ t.cal.store.counter = { content := v, check := crc16 (u16 v), valid := true }
        ∧ t.port.claims = s.port.claims - 1
        ∧ (∃ r ∈ t.port.records, r.body = .calibrationCommitted b (s.cal.store.records[b]).content.audit
            (s.cal.store.records[b]).content.commitTime (s.cal.store.records[b]).content.data.n
            (s.cal.store.records[b]).content.data.e (s.cal.store.records[b]).content.data.max
            (s.cal.store.records[b]).content.data.gain (s.cal.store.records[b]).content.data.zCal
            (s.cal.store.records[b]).content.data.serials)
        ∧ (s.port.up = true → .answer tag (u8 Result.done.code) ∈ outgoing t.port))
    ∧ (∀ (s : State) (next k v : Nat) (l : LaneId), s.powered = true → s.port.resetAsked = none →
      s.cal.store.inFlight = some (.ticket next) → s.cal.store.asked = [] → s.tickets.inFlight = some (v, l, k) →
      s.tickets.numbering = [] → (roleOf s (.printer l)).fill = .degraded →
      exec .ticketNumberWriteDone s = .next (modOriginal l v (fun t => { t with number := some k, stage := .waiting })
        (modTickets (fun x => { x with inFlight := none })
          (modStore (fun st => { st with
            ticket := { content := next, check := crc16 (u32 next), valid := true }, inFlight := none }) (fresh s)))))
    ∧ (∀ (s : State) (next : Nat) (x : Nat × LaneId × Nat) (w : StoreWrite) (rest : List StoreWrite), s.powered = true →
      s.port.resetAsked = none → s.cal.store.inFlight = some (.ticket next) → s.cal.store.asked = w :: rest →
      s.tickets.inFlight = some x → ∃ t, exec .ticketNumberWriteDone s = .next t ∧ t.cal.store.inFlight = some w)
    ∧ (∀ (s : State) (v : Nat) (tag : Byte), s.powered = true → s.port.resetAsked = none →
      s.cal.store.inFlight = some (.setTicket v tag) → s.cal.store.asked = [] → s.tickets.numbering = [] →
      exec .setTicketNumberWriteDone s = .next (answer tag .done [] (modStore (fun st => { st with
        ticket := { content := v, check := crc16 (u32 v), valid := true }, inFlight := none }) (fresh s))))

/-- Frames received, discarded and sent, and requests the part does not know (notes/assumptions/1.md) (R193, R194, R196, R197, R198, R202, R205). A valid frame restarts the silence timer and joins the buffer, or is answered BUSY when 4 wait; with the link DOWN it makes the link UP, and a NOTICE is made ready when records wait. A frame that is not valid changes nothing (FRAME_DISCARD's part is the model's choice, 1.md). After a frame has been sent the oldest waiting one is sent. A kind that is no request is answered UNKNOWN_REQUEST. A frame that becomes ready is discarded while the link is DOWN, sent at once by an idle transmitter and waits otherwise; a LIVE frame takes its values when its sending starts. -/
def Obligations.FramesOfTheOfficeLink : Prop :=
  (∀ (s : State) (f : OfficeFrame), s.powered = true → frameValid f = true →
      (s.port.up = true → s.port.buffer.length < 4 → exec (.officeFrame f) s = .next (modPort (fun p => { p with
          silence := some (p.timeout * 1000), buffer := p.buffer ++ [{ kind := f.kind, tag := f.tag, body := f.body }] })
          (fresh s)))
      ∧ (s.port.up = true → 4 ≤ s.port.buffer.length → exec (.officeFrame f) s
          = .next (answer f.tag .busy [] (modPort (fun p => { p with silence := some (p.timeout * 1000) }) (fresh s))))
      ∧ (s.port.up = false → s.port.buffer.length < 4 → ∃ t, exec (.officeFrame f) s = .next t ∧ t.port.up = true
          ∧ t.port.silence = some (s.port.timeout * 1000)
          ∧ t.port.buffer = s.port.buffer ++ [{ kind := f.kind, tag := f.tag, body := f.body }]
          ∧ (s.port.records ≠ [] → .notice (noticeBody s) ∈ outgoing t.port)))
    ∧ (∀ (s : State) (f : OfficeFrame), s.powered = true → exec (.frameDiscard f) s = .next (fresh s))
    ∧ (∀ (s : State) (x : Sending), s.powered = true → s.port.sending = some x →
      (∀ tag body, x.frame ≠ .restartAnswer tag body) →
      (s.port.waiting = [] → exec .frameSent s = .next (modPort (fun p => { p with sending := none }) (fresh s)))
      ∧ (∀ f rest, s.port.waiting = f :: rest → exec .frameSent s
          = .next (startSending f (modPort (fun p => { p with waiting := rest }) (fresh s)))))
    ∧ (∀ (s : State) (code : Nat) (tag : Byte) (body : Bytes), HeadIs s code tag body → code = 0 ∨ 64 < code →
      Answers .unknownRequest s tag .unknownRequest [] (fresh s))
    ∧ (∀ (s : State) (f : OutFrame), (s.port.up = false → makeReady f s = s)
      ∧ (s.port.up = true → s.port.sending = none → makeReady f s = startSending f s)
      ∧ (s.port.up = true → s.port.sending ≠ none →
          makeReady f s = modPort (fun p => { p with waiting := p.waiting ++ [f] }) s))
    ∧ (∀ s : State, (startSending .live s).port.sending
        = some { frame := .live, bytes := officeBytes 0x82 0 (liveBody s) })

/-- A request body that cannot be cut is MALFORMED, one not encoded as laid out RANGE; another frame waits (notes/assumptions/1.md, 15.md) (R196, R197, R210). For every request: with its frame at the head, a body that the layout's presence bytes and string counts do not cut, or whose length differs from the sum they call for, is answered MALFORMED; one that is cut, but with a value not encoded as its layout states or without a field it cannot do without, is answered RANGE; in both cases the owner is not called and nothing else changes. With a frame of another kind at the head, no frame in the buffer, or RESTART taken, the command changes nothing, which is the model's choice, notes/assumptions/1.md and 15.md. -/
def Obligations.BodiesAreTestedFirst : Prop :=
  (∀ (c : Instr) (code : Nat) (layout : List Field) (s : State) (tag : Byte) (body : Bytes),
      requestOf c = some (code, layout) → HeadIs s code tag body →
      (cutFields layout body = none → Answers c s tag .malformed [] (fresh s))
      ∧ (∀ cut, cutFields layout body = some cut → readFields layout cut = none → Answers c s tag .range [] (fresh s)))
    ∧ (∀ (c : Instr) (code : Nat) (layout : List Field) (s : State), requestOf c = some (code, layout) → s.powered = true →
      s.port.restarting = true ∨ (∀ r ∈ s.port.buffer.head?, r.kind.toNat ≠ code) → exec c s = .next (fresh s))

/-- ZERO BRIDGE: its checks in R15's order and what it sets, on the source as it stands (notes/assumptions/20.md) (R15). ZERO BRIDGE is answered RANGE for a bridge number outside 1 to 4; STATE when the bridge is CALIBRATING, has no zero, is not stable or has a cell out of range, has its grant held, or has a beam not clear; RANGE when 5 times the distance from the latest W_avg to Z_init exceeds Max; otherwise Z_b is set to W_avg, the zero-limit flag clears, Z_init stays, nothing else changes and the answer is DONE. The request is taken in every bridge state other than CALIBRATING. That the cell range and Max are those of the source as it stands, also between a change of source and the next bridge sample, is the model's reading, notes/assumptions/20.md. -/
def Obligations.ZeroBridgeInTheOrderOfItsTable : Prop :=
  ∀ (s : State) (tag : Byte) (n : Nat), RequestAt s 1 zeroBridgeLayout tag [some (.num n)] →
    (n < 1 ∨ 4 < n → Answers .zeroBridge s tag .range [] (fresh s))
    ∧ (∀ b : BridgeId, n = b.val + 1 →
      ((s.engine[b]).status = .calibrating ∨ (s.engine[b]).zero = none ∨ (s.engine[b]).stable = false ∨ inRange s b = false
          ∨ granted s b = true ∨ beamsClear s b = false → Answers .zeroBridge s tag .state [] (fresh s))
      ∧ (∀ (z : Zero) (w : Int) (d : CalData), (s.engine[b]).status ≠ .calibrating → (s.engine[b]).zero = some z →
          (s.engine[b]).stable = true → inRange s b = true → granted s b = false → beamsClear s b = true →
          (s.engine[b]).wAvg = some w → source s b = some d →
          ((d.max : Int) < 5 * |w - z.zinit| → Answers .zeroBridge s tag .range [] (fresh s))
          ∧ (5 * |w - z.zinit| ≤ (d.max : Int) → Answers .zeroBridge s tag .done []
              (modEngine b (fun e => { e with zero := some { zb := w, zinit := z.zinit }, zeroLimit := false }) (fresh s)))))

/-- SET BRIDGE PARAMETERS and SET BRIDGE SERVICE (notes/assumptions/20.md) (R23, R25, R26, R97). SET BRIDGE PARAMETERS is refused STATE while the grant is held or the bridge is CALIBRATING; otherwise the five values are taken, each at the nearer end of its range, DONE when none was clamped; a changed N or M empties both windows and the hold count; that the bridge then counts as not stable, and otherwise as it did, until the next bridge sample is the model's reading, notes/assumptions/20.md. SET BRIDGE SERVICE OUT is refused in the same cases; otherwise the bridge is OUT_OF_SERVICE and an IDLE lane of the bridge closes. IN leaves the flag clear and the state derived without it. -/
def Obligations.BridgeSettings : Prop :=
  (∀ (s : State) (tag : Byte) (b : BridgeId) (n m hold threshold : Nat) (band : Option Int),
      RequestAt s 2 setBridgeParametersLayout tag
        [some (.num (b.val + 1)), some (.num n), some (.num m), band.map .int, some (.num hold), some (.num threshold)] →
      (granted s b = true ∨ (s.engine[b]).status = .calibrating → Answers .setBridgeParameters s tag .state [] (fresh s))
      ∧ (granted s b = false → (s.engine[b]).status ≠ .calibrating →
        let p : BridgeParams := { n := clamp 1 32 n, m := clamp 2 32 m, band := band.map (clampInt 1 10000),
                                  hold := clamp 1 64 hold, threshold := clamp 5 500 threshold }
        ∃ r, Answers .setBridgeParameters s tag r []
            (modEngine b (fun e =>
              if e.params.n = p.n ∧ e.params.m = p.m then { e with params := p }
              else { e with params := p, filter := [], motion := [], hold := 0, stable := false }) (fresh s))
          ∧ (r = .done ↔ (1 ≤ n ∧ n ≤ 32) ∧ (2 ≤ m ∧ m ≤ 32) ∧ (∀ x, band = some x → 1 ≤ x ∧ x ≤ 10000)
              ∧ (1 ≤ hold ∧ hold ≤ 64) ∧ (5 ≤ threshold ∧ threshold ≤ 500))
          ∧ (r = .done ∨ r = .doneClamped)))
    ∧ (∀ (s : State) (tag : Byte) (b : BridgeId),
      RequestAt s 3 setBridgeServiceLayout tag [some (.num (b.val + 1)), some (.num 1)] →
      (granted s b = true ∨ (s.engine[b]).status = .calibrating → Answers .setBridgeService s tag .state [] (fresh s))
      ∧ (granted s b = false → (s.engine[b]).status ≠ .calibrating → (s.engine[b]).status ≠ .outOfService →
        ∃ t, Answers .setBridgeService s tag .done [] t ∧ (t.engine[b]).outOfService = true
          ∧ (t.engine[b]).status = .outOfService
          ∧ (∀ l : LaneId, (s.seq.lanes[l]).bridge = some b → (s.seq.lanes[l]).state = .idle →
              (t.seq.lanes[l]).state = .closed)))
    ∧ (∀ (s : State) (tag : Byte) (b : BridgeId),
      RequestAt s 3 setBridgeServiceLayout tag [some (.num (b.val + 1)), some (.num 2)] →
      ∃ t, Answers .setBridgeService s tag .done [] t ∧ (t.engine[b]).outOfService = false
        ∧ (t.engine[b]).status ≠ .outOfService)

/-- What the reading requests return, and that they change nothing but the two counts they clear (notes/assumptions/5.md) (R27, R48, R79, R80, R93, R124, R134, R143, R149, R176, R191, R209). READ BRIDGE, READ CALIBRATION, READ NODE, READ PLAN ENTRY, READ LANE and READ TICKETS answer DONE for each name in range; READ TABLES, READ VEHICLE, READ ACCOUNT, READ TARIFF ROW, READ VISIT and their NEXT and BY VEHICLE forms return the entry found, and NOT_FOUND where there is none: the NEXT forms the first entry behind the key given, or the first of the table with none given, and READ VISIT NEXT with each answer the number of open visits, the next visit number and the tolerance. That NEXT tests no range on the key it goes on from is the model's reading, notes/assumptions/21.md. None of them changes anything. READ BUS returns the overrun count and clears it, and READ STATUS clears the dropped count. The bytes and the places of the fields are the model's choice, notes/assumptions/5.md. -/
def Obligations.ReadsChangeNothing : Prop :=
  ∀ (s : State) (tag : Byte),
    (∀ b : BridgeId, RequestAt s 4 readBridgeLayout tag [some (.num (b.val + 1))] →
      ∃ body, Answers .readBridge s tag .done body (fresh s) ∧ body.head? = some (BitVec.ofNat 8 (s.engine[b]).status.code))
    ∧ (∀ b : BridgeId, RequestAt s 13 readCalibrationLayout tag [some (.num (b.val + 1))] →
      ∃ body, Answers .readCalibration s tag .done body (fresh s)
        ∧ body.head? = some (if (s.cal.store.records[b]).valid then 1 else 2))
    ∧ (∀ a : NodeId, RequestAt s 18 readNodeLayout tag [some (.num (a.val + 1))] →
      ∃ body, Answers .readNode s tag .done body (fresh s)
        ∧ body.head? = some (BitVec.ofNat 8 (s.bus.nodes[a]).state.code))
    ∧ (∀ p : PlanId, RequestAt s 22 readPlanEntryLayout tag [some (.num (p.val + 1))] →
      ∃ body, Answers .readPlanEntry s tag .done body (fresh s)
        ∧ body.head? = some (if (s.plan.entries[p]).isSome then 1 else 2))
    ∧ (∀ l : LaneId, RequestAt s 29 readLaneLayout tag [some (.num (l.val + 1))] →
      ∃ body, Answers .readLane s tag .done body (fresh s)
        ∧ body.head? = some (if (s.seq.lanes[l]).config.isSome then 1 else 0))
    ∧ (∀ l : LaneId, RequestAt s 57 readTicketsLayout tag [some (.num (l.val + 1))] →
      ∃ body, Answers .readTickets s tag .done body (fresh s)
        ∧ body.head? = some (BitVec.ofNat 8 (roleOf s (.printer l)).fill.code))
    ∧ (RequestAt s 45 readTablesLayout tag [] → ∃ body, Answers .readTables s tag .done body (fresh s)
        ∧ body.take 4 = u16 s.tables.vehicles.length ++ u16 s.tables.accounts.length)
    ∧ (∀ (id : Text) (v : Vehicle), RequestAt s 33 readVehicleLayout tag [some (.text id)] → findVehicle s id = some v →
      Answers .readVehicle s tag .done (vehicleItems s v) (fresh s))
    ∧ (∀ id : Text, RequestAt s 33 readVehicleLayout tag [some (.text id)] → findVehicle s id = none →
      Answers .readVehicle s tag .notFound [] (fresh s))
    ∧ (∀ key : Option Text, RequestAt s 34 readVehicleNextLayout tag [key.map .text] →
      let found := match key with
        | some id => s.tables.vehicles.find? (fun v => idBefore id v.id)
        | none => s.tables.vehicles.head?
      (∀ v, found = some v → Answers .readVehicleNext s tag .done (vehicleItems s v) (fresh s))
      ∧ (found = none → Answers .readVehicleNext s tag .notFound [] (fresh s)))
    ∧ (∀ (n : Nat) (x : Account), RequestAt s 38 readAccountLayout tag [some (.num n)] → 1 ≤ n → n ≤ 999999 →
      findAccount s n = some x → Answers .readAccount s tag .done (accountItems x) (fresh s))
    ∧ (∀ n : Nat, RequestAt s 38 readAccountLayout tag [some (.num n)] → 1 ≤ n → n ≤ 999999 →
      findAccount s n = none → Answers .readAccount s tag .notFound [] (fresh s))
    ∧ (∀ key : Option Nat, RequestAt s 39 readAccountNextLayout tag [key.map .num] →
      let found := match key with
        | some n => s.tables.accounts.find? (fun x => n < x.number)
        | none => s.tables.accounts.head?
      (∀ x, found = some x → Answers .readAccountNext s tag .done (accountItems x) (fresh s))
      ∧ (found = none → Answers .readAccountNext s tag .notFound [] (fresh s)))
    ∧ (∀ (b : BankId) (m : Nat) (r : TariffRow), RequestAt s 43 readTariffRowLayout tag [some (.num b.val), some (.num m)] →
      1 ≤ m → m ≤ 255 → rowIn s b m = some r → Answers .readTariffRow s tag .done r.items (fresh s))
    ∧ (∀ (b : BankId) (m : Nat), RequestAt s 43 readTariffRowLayout tag [some (.num b.val), some (.num m)] →
      1 ≤ m → m ≤ 255 → rowIn s b m = none → Answers .readTariffRow s tag .notFound [] (fresh s))
    ∧ (∀ (b : BankId) (key : Option Nat), RequestAt s 44 readTariffRowNextLayout tag [some (.num b.val), key.map .num] →
      let found := match key with
        | some m => (s.tables.banks[b]).rows.find? (fun r => m < r.material)
        | none => (s.tables.banks[b]).rows.head?
      (∀ r, found = some r → Answers .readTariffRowNext s tag .done r.items (fresh s))
      ∧ (found = none → Answers .readTariffRowNext s tag .notFound [] (fresh s)))
    ∧ (∀ (n : Nat) (v : Visit), RequestAt s 51 readVisitLayout tag [some (.num n)] → 1 ≤ n → findVisit s n = some v →
      Answers .readVisit s tag .done v.items (fresh s))
    ∧ (∀ n : Nat, RequestAt s 51 readVisitLayout tag [some (.num n)] → 1 ≤ n → findVisit s n = none →
      Answers .readVisit s tag .notFound [] (fresh s))
    ∧ (∀ (id : Text) (v : Visit), RequestAt s 52 readVisitByVehicleLayout tag [some (.text id)] → visitOf s id = some v →
      Answers .readVisitByVehicle s tag .done v.items (fresh s))
    ∧ (∀ id : Text, RequestAt s 52 readVisitByVehicleLayout tag [some (.text id)] → visitOf s id = none →
      Answers .readVisitByVehicle s tag .notFound [] (fresh s))
    ∧ (∀ key : Option Nat, RequestAt s 53 readVisitNextLayout tag [key.map .num] →
      let found := match key with
        | some n => s.visits.table.find? (fun v => n < v.number)
        | none => s.visits.table.head?
      let tail := u8 s.visits.table.length ++ u16 s.visits.next ++ u8 s.visits.tolerance
      (∀ v, found = some v → Answers .readVisitNext s tag .done (v.items ++ tail) (fresh s))
      ∧ (found = none → Answers .readVisitNext s tag .notFound tail (fresh s)))
    ∧ (RequestAt s 19 readBusLayout tag [] →
      ∃ body, Answers .readBus s tag .done body (modScan (fun x => { x with overrun := 0 }) (fresh s))
        ∧ (body.drop 1).take 2 = u16 s.bus.scan.overrun)
    ∧ (RequestAt s 63 readStatusLayout tag [] →
      ∃ body, Answers .readStatus s tag .done body (modPort (fun p => { p with dropped := 0 }) (fresh s))
        ∧ body.head? = some (if s.port.up then 1 else 2))

/-- A valid sample weighs and judges; an invalid one leaves the weight, and the third in a run empties it (R5, R7, R8, R9, R10, R11, R13). At a valid sample of a bridge with an established zero, W_avg is the average of the filter with the new W_fine joined, W is the multiple of e nearest to W_avg less Z_b, the live state is the first line of R11 that applies, the bridge is stable when the hold count has reached the hold, and it is occupied from the threshold upward. An invalid sample sets INVALID, a hold count of 0 and occupied and keeps W and the windows, but for the third in a run, which empties them. -/
def Obligations.BridgeSampleWeighs : Prop :=
  (∀ (s : State) (b : BridgeId) (d : CalData) (z : Zero), source s b = some d → (s.engine[b]).zero = some z → 0 < d.e →
      let e := s.engine[b]
      let t := (validSample b d s).engine[b]
      let filter := joinWindow e.params.n e.filter (wFine d (fun p => ((e.samples[p]).count).getD 0))
      ∃ w : Int, t.wAvg = some (average filter) ∧ t.filter = filter ∧ t.w = some w ∧ (d.e : Int) ∣ w
        ∧ 2 * |10 * w - (average filter - z.zb)| ≤ 10 * (d.e : Int)
        ∧ (t.stable = true ↔ e.params.hold ≤ t.hold) ∧ (t.hold = 0 ∨ t.hold = min 64 (e.hold + 1))
        ∧ t.live = liveState d.e d.max w (d.positions.any (fun p => (e.samples[p]).overrange))
            (d.positions.any (fun p => (e.samples[p]).underrange)) true t.stable
        ∧ (t.occupied = true ↔ ((e.params.threshold * d.e : Nat) : Int) ≤ w) ∧ t.invalidRun = 0 ∧ t.zero = some z
        ∧ (t.live = .stable → w = 0 → t.zeroReturn = true))
    ∧ (∀ (s : State) (b : BridgeId), sampleValid s b = false →
      let e := s.engine[b]
      let t := (bridgeSample b s).engine[b]
      t.live = .invalid ∧ t.hold = 0 ∧ t.stable = false ∧ t.occupied = true ∧ t.zero = e.zero
        ∧ (e.invalidRun < 2 → t.invalidRun = e.invalidRun + 1 ∧ t.w = e.w ∧ t.wAvg = e.wAvg ∧ t.filter = e.filter
            ∧ t.motion = e.motion)
        ∧ (2 ≤ e.invalidRun → t.invalidRun = 0 ∧ t.w = none ∧ t.wAvg = none ∧ t.filter = [] ∧ t.motion = []))

/-- A first capture accepted, a second capture that completes the visit, and one that fails the tare test (R140, R145, R156, R159, R160, R161, R163, R164). A first capture with the trade mark and a row in the active bank fixes that bank, leaves the visit ON_SITE with its first weight and one claim fewer, queues FIRST_WEIGHT and returns RELEASE. A second capture with the trade mark, within the tare tolerance and with a net of at least 0 stores the charge, posts it with saturation, leaves the visit WEIGHED_OUT or, once its ticket is taken, TICKETING, queues SECOND_WEIGHT and returns TICKET. One that fails the tare test leaves the visit HELD with TARE_MISMATCH and the capture as its held weight. -/
def Obligations.CapturesAreWeighedIn : Prop :=
  (∀ (s : State) (v : Visit) (w : WeightRecord) (row : TariffRow), findVisit s v.number = some v → v.state = .admitted →
      v.bank = none → w.trade = true → rowIn s s.tables.active v.material = some row → 1 ≤ s.port.claims →
      ∃ t x, captureVisit v.number w s = (t, some .release) ∧ findVisit t v.number = some x ∧ x.state = .onSite
        ∧ x.first = some w ∧ x.bank = some s.tables.active ∧ x.held = none ∧ x.hold = none ∧ x.claims = v.claims - 1
        ∧ x.overweight = (v.overweight || (row.kind == .delivery && overGross x.maxGross w.weight))
        ∧ (t.tables.banks[s.tables.active]).refs = (s.tables.banks[s.tables.active]).refs + 1
        ∧ t.port.claims = s.port.claims - 1
        ∧ ∃ r ∈ t.port.records, r.body = .firstWeight v.number v.vehicle w (some s.tables.active) x.overweight)
    ∧ (∀ (s : State) (v : Visit) (w w1 : WeightRecord) (row : TariffRow) (bank : BankId),
      findVisit s v.number = some v → v.state = .leaving → v.bank = some bank → rowIn s bank v.material = some row →
      v.first = some w1 → w.trade = true →
      ((∃ k, v.tare.value = some k ∧ tareTestFails s.visits.tolerance k (unladen row.kind w1.weight w.weight) = true) →
        ∃ t x, captureVisit v.number w s = (t, some (.hold .tareMismatch)) ∧ findVisit t v.number = some x
          ∧ x.state = .held ∧ x.hold = some (.tareMismatch, .leaving) ∧ x.held = some (.second, w) ∧ x.claims = v.claims)
      ∧ ((∀ k, v.tare.value = some k → tareTestFails s.visits.tolerance k (unladen row.kind w1.weight w.weight) = false) →
        0 ≤ netWeight row.kind v.tare w1.weight w.weight → 1 ≤ s.port.claims →
        let c := chargeFor row (netWeight row.kind v.tare w1.weight w.weight).toNat
        ∃ t x, captureVisit v.number w s = (t, some .ticket) ∧ findVisit t v.number = some x
          ∧ x.second = some w ∧ x.held = none ∧ x.charge = some c ∧ x.posted = (v.account != 0)
          ∧ (x.state = .weighedOut ∨ x.state = .ticketing) ∧ x.claims = v.claims - 1
          ∧ t.port.claims = s.port.claims - 1
          ∧ (∀ a, v.account ≠ 0 → findAccount s v.account = some a → ∃ a', findAccount t v.account = some a'
              ∧ a'.balance = min 2000000000 (a.balance + c.total) ∧ a'.reserved = a.reserved - v.reserve
              ∧ a'.visits = a.visits ∧ x.saturated = decide (2000000000 < a.balance + c.total))
          ∧ ∃ r ∈ t.port.records, r.body = .secondWeight v.number w v.tare (tareShown v.tare w1.weight w.weight) c
              (some bank) x.saturated x.overweight))

/-- Calibration requests need the enable line; CAL BEGIN opens a session and CAL ABORT puts the saved zero back (R23, R34, R36, R45). With the enable line deasserted each of the eight calibration requests of a session is answered LOCKED and changes nothing. CAL BEGIN with no cell count, for a bridge with a VALID record, in service, with no grant held, no session and a free slot, opens a session on the record's data with the zero saved, takes one claim and makes the bridge CALIBRATING. CAL ABORT answers a step in progress STATE, puts the saved zero and mark back, gives the claim back and closes the session. -/
def Obligations.CalibrationSessions : Prop :=
  (∀ (c : Instr) (code : Nat) (layout : List Field) (s : State) (tag : Byte) (vs : List (Option Value)),
      requestOf c = some (code, layout) → 5 ≤ code → code ≤ 12 → RequestAt s code layout tag vs → s.calEnable = false →
      Answers c s tag .locked [] (fresh s))
    ∧ (∀ (s : State) (tag : Byte) (b : BridgeId), RequestAt s 5 calBeginLayout tag [some (.num (b.val + 1)), none] →
      s.calEnable = true → s.cal.session = none → (s.engine[b]).outOfService = false → granted s b = false →
      (s.cal.store.records[b]).valid = true → 1 ≤ unclaimedFree s →
      ∃ t, Answers .calBegin s tag .done [] t
        ∧ t.cal.session = some {
            bridge := b, work := (s.cal.store.records[b]).content.data,
            corners := Vector.replicate 8 none, savedZero := (s.engine[b]).zero, savedReturn := (s.engine[b]).zeroReturn,
            step := none, commit := none }
        ∧ t.port.claims = s.port.claims + 1 ∧ (t.engine[b]).status = .calibrating ∧ (t.engine[b]).zero = (s.engine[b]).zero)
    ∧ (∀ (s : State) (tag : Byte) (x : Session), RequestAt s 12 calAbortLayout tag [some (.num (x.bridge.val + 1))] →
      s.calEnable = true → s.cal.session = some x → x.commit = none →
      ∃ t, Answers .calAbort s tag .done [] t ∧ t.cal.session = none ∧ (t.engine[x.bridge]).zero = x.savedZero
        ∧ (t.engine[x.bridge]).zeroReturn = x.savedReturn ∧ t.port.claims = s.port.claims - 1
        ∧ (∀ run, x.step = some run → s.port.up = true → .answer run.tag (u8 Result.state.code) ∈ outgoing t.port))

/-- CAL ZERO, CAL SPAN and CAL CORNER are taken without an answer, and end at a stable reading (R37, R38, R39, R40, R42). With a session open on the bridge, no step in progress and no commit taken, a step in range is taken with 60 s to run and its frame leaves the buffer with no answer. At a reading CAL ZERO sets Z_cal, Z_b and Z_init to W_avg, sets the zero-return mark, discards the corner readings and is answered DONE; CAL CORNER records W_avg less Z_cal; CAL SPAN sets the gain G x m x 10 / D rounded when it lies in range and rescales Z_cal, and an established zero with it, which stays only while it keeps both bounds of R17 (the zero bound test of R42); it is answered RANGE with nothing changed when D is 0 or less or the gain lies outside 65,536 to 67,108,863. -/
def Obligations.CalibrationStepsAreTakenAndRead : Prop :=
  (∀ (s : State) (tag : Byte) (b : BridgeId) (x : Session), s.calEnable = true → sessionOf s b = some x →
      x.step = none → x.commit = none →
      let taken := fun k : CalStep => popRequest (modSession (fun y => { y with
        step := some { step := k, tag := tag, timer := 60000 } }) (fresh s))
      (RequestAt s 6 calZeroLayout tag [some (.num (b.val + 1))] → exec .calZero s = .next (taken .zero))
      ∧ (∀ mass : Nat, 1 ≤ mass → mass ≤ 150000 →
          RequestAt s 7 calSpanLayout tag [some (.num (b.val + 1)), some (.int mass)] →
          exec .calSpan s = .next (taken (.span mass)))
      ∧ (∀ k : CellPos, k.val < x.work.n → RequestAt s 8 calCornerLayout tag [some (.num (b.val + 1)), some (.num (k.val + 1))] →
          exec .calCorner s = .next (taken (.corner k))))
    ∧ (∀ (s : State) (b : BridgeId) (x : Session) (run : StepRun) (w : Int), s.cal.session = some x → x.bridge = b →
      x.step = some run →
      (run.step = .zero → ∃ t y, stepReading b w s = t ∧ t.cal.session = some y ∧ y.work = { x.work with zCal := w }
        ∧ y.corners = Vector.replicate 8 none ∧ y.step = none ∧ (t.engine[b]).zero = some { zb := w, zinit := w }
        ∧ (t.engine[b]).zeroReturn = true ∧ (t.engine[b]).zeroLimit = false
        ∧ (s.port.up = true → .answer run.tag (u8 Result.done.code) ∈ outgoing t.port))
      ∧ (∀ k : CellPos, run.step = .corner k → stepReading b w s = answer run.tag .done []
          (modSession (fun y => { y with corners := put y.corners k (some (w - x.work.zCal)), step := none }) s))
      ∧ (∀ (mass : Nat) (g : Int), run.step = .span mass → 0 < x.work.gain → 0 < w - x.work.zCal →
          g = roundDiv ((x.work.gain * mass * 10 : Nat) : Int) (w - x.work.zCal).toNat → 65536 ≤ g → g ≤ 67108863 →
          ∃ t y, stepReading b w s = t ∧ t.cal.session = some y
            ∧ y.work = { x.work with gain := g.toNat, zCal := roundDiv (x.work.zCal * g) x.work.gain }
            ∧ y.corners = Vector.replicate 8 none ∧ y.step = none
            ∧ ((s.engine[b]).zero = none → (t.engine[b]).zero = none)
            ∧ (∀ z, (s.engine[b]).zero = some z →
                let r : Zero := { zb := roundDiv (z.zb * g) x.work.gain, zinit := roundDiv (z.zinit * g) x.work.gain }
                let fits := |r.zinit - y.work.zCal| ≤ (x.work.max : Int) ∧ 5 * |r.zb - r.zinit| ≤ (x.work.max : Int)
                (fits → (t.engine[b]).zero = some r) ∧ (¬ fits → (t.engine[b]).zero = none))
            ∧ (s.port.up = true → .answer run.tag (u8 Result.done.code) ∈ outgoing t.port))
      ∧ (∀ (mass : Nat) (g : Int), run.step = .span mass → 0 < w - x.work.zCal →
          g = roundDiv ((x.work.gain * mass * 10 : Nat) : Int) (w - x.work.zCal).toNat → (g < 65536 ∨ 67108863 < g) →
          stepReading b w s = answer run.tag .range [] (modSession (fun y => { y with step := none }) s))
      ∧ (∀ mass : Nat, run.step = .span mass → w - x.work.zCal ≤ 0 → stepReading b w s
          = answer run.tag .range [] (modSession (fun y => { y with step := none }) s)))

/-- CAL TRIM, CAL SET LIMITS and CAL COMMIT (R33, R41, R42, R43). With a session open and free on the bridge: CAL TRIM with a positive reading of every position sets each trim to s x mean / reading, rounded, when all lie in range, and discards the readings; CAL SET LIMITS sets e and Max when they are a division and a capacity a record may hold, and an established zero stays only while it keeps both bounds of R17 against them; CAL COMMIT with every position FILLED and an audit value left builds the record with the bound serials, the time and the next audit value, and asks for its write, without an answer. -/
def Obligations.CalibrationWorkingCopy : Prop :=
  ∀ (s : State) (tag : Byte) (b : BridgeId) (x : Session), s.calEnable = true → s.cal.session = some x → x.bridge = b →
    x.step = none → x.commit = none →
    (∀ r : CellPos → Int, RequestAt s 9 calTrimLayout tag [some (.num (b.val + 1))] →
      (∀ p ∈ x.work.positions, x.corners[p] = some (r p) ∧ 0 < r p) →
      let mean := roundDiv ((x.work.positions.map r).foldl (· + ·) 0) x.work.n
      let trim := fun p : CellPos => roundDiv (((x.work.cells[p]).s : Int) * mean) (r p).toNat
      (∀ p ∈ x.work.positions, 32768 ≤ trim p ∧ trim p ≤ 131071) →
      ∃ cells, Answers .calTrim s tag .done [] (modSession (fun y => { y with
          work := { y.work with cells := cells }, corners := Vector.replicate 8 none }) (fresh s))
        ∧ (∀ p ∈ x.work.positions, cells[p] = { x.work.cells[p] with s := (trim p).toNat })
        ∧ (∀ p ∉ x.work.positions, cells[p] = x.work.cells[p]))
    ∧ (∀ (e : Nat) (max : Int), RequestAt s 10 calSetLimitsLayout tag
        [some (.num (b.val + 1)), some (.num e), some (.int max)] → limitsValid e max = true →
      ∃ t y, Answers .calSetLimits s tag .done [] t ∧ t.cal.session = some y
        ∧ y = { x with work := { x.work with e := e, max := max.toNat } } ∧ t.cal.store = s.cal.store
        ∧ ((s.engine[b]).zero = none → (t.engine[b]).zero = none)
        ∧ (∀ z, (s.engine[b]).zero = some z →
            let fits := |z.zinit - x.work.zCal| ≤ max ∧ 5 * |z.zb - z.zinit| ≤ max
            (fits → (t.engine[b]).zero = some z) ∧ (¬ fits → (t.engine[b]).zero = none)))
    ∧ (RequestAt s 11 calCommitLayout tag [some (.num (b.val + 1))] →
      (∀ p ∈ x.work.positions, filled s (.cell b p) = true) → nextAudit s ≤ 65535 → s.cal.store.inFlight = none →
      let work := withSerials s b x.work
      exec .calCommit s = .next (popRequest
        (modStore (fun st => { st with
            inFlight := some (.record b { data := work, commitTime := stamp s, audit := nextAudit s }) })
          (modSession (fun y => { y with work := work, commit := some tag }) (fresh s)))))

/-- SET SCAN PERIOD, ENUMERATE, RESET NODE and RELEASE NODE (notes/assumptions/18.md) (R72, R75, R76, R77, R78). SET SCAN PERIOD sets the period clamped to 10 to 100 ms and answers DONE or DONE_CLAMPED. ENUMERATE ends a hold-off and starts a round, or joins the one running. RESET NODE of level 1 or 2 for an ACTIVE or SILENT entry with room in the queue puts the NODE RESET at the tail; for a FREE or LOST entry it is refused STATE and with 16 commands queued BUSY. RELEASE NODE makes a LOST entry FREE, records the change and ends a hold-off; for another entry it is refused STATE. That the FREE entry keeps its descriptor, misses and attention field until an ASSIGN sets them is the model's reading, notes/assumptions/18.md. -/
def Obligations.BusRequests : Prop :=
  (∀ (s : State) (tag : Byte) (n : Nat), RequestAt s 14 setScanPeriodLayout tag [some (.num n)] →
      Answers .setScanPeriod s tag (if 10 ≤ n ∧ n ≤ 100 then .done else .doneClamped) []
        (modScan (fun x => { x with period := min 100 (max 10 n) }) (fresh s)))
    ∧ (∀ (s : State) (tag : Byte), RequestAt s 15 enumerateLayout tag [] →
      Answers .enumerate s tag .done [] (modEnum (fun e =>
        { e with running := true, gaveZero := e.running && e.gaveZero, failed := if e.running then e.failed else [],
                 holdOff := none, joinPending := false }) (fresh s)))
    ∧ (∀ (s : State) (tag : Byte) (a : NodeId) (k : Nat),
      RequestAt s 16 resetNodeLayout tag [some (.num (a.val + 1)), some (.num k)] →
      (k ≠ 1 ∧ k ≠ 2 → Answers .resetNode s tag .range [] (fresh s))
      ∧ (k = 1 ∨ k = 2 → (s.bus.nodes[a]).state = .free ∨ (s.bus.nodes[a]).state = .lost →
          Answers .resetNode s tag .state [] (fresh s))
      ∧ (k = 1 ∨ k = 2 → (s.bus.nodes[a]).state = .active ∨ (s.bus.nodes[a]).state = .silent →
          1 ≤ ((s.bus.nodes[a]).desc.map (·.maxPayload)).getD 32 →
          (16 ≤ s.bus.queue.length → Answers .resetNode s tag .busy [] (fresh s))
          ∧ (s.bus.queue.length < 16 → Answers .resetNode s tag .done [] (modBus (fun x => { x with queue := x.queue
              ++ [{ node := a, frame := .nodeReset k, origin := .office, sent := false }] }) (fresh s)))))
    ∧ (∀ (s : State) (tag : Byte) (a : NodeId), RequestAt s 17 releaseNodeLayout tag [some (.num (a.val + 1))] →
      ((s.bus.nodes[a]).state ≠ .lost → Answers .releaseNode s tag .state [] (fresh s))
      ∧ ((s.bus.nodes[a]).state = .lost → ∃ t, Answers .releaseNode s tag .done [] t
          ∧ t.bus.nodes[a] = { s.bus.nodes[a] with state := .free }
          ∧ (t.plan.nodes[a]).binding = none ∧ t.bus.enum.holdOff = none ∧ t.bus.enum.joinPending = false
          ∧ (1 ≤ unclaimedFree s → ∃ r ∈ t.port.records, r.body = .nodeState a (s.bus.nodes[a]).serialNow
              (s.bus.nodes[a]).kindNow .lost .free (.change (s.bus.nodes[a]).errors))))

/-- PUT PLAN ENTRY and DROP PLAN ENTRY: the entry, the binding and the fill (R83, R84, R88, R91, R92). PUT PLAN ENTRY for an entry not yet valid, with a serial and an attachment no entry holds, of the kind its form asks, writes the entry; when no node holds the serial nothing else changes; when an ACTIVE node of that kind holds it and the attachment is not in use, the node is BOUND to the entry and the attachment FILLED by it. A serial another entry holds is refused STATE. DROP PLAN ENTRY of an entry whose serial no node holds takes the entry out and changes nothing else; an entry not valid is NOT_FOUND. -/
def Obligations.PlanEntries : Prop :=
  (∀ (s : State) (tag : Byte) (p : PlanId) (x : Serial) (place : Attach),
      RequestAt s 20 putPlanEntryLayout tag
        [some (.num (p.val + 1)), some (.serial x), some (.num place.kind.code), some (.role place)] →
      x ≠ 0 → x ≠ Serial.none →
      (∀ q : PlanId, q ≠ p → planOfSerial s x = some q → Answers .putPlanEntry s tag .state [] (fresh s))
      ∧ (s.plan.entries[p] = none → planOfSerial s x = none → planOfAttach s place = none →
        let entries := put s.plan.entries p (some { serial := x, attach := place })
        (nodeHolding s x = none → (inUse s place = false ∨ serialNow s place = none) →
          Answers .putPlanEntry s tag .done [] { fresh s with plan := { s.plan with entries := entries } })
        ∧ (∀ (a : NodeId) (d : NodeDesc), nodeHolding s x = some a → (s.bus.nodes[a]).state = .active →
            (s.bus.nodes[a]).desc = some d → d.kind = place.kind → inUse s place = false →
            ∃ t, Answers .putPlanEntry s tag .done [] t ∧ t.plan.entries = entries
              ∧ (t.plan.nodes[a]).binding = some (.bound p)
              ∧ roleOf t place = { fill := .filled, node := some (a, x) })))
    ∧ (∀ (s : State) (tag : Byte) (p : PlanId), RequestAt s 21 dropPlanEntryLayout tag [some (.num (p.val + 1))] →
      (s.plan.entries[p] = none → Answers .dropPlanEntry s tag .notFound [] (fresh s))
      ∧ (∀ e, s.plan.entries[p] = some e → nodeHolding s e.serial = none → Answers .dropPlanEntry s tag .done []
          { fresh s with plan := { s.plan with entries := put s.plan.entries p none } }))

/-- PUT LANE, OPEN LANE, CLOSE LANE and HOLD LANE (notes/assumptions/5.md) (R95, R113, R118, R119, R120, R121). PUT LANE of a CLOSED lane not open writes its configuration, each time at the nearer end of its range and each field left out at its default, DONE when none was clamped; that a field left out takes R95's default is the model's choice, notes/assumptions/5.md; a lane not CLOSED is refused STATE. OPEN LANE sets the open flag of a configured lane, and a CLOSED lane then admittable, with no arm FAULT, enters IDLE; one not configured is refused STATE. CLOSE LANE clears the flag, an IDLE or ASKING lane enters CLOSED and a lane in another state stays. HOLD LANE holds a lane in ASKING to RELEASING with OFFICE to resume the state it was in; another lane is refused STATE. -/
def Obligations.LaneSettings : Prop :=
  (∀ (s : State) (tag : Byte) (l : LaneId) (b : BridgeId) (dir fn : Nat) (flag : Option Bool)
        (entry ask stability clearance motion print : Option Nat),
      RequestAt s 23 putLaneLayout tag [some (.num (l.val + 1)), some (.num (b.val + 1)), some (.num dir), some (.num fn),
        flag.map .flag, entry.map .num, ask.map .num, stability.map .num, clearance.map .num, motion.map .num,
        print.map .num] →
      ((s.seq.lanes[l]).state ≠ .closed → Answers .putLane s tag .state [] (fresh s))
      ∧ ((s.seq.lanes[l]).state = .closed → (s.seq.lanes[l]).isOpen = false →
        ∃ r, (r = .done ∨ r = .doneClamped)
          ∧ (r = .done ↔ (∀ n ∈ entry, 10 ≤ n ∧ n ≤ 600) ∧ (∀ n ∈ ask, 10 ≤ n ∧ n ≤ 300)
              ∧ (∀ n ∈ stability, 5 ≤ n ∧ n ≤ 120) ∧ (∀ n ∈ clearance, 10 ≤ n ∧ n ≤ 600)
              ∧ (∀ n ∈ motion, 2 ≤ n ∧ n ≤ 30) ∧ (∀ n ∈ print, 5 ≤ n ∧ n ≤ 120))
          ∧ Answers .putLane s tag r [] (modLane l (fun x => { x with config := some {
                bridge := b, direction := if dir = 1 then .aToB else .bToA,
                function := if fn = 1 then .inbound else .outbound, releaseOnFailure := flag.getD false,
                entryTime := clamp 10 600 (entry.getD 90), askTime := clamp 10 300 (ask.getD 60),
                stabilityTime := clamp 5 120 (stability.getD 30), clearanceTime := clamp 10 600 (clearance.getD 60),
                motionTime := clamp 2 30 (motion.getD 8), printTime := clamp 5 120 (print.getD 20) } }) (fresh s))))
    ∧ (∀ (s : State) (tag : Byte) (l : LaneId), RequestAt s 24 openLaneLayout tag [some (.num (l.val + 1))] →
      ((s.seq.lanes[l]).config = none → Answers .openLane s tag .state [] (fresh s))
      ∧ (∀ c, (s.seq.lanes[l]).config = some c →
        ((s.seq.lanes[l]).state ≠ .closed ∨ (s.engine[c.bridge]).status ≠ .ready →
          Answers .openLane s tag .done [] (modLane l (fun x => { x with isOpen := true }) (fresh s)))
        ∧ ((s.seq.lanes[l]).state = .closed → (s.engine[c.bridge]).status = .ready → ArmsSound s l →
          ∃ t, Answers .openLane s tag .done [] t ∧ (t.seq.lanes[l]).state = .idle ∧ (t.seq.lanes[l]).isOpen = true)))
    ∧ (∀ (s : State) (tag : Byte) (l : LaneId), RequestAt s 25 closeLaneLayout tag [some (.num (l.val + 1))] →
      ((s.seq.lanes[l]).state ≠ .idle → (s.seq.lanes[l]).state ≠ .asking →
        Answers .closeLane s tag .done [] (modLane l (fun x => { x with isOpen := false }) (fresh s)))
      ∧ ((s.seq.lanes[l]).state = .idle ∨ (s.seq.lanes[l]).state = .asking →
        ∃ t, Answers .closeLane s tag .done [] t ∧ (t.seq.lanes[l]).state = .closed ∧ (t.seq.lanes[l]).isOpen = false
          ∧ ((s.seq.lanes[l]).state = .asking → (t.seq.lanes[l]).asking = none)))
    ∧ (∀ (s : State) (tag : Byte) (l : LaneId), RequestAt s 26 holdLaneLayout tag [some (.num (l.val + 1))] →
      ((s.seq.lanes[l]).state ∈ [LaneState.closed, .idle, .held, .fault] → Answers .holdLane s tag .state [] (fresh s))
      ∧ ((s.seq.lanes[l]).state ∈ [LaneState.asking, .waitBridge, .entering, .weighing, .ticketing, .releasing] →
        ∃ t, Answers .holdLane s tag .done [] t ∧ (t.seq.lanes[l]).state = .held
          ∧ (t.seq.lanes[l]).hold = some (.office, (s.seq.lanes[l]).state) ∧ (t.seq.lanes[l]).timer = none
          ∧ (t.seq.lanes[l]).visit = (s.seq.lanes[l]).visit))

/-- RELEASE LANE and BARRIER OVERRIDE (notes/assumptions/10.md) (R110, R116, R117, R122, R123). RELEASE LANE is refused STATE while the yard stop line is asserted; RESUME takes a lane HELD with OFFICE and no visit, to resume RELEASING, into RELEASING, and LET_OFF takes a HELD lane with no visit and no grant to rest. BARRIER OVERRIDE of a station whose fill is not FILLED, with its drive-off mark set or its arm OFF is refused STATE; with an arm command outstanding, or for LOWER with the loop image not CLEAR, it sets the wanted arm and is DONE, that answer to a LOWER that waits being the model's choice, 10.md; otherwise, with room in the queue, it puts RAISE or LOWER at the tail, outstanding and wanted; with the queue full it is BUSY. The other offers of R110 then follow, behind the override's own (the model's order, notes/assumptions/10.md); with the line deasserted, the drive ON and the signal as wanted there are none. -/
def Obligations.LaneReleaseAndOverride : Prop :=
  (∀ (s : State) (tag : Byte) (l : LaneId) (k : Nat), k = 1 ∨ k = 2 →
      RequestAt s 27 releaseLaneLayout tag [some (.num (l.val + 1)), some (.num k)] →
      (s.yardStop = true → Answers .releaseLane s tag .state [] (fresh s))
      ∧ (s.yardStop = false → (s.seq.lanes[l]).state = .held → (s.seq.lanes[l]).visit = none → ArmsSound s l →
        (k = 1 → (s.seq.lanes[l]).hold = some (.office, .releasing) → StationsActive s l →
          ∃ t, Answers .releaseLane s tag .done [] t ∧ (t.seq.lanes[l]).state = .releasing ∧ (t.seq.lanes[l]).hold = none
            ∧ (t.seq.lanes[l]).exit.wantArm = .up)
        ∧ (k = 2 → holdsGrant s l = false →
          ∃ t, Answers .releaseLane s tag .done [] t ∧ (t.seq.lanes[l]).state = restState s l ∧ (t.seq.lanes[l]).hold = none
            ∧ (t.seq.lanes[l]).reweigh = false ∧ (t.seq.lanes[l]).outcome = none)))
    ∧ (∀ (s : State) (tag : Byte) (l : LaneId) (e : LaneEnd) (k : Nat) (c : ArmCommand) (want : WantedArm),
      (k = 1 ∧ c = .raise ∧ want = .up) ∨ (k = 2 ∧ c = .lower ∧ want = .down) →
      RequestAt s 28 barrierOverrideLayout tag [some (.num (l.val + 1)), some (.num (laneEndCode e)), some (.num k)] →
      (filledNode s (.station l e) = none ∨ ((s.seq.lanes[l]).station e).driveOffMark = true
          ∨ ((s.seq.lanes[l]).station e).arm = .off → Answers .barrierOverride s tag .state [] (fresh s))
      ∧ (∀ a, filledNode s (.station l e) = some a → ((s.seq.lanes[l]).station e).driveOffMark = false →
        ((s.seq.lanes[l]).station e).arm ≠ .off →
        let calm := s.yardStop = false ∧ ((s.seq.lanes[l]).station e).drive = .on
          ∧ ((s.seq.lanes[l]).station e).signal = some ((s.seq.lanes[l]).station e).wantSignal
        let set := modStation l e (fun x => { x with wantArm := want }) (fresh s)
        (((s.seq.lanes[l]).station e).outArm ≠ none
            ∨ (c = .lower ∧ ((s.seq.lanes[l]).station e).loop ≠ .clear) → Answers .barrierOverride s tag .done [] (stationOffers l e set)
          ∧ (calm → stationOffers l e set = set))
        ∧ (((s.seq.lanes[l]).station e).outArm = none → c = .raise ∨ ((s.seq.lanes[l]).station e).loop = .clear →
          (s.bus.nodes[a]).state = .active →
          (16 ≤ s.bus.queue.length → Answers .barrierOverride s tag .busy [] (fresh s))
          ∧ (s.bus.queue.length < 16 →
            let sent := modStation l e (fun x => { x with outArm := some c, wantArm := want })
              (modBus (fun x => { x with queue := x.queue
                ++ [{ node := a, frame := .arm c, origin := .station l e, sent := false }] }) (fresh s))
            Answers .barrierOverride s tag .done [] (stationOffers l e sent) ∧ (calm → stationOffers l e sent = sent)))))

/-- PUT and DROP VEHICLE, PUT and DROP ACCOUNT, SET BALANCE: what a later lookup finds (R130, R132, R133, R136, R137, R138, R142). PUT VEHICLE with fields in range and the id held or room in the table writes the entry whole, so that a lookup of the id returns it and a lookup of any other id returns what it did; with 1,024 entries and a new id it is FULL. DROP VEHICLE takes the entry out. PUT ACCOUNT writes kind, limit, reserve and held flag and keeps balance, reserved total and visit count, 0 for a new account. DROP ACCOUNT is refused STATE while visits are counted. SET BALANCE is refused MISMATCH with the balance that stands, and otherwise sets it. The over-limit flag follows the balance. -/
def Obligations.VehicleAndAccountRequests : Prop :=
  (∀ (s : State) (tag : Byte) (id : Text) (account : Nat) (tare gross : Option Int) (expiry material : Option Nat)
        (permit attendance : Bool),
      RequestAt s 31 putVehicleLayout tag [some (.text id), some (.num account), tare.map .int, expiry.map .num,
        gross.map .int, material.map .num, some (.flag permit), some (.flag attendance)] →
      (vehicleInRange id account tare expiry gross material = false → Answers .putVehicle s tag .range [] (fresh s))
      ∧ (vehicleInRange id account tare expiry gross material = true →
        (findVehicle s id = none → 1024 ≤ s.tables.vehicles.length → Answers .putVehicle s tag .full [] (fresh s))
        ∧ (findVehicle s id ≠ none ∨ s.tables.vehicles.length < 1024 → ∃ t, Answers .putVehicle s tag .done [] t
            ∧ t = { fresh s with tables := { s.tables with vehicles := t.tables.vehicles } }
            ∧ findVehicle t id = some {
                id := id, account := account, tare := tare.map Int.toNat, expiry := expiry,
                maxGross := gross.map Int.toNat, material := material, permit := permit, attendance := attendance }
            ∧ ∀ k : Text, k ≠ id → findVehicle t k = findVehicle s k)))
    ∧ (∀ (s : State) (tag : Byte) (id : Text), RequestAt s 32 dropVehicleLayout tag [some (.text id)] →
      (findVehicle s id = none → Answers .dropVehicle s tag .notFound [] (fresh s))
      ∧ (findVehicle s id ≠ none → ∃ t, Answers .dropVehicle s tag .done [] t
          ∧ t = { fresh s with tables := { s.tables with vehicles := t.tables.vehicles } } ∧ findVehicle t id = none
          ∧ ∀ k : Text, k ≠ id → findVehicle t k = findVehicle s k))
    ∧ (∀ (s : State) (tag : Byte) (n kind : Nat) (limit reserve : Int) (held : Bool),
      RequestAt s 35 putAccountLayout tag
        [some (.num n), some (.num kind), some (.int limit), some (.int reserve), some (.flag held)] →
      accountInRange n (accountKindOf kind) limit reserve = true →
      (findAccount s n = none → 256 ≤ s.tables.accounts.length → Answers .putAccount s tag .full [] (fresh s))
      ∧ (findAccount s n ≠ none ∨ s.tables.accounts.length < 256 → ∃ t x, Answers .putAccount s tag .done [] t
          ∧ findAccount t n = some x ∧ x.kind = accountKindOf kind ∧ x.limit = limit.toNat ∧ x.reserve = reserve.toNat
          ∧ x.isHeld = held ∧ (x.overLimit = true ↔ x.kind ≠ .council ∧ (x.limit : Int) < x.balance)
          ∧ (∀ y, findAccount s n = some y → x.balance = y.balance ∧ x.reserved = y.reserved ∧ x.visits = y.visits)
          ∧ (findAccount s n = none → x.balance = 0 ∧ x.reserved = 0 ∧ x.visits = 0)
          ∧ (∀ k : Nat, k ≠ n → findAccount t k = findAccount s k)))
    ∧ (∀ (s : State) (tag : Byte) (n : Nat) (x : Account), RequestAt s 36 dropAccountLayout tag [some (.num n)] →
      1 ≤ n → n ≤ 999999 → findAccount s n = some x →
      (0 < x.visits → Answers .dropAccount s tag .state [] (fresh s))
      ∧ (x.visits = 0 → ∃ t, Answers .dropAccount s tag .done [] t
          ∧ t = { fresh s with tables := { s.tables with accounts := t.tables.accounts } } ∧ findAccount t n = none
          ∧ ∀ k : Nat, k ≠ n → findAccount t k = findAccount s k))
    ∧ (∀ (s : State) (tag : Byte) (n : Nat) (expected new : Int) (x : Account),
      RequestAt s 37 setBalanceLayout tag [some (.num n), some (.int expected), some (.int new)] →
      1 ≤ n → n ≤ 999999 → -2000000000 ≤ expected → expected ≤ 2000000000 → -2000000000 ≤ new → new ≤ 2000000000 →
      findAccount s n = some x →
      (x.balance ≠ expected → Answers .setBalance s tag .mismatch (money8 x.balance) (fresh s))
      ∧ (x.balance = expected → ∃ t, Answers .setBalance s tag .done (money8 new) t
          ∧ findAccount t n = some { x with
              balance := new, overLimit := x.kind != .council && decide ((x.limit : Int) < new) }))

/-- PUT TARIFF ROW and DROP TARIFF ROW: every check in order, and what they write (R146, R147). PUT TARIFF ROW is answered RANGE for a bank other than 0 or 1, a code outside 1 to 255, a kind other than the two, a rate above 99,999 or a minimum outside 0 to 999,999; LOCKED for a bank that is active or referenced; FULL for a new code with 64 rows; otherwise the row for the code is the one given, every other row and the other bank stand, the rows stay in order of code, and the answer is DONE. DROP TARIFF ROW is answered RANGE, LOCKED or NOT_FOUND; otherwise the row leaves the bank, and the answer is DONE. -/
def Obligations.TariffRowRequests : Prop :=
  (∀ (s : State) (tag : Byte) (body : Bytes) (cut : List (Option Bytes)) (k : Byte), HeadIs s 40 tag body →
      cutFields putTariffRowLayout body = some cut → cut[2]? = some (some [k]) → k ≠ 1 → k ≠ 2 →
      Answers .putTariffRow s tag .range [] (fresh s))
    ∧ (∀ (s : State) (tag : Byte) (bank m kind gate levy : Nat) (minimum : Int) (restricted : Bool), kind = 1 ∨ kind = 2 →
      RequestAt s 40 putTariffRowLayout tag [some (.num bank), some (.num m), some (.num kind), some (.num gate),
        some (.num levy), some (.int minimum), some (.flag restricted)] →
      (1 < bank ∨ m < 1 ∨ 255 < m ∨ 99999 < gate ∨ 99999 < levy ∨ minimum < 0 ∨ 999999 < minimum →
        Answers .putTariffRow s tag .range [] (fresh s))
      ∧ (∀ b : BankId, bank = b.val → 1 ≤ m → m ≤ 255 → gate ≤ 99999 → levy ≤ 99999 → 0 ≤ minimum → minimum ≤ 999999 →
        (s.tables.active = b ∨ 0 < (s.tables.banks[b]).refs → Answers .putTariffRow s tag .locked [] (fresh s))
        ∧ (s.tables.active ≠ b → (s.tables.banks[b]).refs = 0 →
          (rowIn s b m = none → 64 ≤ (s.tables.banks[b]).rows.length → Answers .putTariffRow s tag .full [] (fresh s))
          ∧ (rowIn s b m ≠ none ∨ (s.tables.banks[b]).rows.length < 64 → ∃ t, Answers .putTariffRow s tag .done [] t
              ∧ t = modTables (fun x => { x with
                  banks := put x.banks b { (x.banks[b]) with rows := (t.tables.banks[b]).rows } }) (fresh s)
              ∧ rowIn t b m = some {
                  material := m, kind := if kind = 1 then .delivery else .collection, gate := gate,
                  levy := levy, minimum := minimum.toNat, restricted := restricted }
              ∧ (∀ k : Nat, k ≠ m → rowIn t b k = rowIn s b k)
              ∧ ((s.tables.banks[b]).rows.Pairwise (fun x y => x.material < y.material) →
                  (t.tables.banks[b]).rows.Pairwise (fun x y => x.material < y.material))))))
    ∧ (∀ (s : State) (tag : Byte) (bank m : Nat),
      RequestAt s 41 dropTariffRowLayout tag [some (.num bank), some (.num m)] →
      (1 < bank ∨ m < 1 ∨ 255 < m → Answers .dropTariffRow s tag .range [] (fresh s))
      ∧ (∀ b : BankId, bank = b.val → 1 ≤ m → m ≤ 255 →
        (s.tables.active = b ∨ 0 < (s.tables.banks[b]).refs → Answers .dropTariffRow s tag .locked [] (fresh s))
        ∧ (s.tables.active ≠ b → (s.tables.banks[b]).refs = 0 →
          (rowIn s b m = none → Answers .dropTariffRow s tag .notFound [] (fresh s))
          ∧ (rowIn s b m ≠ none → ∃ t, Answers .dropTariffRow s tag .done [] t
              ∧ t = modTables (fun x => { x with
                  banks := put x.banks b { (x.banks[b]) with rows := (t.tables.banks[b]).rows } }) (fresh s)
              ∧ rowIn t b m = none ∧ (∀ k : Nat, k ≠ m → rowIn t b k = rowIn s b k)))))

/-- OPEN VISIT, RESTORE VISIT and SET TARE TOLERANCE (notes/assumptions/5.md, 30.md) (R152, R155, R157, R174, R175). OPEN VISIT that passes every check opens an ADMITTED visit of account 0 with no lane, three claims left of four and VISIT_OPENED queued, changes no table, and answers its number; an id with an open visit and a material with no row in the active bank are refused with their reasons. RESTORE VISIT of an ON_SITE visit with its bank and first weight that passes every check writes the visit with two claims left, references the bank and reserves against the account; a tare value given with TWO_PASS unused is the model's choice, 5.md. A reserve outside 0 to 100,000,000 cents, or not 0 for account 0, is RANGE with nothing changed, and so is one not 0 for a COUNCIL account, which the model reads from R139 and R151, 30.md. SET TARE TOLERANCE sets 1 to 20 and is RANGE outside. -/
def Obligations.VisitsOpenedByTheOffice : Prop :=
  (∀ (s : State) (tag : Byte) (id : Text) (m source : Nat) (value : Option Int) (permit : Bool),
      RequestAt s 46 openVisitLayout tag
        [some (.text id), some (.num m), some (.num source), value.map .int, some (.flag permit)] →
      ∀ tare, tareOf source value = some tare → source ≠ 1 → validId id = true → 1 ≤ m →
      ((visitOf s id).isSome = true → Answers .openVisit s tag .state (u8 2) (fresh s))
      ∧ (visitOf s id = none → s.visits.table.length < 64 →
        (activeRow s m = none → Answers .openVisit s tag .notFound (u8 5) (fresh s))
        ∧ (∀ row, activeRow s m = some row → (row.restricted = true → permit = true) → 4 ≤ unclaimedFree s →
          ∃ t, Answers .openVisit s tag .done (u16 (assignVisitNumber s)) t ∧ t.tables = s.tables
            ∧ t.visits.next = nextVisitNumber (assignVisitNumber s) ∧ t.port.claims = s.port.claims + 3
            ∧ ∃ w ∈ t.visits.table, w.number = assignVisitNumber s ∧ w.vehicle = id ∧ w.account = 0 ∧ w.material = m
              ∧ w.tare = tare ∧ w.reserve = 0 ∧ w.state = .admitted ∧ w.claims = 3 ∧ w.lane = none
              ∧ w.officeOpened = true ∧ w.opened = stamp s
              ∧ ∃ r ∈ t.port.records, r.body = .visitOpened w.number id 0 m tare 0 none w.attendance (stamp s) false)))
    ∧ (∀ (s : State) (tag : Byte) (n account m source : Nat) (id : Text) (value gross : Option Int) (reserve : Int)
        (opened : Stamp) (byOffice attendance : Bool) (b : BankId) (w : WeightRecord) (tare : TareSource),
      RequestAt s 49 restoreVisitLayout tag [some (.num n), some (.text id), some (.num account), some (.num m),
        some (.num source), value.map .int, some (.int reserve), some (.num 2), some (.time opened),
        some (.flag byOffice), some (.flag attendance), some (.num b.val), some (.weightRecord w), gross.map .int] →
      1 ≤ n → validId id = true → account ≤ 999999 → 1 ≤ m → tareOf source value = some tare → 0 ≤ reserve →
      reserve ≤ 100000000 → (account = 0 → reserve = 0) →
      (∀ x, findAccount s account = some x → x.kind = .council → reserve = 0) → (∀ g ∈ gross, 1 ≤ g ∧ g ≤ 150000) →
      restoredWeightFits w = true → findVisit s n = none → visitOf s id = none → s.visits.table.length < 64 →
      (account ≠ 0 → (findAccount s account).isSome = true) → 4 ≤ unclaimedFree s →
      ∃ t, Answers .restoreVisit s tag .done [] t
        ∧ findVisit t n = some {
            number := n, vehicle := id, account := account, material := m, tare := tare,
            reserve := reserve.toNat, bank := some b, maxGross := gross.map Int.toNat, first := some w, second := none,
            held := none, inLane := none, outLane := none, lane := none, state := .onSite, hold := none, charge := none,
            posted := false, saturated := false, overweight := false, claims := 2, opened := opened,
            officeOpened := byOffice, attendance := attendance, restored := true }
        ∧ t.port.claims = s.port.claims + 2 ∧ t.visits.next = s.visits.next
        ∧ (t.tables.banks[b]).refs = (s.tables.banks[b]).refs + 1
        ∧ (∀ x, account ≠ 0 → findAccount s account = some x → findAccount t account
            = some { x with reserved := x.reserved + reserve.toNat, visits := x.visits + 1 }))
    ∧ (∀ (s : State) (tag : Byte) (n account m source st : Nat) (id : Text) (value gross : Option Int) (reserve : Int)
        (opened : Stamp) (byOffice attendance : Bool) (bank : Option Nat) (first : Option WeightRecord),
      RequestAt s 49 restoreVisitLayout tag [some (.num n), some (.text id), some (.num account), some (.num m),
        some (.num source), value.map .int, some (.int reserve), some (.num st), some (.time opened),
        some (.flag byOffice), some (.flag attendance), bank.map .num, first.map .weightRecord, gross.map .int] →
      (reserve < 0 ∨ 100000000 < reserve ∨ (account = 0 ∧ reserve ≠ 0)
        ∨ (∃ x, findAccount s account = some x ∧ x.kind = .council ∧ reserve ≠ 0)) →
      Answers .restoreVisit s tag .range [] (fresh s))
    ∧ (∀ (s : State) (tag : Byte) (n : Nat), RequestAt s 50 setTareToleranceLayout tag [some (.num n)] →
      (1 ≤ n ∧ n ≤ 20 → Answers .setTareTolerance s tag .done [] (modVisits (fun x => { x with tolerance := n }) (fresh s)))
      ∧ (n < 1 ∨ 20 < n → Answers .setTareTolerance s tag .range [] (fresh s)))

/-- VOID VISIT and the four actions of RESOLVE VISIT, for a visit no lane carries (notes/assumptions/5.md) (R197, R156, R163, R168, R169, R170, R171, R172, R173). VOID VISIT of a visit before WEIGHED_OUT that no lane carries takes it out of the table, gives its claims back but one spent on VISIT_VOID, and gives up its reserve and its bank. RESOLVE VISIT is refused STATE for a visit with no hold or an action its hold does not allow. ACCEPT of a second weight held NO_TARIFF whose net in the active bank's row is below 0 is refused STATE with nothing changed. ACCEPT of a first weight held NOT_FOR_TRADE leaves the visit ON_SITE with it; USE TARE of a second weight held TARE_MISMATCH completes the visit with the declared tare, or is RANGE with nothing changed for a net below 0; REWEIGH discards the held weight and returns the visit to its resume state; VOID takes the visit out. A tare value with an action other than USE TARE is not used, which is the model's choice, 5.md. -/
def Obligations.VisitsVoidedAndResolved : Prop :=
  (∀ (s : State) (tag : Byte) (v : Visit), RequestAt s 47 voidVisitLayout tag [some (.num v.number)] → 1 ≤ v.number →
      findVisit s v.number = some v → v.lane = none →
      (v.underlying.early = false → Answers .voidVisit s tag .state [] (fresh s))
      ∧ (v.underlying.early = true → 1 ≤ v.claims → v.claims ≤ s.port.claims →
        ∃ t, Answers .voidVisit s tag .done [] t ∧ findVisit t v.number = none ∧ t.port.claims = s.port.claims - v.claims
          ∧ (∃ r ∈ t.port.records, r.body = .visitVoid v.number v.vehicle v.account v.material .office v.underlying v.first
              (v.held.map (·.2)))
          ∧ (∀ x, v.account ≠ 0 → findAccount s v.account = some x → findAccount t v.account
              = some { x with reserved := x.reserved - v.reserve, visits := x.visits - 1 })
          ∧ (∀ b : BankId, v.bank = some b → (t.tables.banks[b]).refs = (s.tables.banks[b]).refs - 1)))
    ∧ (∀ (s : State) (tag : Byte) (v : Visit) (k : Nat) (value : Option Int) (act_ : VisitAction),
      RequestAt s 48 resolveVisitLayout tag [some (.num v.number), some (.num k), value.map .int] → 1 ≤ v.number →
      findVisit s v.number = some v → v.lane = none → actionOf k value = some act_ →
      (v.hold = none → Answers .resolveVisit s tag .state [] (fresh s))
      ∧ (∀ reason resume, v.hold = some (reason, resume) → allowed reason resume act_ = false →
          Answers .resolveVisit s tag .state [] (fresh s))
      ∧ (∀ slot w w1 row, v.hold = some (.noTariff, .leaving) → act_ = .accept → v.held = some (slot, w) →
          v.first = some w1 → activeRow s v.material = some row → netWeight row.kind v.tare w1.weight w.weight < 0 →
          Answers .resolveVisit s tag .state [] (fresh s))
      ∧ (∀ slot w row, v.hold = some (.notForTrade, .admitted) → act_ = .accept → v.held = some (slot, w) →
          visitRow s v = some row → 1 ≤ s.port.claims →
          ∃ t x, Answers .resolveVisit s tag .done [] t ∧ findVisit t v.number = some x ∧ x.state = .onSite
            ∧ x.first = some w ∧ x.held = none ∧ x.hold = none ∧ x.claims = v.claims - 1
            ∧ t.port.claims = s.port.claims - 1)
      ∧ (∀ slot w w1 row tare, v.hold = some (.tareMismatch, .leaving) → act_ = .useTare tare → v.held = some (slot, w) →
          v.first = some w1 → visitRow s v = some row →
          (netWeight row.kind (.declared tare) w1.weight w.weight < 0 → Answers .resolveVisit s tag .range [] (fresh s))
          ∧ (0 ≤ netWeight row.kind (.declared tare) w1.weight w.weight → 1 ≤ s.port.claims →
            ∃ t x, Answers .resolveVisit s tag .done [] t ∧ findVisit t v.number = some x ∧ x.second = some w
              ∧ x.tare = .declared tare ∧ x.held = none ∧ x.hold = none ∧ (x.state = .weighedOut ∨ x.state = .ticketing)
              ∧ x.charge = some (chargeFor row (netWeight row.kind (.declared tare) w1.weight w.weight).toNat)
              ∧ t.port.claims = s.port.claims - 1))
      ∧ (∀ reason resume, v.hold = some (reason, resume) → act_ = .reweigh → allowed reason resume .reweigh = true →
          Answers .resolveVisit s tag .done []
            (modVisit v.number (fun x => { x with held := none, state := x.underlying, hold := none }) (fresh s)))
      ∧ (∀ reason resume, v.hold = some (reason, resume) → act_ = .void → allowed reason resume .void = true →
          ∃ t, Answers .resolveVisit s tag .done [] t ∧ findVisit t v.number = none))

/-- SET TICKET NUMBER, REPRINT TICKET, SET TICKET HEADER and the start of a numbering (notes/assumptions/14.md) (R31, R180, R182, R189, R190). SET TICKET NUMBER is RANGE outside 1 to 99,999,999, STATE while the next ticket number is VALID or a write of this kind is asked, and otherwise asks for the write without an answer. REPRINT TICKET of a number a VISIT_CLOSED record carries puts a COPY with that record's content, WAITING, at the tail of the printer's queue; a printer EMPTY is STATE and a queue of 4 FULL. SET TICKET HEADER sets the line, absent for an empty text. A numbering reads the next ticket number k, and asks for the write of k plus 1, or 1 after 99,999,999: it begins with the store idle, and waits behind a write in flight. With a warm reset waiting it does not begin either, which is the model's reading, notes/assumptions/14.md. -/
def Obligations.TicketRequests : Prop :=
  (∀ (s : State) (tag : Byte) (n : Nat), RequestAt s 54 setTicketNumberLayout tag [some (.num n)] →
      (n < 1 ∨ 99999999 < n → Answers .setTicketNumber s tag .range [] (fresh s))
      ∧ (1 ≤ n → n ≤ 99999999 → s.cal.store.ticket.valid = true ∨ numberSetting s.cal.store = true →
          Answers .setTicketNumber s tag .state [] (fresh s))
      ∧ (1 ≤ n → n ≤ 99999999 → s.cal.store.ticket.valid = false → numberSetting s.cal.store = false →
          (s.cal.store.inFlight = none → exec .setTicketNumber s
            = .next (popRequest (modStore (fun st => { st with inFlight := some (.setTicket n tag) }) (fresh s))))
          ∧ (s.cal.store.inFlight ≠ none → exec .setTicketNumber s
            = .next (popRequest (modStore (fun st => { st with asked := st.asked ++ [.setTicket n tag] }) (fresh s))))))
    ∧ (∀ (s : State) (tag : Byte) (n : Nat) (l : LaneId) (c : ClosedVisit),
      RequestAt s 55 reprintTicketLayout tag [some (.num n), some (.num (l.val + 1))] → 1 ≤ n → n ≤ 99999999 →
      closedRecord s n = some c →
      ((roleOf s (.printer l)).fill = .empty → Answers .reprintTicket s tag .state [] (fresh s))
      ∧ ((roleOf s (.printer l)).fill ≠ .empty → 4 ≤ (s.tickets.printers[l]).queue.length →
          Answers .reprintTicket s tag .full [] (fresh s))
      ∧ ((roleOf s (.printer l)).fill = .degraded ∨ ((roleOf s (.printer l)).fill = .filled
            ∧ ∃ t rest, (s.tickets.printers[l]).queue = t :: rest ∧ t.stage ≠ .waiting) →
          (s.tickets.printers[l]).queue.length < 4 → Answers .reprintTicket s tag .done []
            (modPrinter l (fun p => { p with queue := p.queue ++ [{
              kind := .copy, number := some n, stage := .waiting, content := c.content, parts := [], pos := 0, jobTag := none }] }) (fresh s))))
    ∧ (∀ (s : State) (tag : Byte) (i : Fin 4) (text : Text),
      RequestAt s 56 setTicketHeaderLayout tag [some (.num (i.val + 1)), some (.text text)] →
      (64 < text.length → Answers .setTicketHeader s tag .range [] (fresh s))
      ∧ (text.length ≤ 64 → Answers .setTicketHeader s tag .done []
          (modTickets (fun x => { x with headers := put x.headers i (if text = [] then none else some text) }) (fresh s))))
    ∧ (∀ (s : State) (v : Nat) (l : LaneId) (rest : List (Nat × LaneId)), s.tickets.inFlight = none →
      s.tickets.numbering = (v, l) :: rest → s.cal.store.ticket.valid = true →
      let k := s.cal.store.ticket.content
      let t := startNumbering s
      t.tickets.inFlight = some (v, l, k) ∧ t.tickets.numbering = rest
        ∧ (s.port.resetAsked = none → s.cal.store.inFlight = none →
            t.cal.store.inFlight = some (.ticket (if k = 99999999 then 1 else k + 1))
            ∧ t.cal.store.asked = s.cal.store.asked)
        ∧ (s.port.resetAsked ≠ none ∨ s.cal.store.inFlight ≠ none → t.cal.store.inFlight = s.cal.store.inFlight
            ∧ t.cal.store.asked = s.cal.store.asked ++ [.ticket (if k = 99999999 then 1 else k + 1)])
        ∧ t.cal.store.ticket = s.cal.store.ticket
        ∧ (t.tickets.printers[l]).queue = (s.tickets.printers[l]).queue.map (fun x =>
            if x.kind = .original ∧ x.content.visit = v then { x with stage := .numbering } else x))

/-- SET SILENCE TIMEOUT, READ and RELEASE RECORDS, SUBSCRIBE LIVE, SEND TO NODE and RESTART (notes/assumptions/5.md) (R195, R203, R204, R205, R206, R210, R212). SET SILENCE TIMEOUT clamps to 5 to 300 s. READ RECORDS of 1 to 8 returns the longest run from the head within the count and the body, always the oldest, and removes none. RELEASE RECORDS removes from the head the records numbered at most n and answers how many went and stay. SUBSCRIBE LIVE replaces the subscription, with the interval clamped to 100 to 5,000 ms, or ends it for an empty set; that the interval may be absent there is the model's choice, notes/assumptions/5.md. SEND TO NODE puts a MESSAGE in the command queue and an entry in the list, or is refused by its first failing check. RESTART makes its answer ready; when that has been sent, or at once with the link DOWN, the warm reset follows, or is noted behind a store write in flight while the next frame that waits is sent. -/
def Obligations.PortRequests : Prop :=
  (∀ (s : State) (tag : Byte) (n : Nat), RequestAt s 58 setSilenceTimeoutLayout tag [some (.num n)] →
      Answers .setSilenceTimeout s tag (if 5 ≤ n ∧ n ≤ 300 then .done else .doneClamped) []
        (modPort (fun p => { p with timeout := min 300 (max 5 n) }) (fresh s)))
    ∧ (∀ (s : State) (tag : Byte) (n : Nat), RequestAt s 59 readRecordsLayout tag [some (.num n)] →
      (n < 1 ∨ 8 < n → Answers .readRecords s tag .range [] (fresh s))
      ∧ (1 ≤ n → n ≤ 8 → ∃ rs rest, s.port.records = rs ++ rest ∧ rs.length ≤ n ∧ (s.port.records ≠ [] → rs ≠ [])
          ∧ Answers .readRecords s tag .done
              (u16 s.port.records.length ++ u8 rs.length ++ rs.flatMap Record.bytes) (fresh s)
          ∧ ((rs.flatMap Record.bytes).length ≤ 1020 ∨ rs.length = 1)
          ∧ (rs.length = n ∨ rest = [] ∨ ∃ r ∈ rest.head?, 1020 < ((rs ++ [r]).flatMap Record.bytes).length)))
    ∧ (∀ (s : State) (tag : Byte) (n : Nat), RequestAt s 60 releaseRecordsLayout tag [some (.num n)] →
      ∃ gone left, s.port.records = gone ++ left ∧ (∀ r ∈ gone, r.number ≤ n) ∧ (∀ r ∈ left.head?, n < r.number)
        ∧ Answers .releaseRecords s tag .done (u16 gone.length ++ u16 left.length)
            (modPort (fun p => { p with records := left }) (fresh s)))
    ∧ (∀ (s : State) (tag : Byte) (set : Text) (interval : Option Nat),
      RequestAt s 61 subscribeLiveLayout tag [some (.text set), interval.map .num] →
      ((∃ x ∈ set, bridgeOf x.toNat = none) → Answers .subscribeLive s tag .range [] (fresh s))
      ∧ (set = [] → Answers .subscribeLive s tag .done []
          (modPort (fun p => { p with live := none, waiting := p.waiting.filter (fun f => f ≠ .live) }) (fresh s)))
      ∧ (∀ n, set ≠ [] → (∀ x ∈ set, bridgeOf x.toNat ≠ none) → interval = some n →
          Answers .subscribeLive s tag (if 100 ≤ n ∧ n ≤ 5000 then .done else .doneClamped) []
            (modPort (fun p => { p with live := some {
                bridges := allBridges.filter (fun b => set.any (fun x => bridgeOf x.toNat = some b)),
                interval := min 5000 (max 100 n), timer := min 5000 (max 100 n) } }) (fresh s))))
    ∧ (∀ (s : State) (tag : Byte) (place : Attach) (m : Bytes),
      RequestAt s 62 sendToNodeLayout tag [some (.role place), some (.text m)] →
      (m.length < 1 ∨ 32 < m.length → Answers .sendToNode s tag .range [] (fresh s))
      ∧ (1 ≤ m.length → m.length ≤ 32 →
        (8 ≤ s.port.pass.length → Answers .sendToNode s tag .full [] (fresh s))
        ∧ (s.port.pass.length < 8 →
          ((roleOf s place).fill = .empty → Answers .sendToNode s tag .notFound [] (fresh s))
          ∧ ((roleOf s place).fill = .degraded → Answers .sendToNode s tag .state [] (fresh s))
          ∧ (∀ a x, roleOf s place = { fill := .filled, node := some (a, x) } → (s.bus.nodes[a]).state = .active →
            (((s.bus.nodes[a]).desc.map (·.maxPayload)).getD 32 < m.length → Answers .sendToNode s tag .range [] (fresh s))
            ∧ (m.length ≤ ((s.bus.nodes[a]).desc.map (·.maxPayload)).getD 32 →
              (16 ≤ s.bus.queue.length → Answers .sendToNode s tag .busy [] (fresh s))
              ∧ (s.bus.queue.length < 16 →
                let e : PassEntry := { tag := tag, role := place, node := a, serial := some x }
                Answers .sendToNode s tag .done [] (modPort (fun p => { p with pass := p.pass ++ [e] })
                  (modBus (fun y => { y with queue := y.queue
                    ++ [{ node := a, frame := .message m, origin := .pass e, sent := false }] }) (fresh s)))))))))
    ∧ (∀ (s : State) (tag : Byte), RequestAt s 64 restartLayout tag [] →
      (s.port.up = true → exec .restart s = .next (popRequest (makeReady (.restartAnswer tag (u8 Result.done.code))
        (modPort (fun p => { p with restarting := true }) (fresh s)))))
      ∧ (s.port.up = false → s.port.resetAsked = none → s.cal.store.inFlight = none →
        ∃ t, exec .restart s = .next t ∧ t.port.lastReset = .warmRestart ∧ t.port.restarting = false))
    ∧ (∀ (s : State) (x : Sending) (tag : Byte) (body : Bytes), s.powered = true → s.port.sending = some x →
      x.frame = .restartAnswer tag body → s.port.resetAsked = none →
      (s.cal.store.inFlight = none → ∃ t, exec .frameSent s = .next t ∧ t.port.lastReset = .warmRestart
          ∧ t.port.up = false ∧ t.port.restarting = false ∧ t.port.buffer = [] ∧ t.port.sending = none)
      ∧ (s.cal.store.inFlight ≠ none →
          (s.port.waiting = [] → exec .frameSent s
            = .next (modPort (fun p => { p with sending := none, resetAsked := some .warmRestart }) (fresh s)))
          ∧ (∀ f rest, s.port.waiting = f :: rest → exec .frameSent s = .next (startSending f
            (modPort (fun p => { p with sending := none, resetAsked := some .warmRestart, waiting := rest }) (fresh s))))))

/-- The table of live states and the lookup of a vehicle with its tare status (R11, R131). The live state is OVER for W above Max plus 9e or an overrange flag; otherwise UNDER for W below minus 20e or an underrange flag; otherwise ZERO_UNSET with no zero; otherwise STABLE when the bridge is stable, and MOTION in any other case. A vehicle lookup returns the entry that holds the id, or none when no entry does; its tare status is NONE with no stored tare, CURRENT with one while the clock is set and the expiry day is absent or not past, and EXPIRED otherwise. -/
def Obligations.LiveStateAndTareStatus : Prop :=
  (∀ (e max : Nat) (w : Int) (o u z st : Bool),
      let isOver := (max : Int) + 9 * e < w ∨ o = true
      let isUnder := w < -(20 * (e : Int)) ∨ u = true
      (isOver → liveState e max w o u z st = .overMax)
      ∧ (¬ isOver → isUnder → liveState e max w o u z st = .underMin)
      ∧ (¬ isOver → ¬ isUnder → z = false → liveState e max w o u z st = .zeroUnset)
      ∧ (¬ isOver → ¬ isUnder → z = true → st = true → liveState e max w o u z st = .stable)
      ∧ (¬ isOver → ¬ isUnder → z = true → st = false → liveState e max w o u z st = .motion))
    ∧ (∀ (s : State) (id : Text),
      (∀ v, findVehicle s id = some v → v ∈ s.tables.vehicles ∧ v.id = id)
      ∧ (findVehicle s id = none ↔ ∀ v ∈ s.tables.vehicles, v.id ≠ id))
    ∧ (∀ (c : Clock) (v : Vehicle),
      (v.tare = none → tareStatus c v = .none)
      ∧ (v.tare ≠ none → c.set = true → (∀ d ∈ v.expiry, c.secs / 86400 ≤ d) → tareStatus c v = .current)
      ∧ (v.tare ≠ none → c.set = false ∨ (∃ d ∈ v.expiry, d < c.secs / 86400) → tareStatus c v = .expired))

/-- The charge of a net weight: gate, levy and total (R162). For a net weight N and a row: the gate fee is N times the gate rate over 1,000 rounded half up, raised to the minimum charge; the levy is N times the levy rate over 1,000 rounded half up, with no minimum; the total is their sum. The quotient q of a product P is the one with 2,000 q at most 2 P + 1,000 and 2 P + 1,000 below 2,000 (q + 1). -/
def Obligations.ChargeOfANetWeight : Prop :=
  ∀ (row : TariffRow) (n : Nat), ∃ gate levy : Nat,
    2000 * gate ≤ 2 * (n * row.gate) + 1000 ∧ 2 * (n * row.gate) + 1000 < 2000 * (gate + 1)
    ∧ 2000 * levy ≤ 2 * (n * row.levy) + 1000 ∧ 2 * (n * row.levy) + 1000 < 2000 * (levy + 1)
    ∧ chargeFor row n = { net := n, gate := max gate row.minimum, levy := levy, total := max gate row.minimum + levy }

/-- Numbers and lines survive their encodings, and an assignment finds a free visit number (R152, R184, R214). A number within k bytes, a weight and an amount of money within their signed ranges are read back from their bytes. The parts of a composed line have at most the part size, run together to the line, and the last of them alone is marked LAST. With at most 64 visits open and the next number from 1 to 65,535, the number assigned is held by no open visit and lies from 1 to 65,535. -/
def Obligations.EncodingsKeepWhatTheyCarry : Prop :=
  (∀ k n : Nat, n < 256 ^ k → beNat (beBytes k n) = n ∧ (beBytes k n).length = k)
    ∧ (∀ i : Int, -2147483648 ≤ i → i ≤ 2147483647 → beSigned (weight4 i) = i)
    ∧ (∀ i : Int, -9223372036854775808 ≤ i → i ≤ 9223372036854775807 → beSigned (money8 i) = i)
    ∧ (∀ (size : Nat) (line : Text), 1 ≤ size →
      (lineParts size line).flatMap (·.2) = line ∧ (∀ x ∈ lineParts size line, x.2.length ≤ size)
        ∧ ∃ parts last, lineParts size line = parts ++ [(true, last)] ∧ ∀ x ∈ parts, x.1 = false ∧ x.2.length = size)
    ∧ (∀ s : State, s.visits.table.length ≤ 64 → 1 ≤ s.visits.next → s.visits.next ≤ 65535 →
      1 ≤ assignVisitNumber s ∧ assignVisitNumber s ≤ 65535 ∧ findVisit s (assignVisitNumber s) = none)
end

