-- ==== Sys2Proof/Laws/State.lean ====
section
/-! SUPPORT. What each update of the state leaves and sets: one lemma per field per update, true by computation, so that no proof unfolds a record update. -/
namespace Sys2Proof.Machine

/-! ## Tables of fixed size -/

theorem getElem_put {α : Type} {n : Nat} (v : Vector α n) (i j : Fin n) (x : α) :
    (put v i x)[j.val] = if i = j then x else v[j.val] := by
  simp only [put, Vector.getElem_set, Fin.ext_iff]

@[simp] theorem getElem_put_self {α : Type} {n : Nat} (v : Vector α n) (i : Fin n) (x : α) : (put v i x)[i.val] = x := by
  rw [getElem_put, if_pos rfl]

@[simp] theorem getElem_put_ne {α : Type} {n : Nat} (v : Vector α n) {i j : Fin n} (h : i ≠ j) (x : α) :
    (put v i x)[j.val] = v[j.val] := by
  rw [getElem_put, if_neg h]

@[simp] theorem getElem_alter_self {α : Type} {n : Nat} (v : Vector α n) (i : Fin n) (f : α → α) :
    (alter v i f)[i.val] = f v[i.val] := by
  rw [alter, getElem_put_self, Fin.getElem_fin]

@[simp] theorem getElem_alter_ne {α : Type} {n : Nat} (v : Vector α n) {i j : Fin n} (h : i ≠ j) (f : α → α) :
    (alter v i f)[j.val] = v[j.val] := by
  rw [alter, getElem_put_ne v h]

theorem getElem_alter {α : Type} {n : Nat} (v : Vector α n) (i j : Fin n) (f : α → α) :
    (alter v i f)[j.val] = if i = j then f v[j.val] else v[j.val] := by
  by_cases h : i = j
  · subst h; simp
  · simp [h]

theorem put_put {α : Type} {n : Nat} (v : Vector α n) (i : Fin n) (x y : α) : put (put v i x) i y = put v i y := by
  simp [put]

theorem alter_alter {α : Type} {n : Nat} (v : Vector α n) (i : Fin n) (f g : α → α) :
    alter (alter v i f) i g = alter v i (fun x => g (f x)) := by
  rw [alter, alter, put_put, ← alter, Fin.getElem_fin, getElem_alter_self]
  rfl

/-- The lane with the station at an end changed. -/
def Lane.changeStation (e : LaneEnd) (f : Station → Station) (lane : Lane) : Lane :=
  match e with
  | .entry => { lane with entry := f lane.entry }
  | .exit => { lane with exit := f lane.exit }

@[simp] theorem Lane.changeStation_self (e : LaneEnd) (f : Station → Station) (lane : Lane) :
    (lane.changeStation e f).station e = f (lane.station e) := by
  cases e <;> rfl

@[simp] theorem Lane.changeStation_config (e : LaneEnd) (f : Station → Station) (lane : Lane) :
    (lane.changeStation e f).config = lane.config := by
  cases e <;> rfl

@[simp] theorem Lane.changeStation_isOpen (e : LaneEnd) (f : Station → Station) (lane : Lane) :
    (lane.changeStation e f).isOpen = lane.isOpen := by
  cases e <;> rfl

@[simp] theorem Lane.changeStation_state (e : LaneEnd) (f : Station → Station) (lane : Lane) :
    (lane.changeStation e f).state = lane.state := by
  cases e <;> rfl

@[simp] theorem Lane.changeStation_visit (e : LaneEnd) (f : Station → Station) (lane : Lane) :
    (lane.changeStation e f).visit = lane.visit := by
  cases e <;> rfl

@[simp] theorem Lane.changeStation_asking (e : LaneEnd) (f : Station → Station) (lane : Lane) :
    (lane.changeStation e f).asking = lane.asking := by
  cases e <;> rfl

@[simp] theorem Lane.changeStation_hold (e : LaneEnd) (f : Station → Station) (lane : Lane) :
    (lane.changeStation e f).hold = lane.hold := by
  cases e <;> rfl

@[simp] theorem Lane.changeStation_fault (e : LaneEnd) (f : Station → Station) (lane : Lane) :
    (lane.changeStation e f).fault = lane.fault := by
  cases e <;> rfl

@[simp] theorem Lane.changeStation_outcome (e : LaneEnd) (f : Station → Station) (lane : Lane) :
    (lane.changeStation e f).outcome = lane.outcome := by
  cases e <;> rfl

@[simp] theorem Lane.changeStation_reweigh (e : LaneEnd) (f : Station → Station) (lane : Lane) :
    (lane.changeStation e f).reweigh = lane.reweigh := by
  cases e <;> rfl

@[simp] theorem Lane.changeStation_nearBeam (e : LaneEnd) (f : Station → Station) (lane : Lane) :
    (lane.changeStation e f).nearBeam = lane.nearBeam := by
  cases e <;> rfl

@[simp] theorem Lane.changeStation_timer (e : LaneEnd) (f : Station → Station) (lane : Lane) :
    (lane.changeStation e f).timer = lane.timer := by
  cases e <;> rfl

@[simp] theorem Lane.changeStation_reversing (e : LaneEnd) (f : Station → Station) (lane : Lane) :
    (lane.changeStation e f).reversing = lane.reversing := by
  cases e <;> rfl

@[simp] theorem Lane.changeStation_kept (e : LaneEnd) (f : Station → Station) (lane : Lane) :
    (lane.changeStation e f).kept = lane.kept := by
  cases e <;> rfl

/-! ## modEngine -/

@[simp] theorem modEngine_powered (b : BridgeId) (f : Engine → Engine) (s : State) : (modEngine b f s).powered = s.powered := rfl

@[simp] theorem modEngine_calEnable (b : BridgeId) (f : Engine → Engine) (s : State) : (modEngine b f s).calEnable = s.calEnable := rfl

@[simp] theorem modEngine_yardStop (b : BridgeId) (f : Engine → Engine) (s : State) : (modEngine b f s).yardStop = s.yardStop := rfl

@[simp] theorem modEngine_engine (b : BridgeId) (f : Engine → Engine) (s : State) :
    (modEngine b f s).engine = alter s.engine b f := by
  rfl

@[simp] theorem modEngine_cal (b : BridgeId) (f : Engine → Engine) (s : State) : (modEngine b f s).cal = s.cal := rfl

@[simp] theorem modEngine_bus (b : BridgeId) (f : Engine → Engine) (s : State) : (modEngine b f s).bus = s.bus := rfl

@[simp] theorem modEngine_plan (b : BridgeId) (f : Engine → Engine) (s : State) : (modEngine b f s).plan = s.plan := rfl

@[simp] theorem modEngine_seq (b : BridgeId) (f : Engine → Engine) (s : State) : (modEngine b f s).seq = s.seq := rfl

@[simp] theorem modEngine_tables (b : BridgeId) (f : Engine → Engine) (s : State) : (modEngine b f s).tables = s.tables := rfl

@[simp] theorem modEngine_visits (b : BridgeId) (f : Engine → Engine) (s : State) : (modEngine b f s).visits = s.visits := rfl

@[simp] theorem modEngine_tickets (b : BridgeId) (f : Engine → Engine) (s : State) : (modEngine b f s).tickets = s.tickets := rfl

@[simp] theorem modEngine_port (b : BridgeId) (f : Engine → Engine) (s : State) : (modEngine b f s).port = s.port := rfl

@[simp] theorem modEngine_sentFrames (b : BridgeId) (f : Engine → Engine) (s : State) : (modEngine b f s).sentFrames = s.sentFrames := rfl

@[simp] theorem modEngine_pending (b : BridgeId) (f : Engine → Engine) (s : State) : (modEngine b f s).pending = s.pending := rfl

/-! ## modCal -/

@[simp] theorem modCal_powered (f : Cal → Cal) (s : State) : (modCal f s).powered = s.powered := rfl

@[simp] theorem modCal_calEnable (f : Cal → Cal) (s : State) : (modCal f s).calEnable = s.calEnable := rfl

@[simp] theorem modCal_yardStop (f : Cal → Cal) (s : State) : (modCal f s).yardStop = s.yardStop := rfl

@[simp] theorem modCal_engine (f : Cal → Cal) (s : State) : (modCal f s).engine = s.engine := rfl

@[simp] theorem modCal_cal (f : Cal → Cal) (s : State) :
    (modCal f s).cal = f s.cal := by
  rfl

@[simp] theorem modCal_bus (f : Cal → Cal) (s : State) : (modCal f s).bus = s.bus := rfl

@[simp] theorem modCal_plan (f : Cal → Cal) (s : State) : (modCal f s).plan = s.plan := rfl

@[simp] theorem modCal_seq (f : Cal → Cal) (s : State) : (modCal f s).seq = s.seq := rfl

@[simp] theorem modCal_tables (f : Cal → Cal) (s : State) : (modCal f s).tables = s.tables := rfl

@[simp] theorem modCal_visits (f : Cal → Cal) (s : State) : (modCal f s).visits = s.visits := rfl

@[simp] theorem modCal_tickets (f : Cal → Cal) (s : State) : (modCal f s).tickets = s.tickets := rfl

@[simp] theorem modCal_port (f : Cal → Cal) (s : State) : (modCal f s).port = s.port := rfl

@[simp] theorem modCal_sentFrames (f : Cal → Cal) (s : State) : (modCal f s).sentFrames = s.sentFrames := rfl

@[simp] theorem modCal_pending (f : Cal → Cal) (s : State) : (modCal f s).pending = s.pending := rfl

/-! ## modStore -/

@[simp] theorem modStore_powered (f : Store → Store) (s : State) : (modStore f s).powered = s.powered := rfl

@[simp] theorem modStore_calEnable (f : Store → Store) (s : State) : (modStore f s).calEnable = s.calEnable := rfl

@[simp] theorem modStore_yardStop (f : Store → Store) (s : State) : (modStore f s).yardStop = s.yardStop := rfl

@[simp] theorem modStore_engine (f : Store → Store) (s : State) : (modStore f s).engine = s.engine := rfl

@[simp] theorem modStore_cal (f : Store → Store) (s : State) :
    (modStore f s).cal = { s.cal with store := f s.cal.store } := by
  rfl

@[simp] theorem modStore_bus (f : Store → Store) (s : State) : (modStore f s).bus = s.bus := rfl

@[simp] theorem modStore_plan (f : Store → Store) (s : State) : (modStore f s).plan = s.plan := rfl

@[simp] theorem modStore_seq (f : Store → Store) (s : State) : (modStore f s).seq = s.seq := rfl

@[simp] theorem modStore_tables (f : Store → Store) (s : State) : (modStore f s).tables = s.tables := rfl

@[simp] theorem modStore_visits (f : Store → Store) (s : State) : (modStore f s).visits = s.visits := rfl

@[simp] theorem modStore_tickets (f : Store → Store) (s : State) : (modStore f s).tickets = s.tickets := rfl

@[simp] theorem modStore_port (f : Store → Store) (s : State) : (modStore f s).port = s.port := rfl

@[simp] theorem modStore_sentFrames (f : Store → Store) (s : State) : (modStore f s).sentFrames = s.sentFrames := rfl

@[simp] theorem modStore_pending (f : Store → Store) (s : State) : (modStore f s).pending = s.pending := rfl

/-! ## modBus -/

@[simp] theorem modBus_powered (f : Bus → Bus) (s : State) : (modBus f s).powered = s.powered := rfl

@[simp] theorem modBus_calEnable (f : Bus → Bus) (s : State) : (modBus f s).calEnable = s.calEnable := rfl

@[simp] theorem modBus_yardStop (f : Bus → Bus) (s : State) : (modBus f s).yardStop = s.yardStop := rfl

@[simp] theorem modBus_engine (f : Bus → Bus) (s : State) : (modBus f s).engine = s.engine := rfl

@[simp] theorem modBus_cal (f : Bus → Bus) (s : State) : (modBus f s).cal = s.cal := rfl

@[simp] theorem modBus_bus (f : Bus → Bus) (s : State) :
    (modBus f s).bus = f s.bus := by
  rfl

@[simp] theorem modBus_plan (f : Bus → Bus) (s : State) : (modBus f s).plan = s.plan := rfl

@[simp] theorem modBus_seq (f : Bus → Bus) (s : State) : (modBus f s).seq = s.seq := rfl

@[simp] theorem modBus_tables (f : Bus → Bus) (s : State) : (modBus f s).tables = s.tables := rfl

@[simp] theorem modBus_visits (f : Bus → Bus) (s : State) : (modBus f s).visits = s.visits := rfl

@[simp] theorem modBus_tickets (f : Bus → Bus) (s : State) : (modBus f s).tickets = s.tickets := rfl

@[simp] theorem modBus_port (f : Bus → Bus) (s : State) : (modBus f s).port = s.port := rfl

@[simp] theorem modBus_sentFrames (f : Bus → Bus) (s : State) : (modBus f s).sentFrames = s.sentFrames := rfl

@[simp] theorem modBus_pending (f : Bus → Bus) (s : State) : (modBus f s).pending = s.pending := rfl

/-! ## modScan -/

@[simp] theorem modScan_powered (f : Scan → Scan) (s : State) : (modScan f s).powered = s.powered := rfl

@[simp] theorem modScan_calEnable (f : Scan → Scan) (s : State) : (modScan f s).calEnable = s.calEnable := rfl

@[simp] theorem modScan_yardStop (f : Scan → Scan) (s : State) : (modScan f s).yardStop = s.yardStop := rfl

@[simp] theorem modScan_engine (f : Scan → Scan) (s : State) : (modScan f s).engine = s.engine := rfl

@[simp] theorem modScan_cal (f : Scan → Scan) (s : State) : (modScan f s).cal = s.cal := rfl

@[simp] theorem modScan_bus (f : Scan → Scan) (s : State) :
    (modScan f s).bus = { s.bus with scan := f s.bus.scan } := by
  rfl

@[simp] theorem modScan_plan (f : Scan → Scan) (s : State) : (modScan f s).plan = s.plan := rfl

@[simp] theorem modScan_seq (f : Scan → Scan) (s : State) : (modScan f s).seq = s.seq := rfl

@[simp] theorem modScan_tables (f : Scan → Scan) (s : State) : (modScan f s).tables = s.tables := rfl

@[simp] theorem modScan_visits (f : Scan → Scan) (s : State) : (modScan f s).visits = s.visits := rfl

@[simp] theorem modScan_tickets (f : Scan → Scan) (s : State) : (modScan f s).tickets = s.tickets := rfl

@[simp] theorem modScan_port (f : Scan → Scan) (s : State) : (modScan f s).port = s.port := rfl

@[simp] theorem modScan_sentFrames (f : Scan → Scan) (s : State) : (modScan f s).sentFrames = s.sentFrames := rfl

@[simp] theorem modScan_pending (f : Scan → Scan) (s : State) : (modScan f s).pending = s.pending := rfl

/-! ## modEnum -/

@[simp] theorem modEnum_powered (f : Enumeration → Enumeration) (s : State) : (modEnum f s).powered = s.powered := rfl

@[simp] theorem modEnum_calEnable (f : Enumeration → Enumeration) (s : State) : (modEnum f s).calEnable = s.calEnable := rfl

@[simp] theorem modEnum_yardStop (f : Enumeration → Enumeration) (s : State) : (modEnum f s).yardStop = s.yardStop := rfl

@[simp] theorem modEnum_engine (f : Enumeration → Enumeration) (s : State) : (modEnum f s).engine = s.engine := rfl

@[simp] theorem modEnum_cal (f : Enumeration → Enumeration) (s : State) : (modEnum f s).cal = s.cal := rfl

@[simp] theorem modEnum_bus (f : Enumeration → Enumeration) (s : State) :
    (modEnum f s).bus = { s.bus with enum := f s.bus.enum } := by
  rfl

@[simp] theorem modEnum_plan (f : Enumeration → Enumeration) (s : State) : (modEnum f s).plan = s.plan := rfl

@[simp] theorem modEnum_seq (f : Enumeration → Enumeration) (s : State) : (modEnum f s).seq = s.seq := rfl

@[simp] theorem modEnum_tables (f : Enumeration → Enumeration) (s : State) : (modEnum f s).tables = s.tables := rfl

@[simp] theorem modEnum_visits (f : Enumeration → Enumeration) (s : State) : (modEnum f s).visits = s.visits := rfl

@[simp] theorem modEnum_tickets (f : Enumeration → Enumeration) (s : State) : (modEnum f s).tickets = s.tickets := rfl

@[simp] theorem modEnum_port (f : Enumeration → Enumeration) (s : State) : (modEnum f s).port = s.port := rfl

@[simp] theorem modEnum_sentFrames (f : Enumeration → Enumeration) (s : State) : (modEnum f s).sentFrames = s.sentFrames := rfl

@[simp] theorem modEnum_pending (f : Enumeration → Enumeration) (s : State) : (modEnum f s).pending = s.pending := rfl

/-! ## modNode -/

@[simp] theorem modNode_powered (a : NodeId) (f : NodeEntry → NodeEntry) (s : State) : (modNode a f s).powered = s.powered := rfl

@[simp] theorem modNode_calEnable (a : NodeId) (f : NodeEntry → NodeEntry) (s : State) : (modNode a f s).calEnable = s.calEnable := rfl

@[simp] theorem modNode_yardStop (a : NodeId) (f : NodeEntry → NodeEntry) (s : State) : (modNode a f s).yardStop = s.yardStop := rfl

@[simp] theorem modNode_engine (a : NodeId) (f : NodeEntry → NodeEntry) (s : State) : (modNode a f s).engine = s.engine := rfl

@[simp] theorem modNode_cal (a : NodeId) (f : NodeEntry → NodeEntry) (s : State) : (modNode a f s).cal = s.cal := rfl

@[simp] theorem modNode_bus (a : NodeId) (f : NodeEntry → NodeEntry) (s : State) :
    (modNode a f s).bus = { s.bus with nodes := alter s.bus.nodes a f } := by
  rfl

@[simp] theorem modNode_plan (a : NodeId) (f : NodeEntry → NodeEntry) (s : State) : (modNode a f s).plan = s.plan := rfl

@[simp] theorem modNode_seq (a : NodeId) (f : NodeEntry → NodeEntry) (s : State) : (modNode a f s).seq = s.seq := rfl

@[simp] theorem modNode_tables (a : NodeId) (f : NodeEntry → NodeEntry) (s : State) : (modNode a f s).tables = s.tables := rfl

@[simp] theorem modNode_visits (a : NodeId) (f : NodeEntry → NodeEntry) (s : State) : (modNode a f s).visits = s.visits := rfl

@[simp] theorem modNode_tickets (a : NodeId) (f : NodeEntry → NodeEntry) (s : State) : (modNode a f s).tickets = s.tickets := rfl

@[simp] theorem modNode_port (a : NodeId) (f : NodeEntry → NodeEntry) (s : State) : (modNode a f s).port = s.port := rfl

@[simp] theorem modNode_sentFrames (a : NodeId) (f : NodeEntry → NodeEntry) (s : State) : (modNode a f s).sentFrames = s.sentFrames := rfl

@[simp] theorem modNode_pending (a : NodeId) (f : NodeEntry → NodeEntry) (s : State) : (modNode a f s).pending = s.pending := rfl

/-! ## modPlanNode -/

@[simp] theorem modPlanNode_powered (a : NodeId) (f : PlanNode → PlanNode) (s : State) : (modPlanNode a f s).powered = s.powered := rfl

@[simp] theorem modPlanNode_calEnable (a : NodeId) (f : PlanNode → PlanNode) (s : State) : (modPlanNode a f s).calEnable = s.calEnable := rfl

@[simp] theorem modPlanNode_yardStop (a : NodeId) (f : PlanNode → PlanNode) (s : State) : (modPlanNode a f s).yardStop = s.yardStop := rfl

@[simp] theorem modPlanNode_engine (a : NodeId) (f : PlanNode → PlanNode) (s : State) : (modPlanNode a f s).engine = s.engine := rfl

@[simp] theorem modPlanNode_cal (a : NodeId) (f : PlanNode → PlanNode) (s : State) : (modPlanNode a f s).cal = s.cal := rfl

@[simp] theorem modPlanNode_bus (a : NodeId) (f : PlanNode → PlanNode) (s : State) : (modPlanNode a f s).bus = s.bus := rfl

@[simp] theorem modPlanNode_plan (a : NodeId) (f : PlanNode → PlanNode) (s : State) :
    (modPlanNode a f s).plan = { s.plan with nodes := alter s.plan.nodes a f } := by
  rfl

@[simp] theorem modPlanNode_seq (a : NodeId) (f : PlanNode → PlanNode) (s : State) : (modPlanNode a f s).seq = s.seq := rfl

@[simp] theorem modPlanNode_tables (a : NodeId) (f : PlanNode → PlanNode) (s : State) : (modPlanNode a f s).tables = s.tables := rfl

@[simp] theorem modPlanNode_visits (a : NodeId) (f : PlanNode → PlanNode) (s : State) : (modPlanNode a f s).visits = s.visits := rfl

@[simp] theorem modPlanNode_tickets (a : NodeId) (f : PlanNode → PlanNode) (s : State) : (modPlanNode a f s).tickets = s.tickets := rfl

@[simp] theorem modPlanNode_port (a : NodeId) (f : PlanNode → PlanNode) (s : State) : (modPlanNode a f s).port = s.port := rfl

@[simp] theorem modPlanNode_sentFrames (a : NodeId) (f : PlanNode → PlanNode) (s : State) : (modPlanNode a f s).sentFrames = s.sentFrames := rfl

@[simp] theorem modPlanNode_pending (a : NodeId) (f : PlanNode → PlanNode) (s : State) : (modPlanNode a f s).pending = s.pending := rfl

/-! ## modLane -/

@[simp] theorem modLane_powered (l : LaneId) (f : Lane → Lane) (s : State) : (modLane l f s).powered = s.powered := rfl

@[simp] theorem modLane_calEnable (l : LaneId) (f : Lane → Lane) (s : State) : (modLane l f s).calEnable = s.calEnable := rfl

@[simp] theorem modLane_yardStop (l : LaneId) (f : Lane → Lane) (s : State) : (modLane l f s).yardStop = s.yardStop := rfl

@[simp] theorem modLane_engine (l : LaneId) (f : Lane → Lane) (s : State) : (modLane l f s).engine = s.engine := rfl

@[simp] theorem modLane_cal (l : LaneId) (f : Lane → Lane) (s : State) : (modLane l f s).cal = s.cal := rfl

@[simp] theorem modLane_bus (l : LaneId) (f : Lane → Lane) (s : State) : (modLane l f s).bus = s.bus := rfl

@[simp] theorem modLane_plan (l : LaneId) (f : Lane → Lane) (s : State) : (modLane l f s).plan = s.plan := rfl

@[simp] theorem modLane_seq (l : LaneId) (f : Lane → Lane) (s : State) :
    (modLane l f s).seq = { s.seq with lanes := alter s.seq.lanes l f } := by
  rfl

@[simp] theorem modLane_tables (l : LaneId) (f : Lane → Lane) (s : State) : (modLane l f s).tables = s.tables := rfl

@[simp] theorem modLane_visits (l : LaneId) (f : Lane → Lane) (s : State) : (modLane l f s).visits = s.visits := rfl

@[simp] theorem modLane_tickets (l : LaneId) (f : Lane → Lane) (s : State) : (modLane l f s).tickets = s.tickets := rfl

@[simp] theorem modLane_port (l : LaneId) (f : Lane → Lane) (s : State) : (modLane l f s).port = s.port := rfl

@[simp] theorem modLane_sentFrames (l : LaneId) (f : Lane → Lane) (s : State) : (modLane l f s).sentFrames = s.sentFrames := rfl

@[simp] theorem modLane_pending (l : LaneId) (f : Lane → Lane) (s : State) : (modLane l f s).pending = s.pending := rfl

/-! ## modBridge -/

@[simp] theorem modBridge_powered (b : BridgeId) (f : BridgeSeq → BridgeSeq) (s : State) : (modBridge b f s).powered = s.powered := rfl

@[simp] theorem modBridge_calEnable (b : BridgeId) (f : BridgeSeq → BridgeSeq) (s : State) : (modBridge b f s).calEnable = s.calEnable := rfl

@[simp] theorem modBridge_yardStop (b : BridgeId) (f : BridgeSeq → BridgeSeq) (s : State) : (modBridge b f s).yardStop = s.yardStop := rfl

@[simp] theorem modBridge_engine (b : BridgeId) (f : BridgeSeq → BridgeSeq) (s : State) : (modBridge b f s).engine = s.engine := rfl

@[simp] theorem modBridge_cal (b : BridgeId) (f : BridgeSeq → BridgeSeq) (s : State) : (modBridge b f s).cal = s.cal := rfl

@[simp] theorem modBridge_bus (b : BridgeId) (f : BridgeSeq → BridgeSeq) (s : State) : (modBridge b f s).bus = s.bus := rfl

@[simp] theorem modBridge_plan (b : BridgeId) (f : BridgeSeq → BridgeSeq) (s : State) : (modBridge b f s).plan = s.plan := rfl

@[simp] theorem modBridge_seq (b : BridgeId) (f : BridgeSeq → BridgeSeq) (s : State) :
    (modBridge b f s).seq = { s.seq with bridges := alter s.seq.bridges b f } := by
  rfl

@[simp] theorem modBridge_tables (b : BridgeId) (f : BridgeSeq → BridgeSeq) (s : State) : (modBridge b f s).tables = s.tables := rfl

@[simp] theorem modBridge_visits (b : BridgeId) (f : BridgeSeq → BridgeSeq) (s : State) : (modBridge b f s).visits = s.visits := rfl

@[simp] theorem modBridge_tickets (b : BridgeId) (f : BridgeSeq → BridgeSeq) (s : State) : (modBridge b f s).tickets = s.tickets := rfl

@[simp] theorem modBridge_port (b : BridgeId) (f : BridgeSeq → BridgeSeq) (s : State) : (modBridge b f s).port = s.port := rfl

@[simp] theorem modBridge_sentFrames (b : BridgeId) (f : BridgeSeq → BridgeSeq) (s : State) : (modBridge b f s).sentFrames = s.sentFrames := rfl

@[simp] theorem modBridge_pending (b : BridgeId) (f : BridgeSeq → BridgeSeq) (s : State) : (modBridge b f s).pending = s.pending := rfl

/-! ## modStation -/

@[simp] theorem modStation_powered (l : LaneId) (e : LaneEnd) (f : Station → Station) (s : State) : (modStation l e f s).powered = s.powered := rfl

@[simp] theorem modStation_calEnable (l : LaneId) (e : LaneEnd) (f : Station → Station) (s : State) : (modStation l e f s).calEnable = s.calEnable := rfl

@[simp] theorem modStation_yardStop (l : LaneId) (e : LaneEnd) (f : Station → Station) (s : State) : (modStation l e f s).yardStop = s.yardStop := rfl

@[simp] theorem modStation_engine (l : LaneId) (e : LaneEnd) (f : Station → Station) (s : State) : (modStation l e f s).engine = s.engine := rfl

@[simp] theorem modStation_cal (l : LaneId) (e : LaneEnd) (f : Station → Station) (s : State) : (modStation l e f s).cal = s.cal := rfl

@[simp] theorem modStation_bus (l : LaneId) (e : LaneEnd) (f : Station → Station) (s : State) : (modStation l e f s).bus = s.bus := rfl

@[simp] theorem modStation_plan (l : LaneId) (e : LaneEnd) (f : Station → Station) (s : State) : (modStation l e f s).plan = s.plan := rfl

@[simp] theorem modStation_seq (l : LaneId) (e : LaneEnd) (f : Station → Station) (s : State) :
    (modStation l e f s).seq = { s.seq with lanes := alter s.seq.lanes l (Lane.changeStation e f) } := by
  cases e <;> rfl

@[simp] theorem modStation_tables (l : LaneId) (e : LaneEnd) (f : Station → Station) (s : State) : (modStation l e f s).tables = s.tables := rfl

@[simp] theorem modStation_visits (l : LaneId) (e : LaneEnd) (f : Station → Station) (s : State) : (modStation l e f s).visits = s.visits := rfl

@[simp] theorem modStation_tickets (l : LaneId) (e : LaneEnd) (f : Station → Station) (s : State) : (modStation l e f s).tickets = s.tickets := rfl

@[simp] theorem modStation_port (l : LaneId) (e : LaneEnd) (f : Station → Station) (s : State) : (modStation l e f s).port = s.port := rfl

@[simp] theorem modStation_sentFrames (l : LaneId) (e : LaneEnd) (f : Station → Station) (s : State) : (modStation l e f s).sentFrames = s.sentFrames := rfl

@[simp] theorem modStation_pending (l : LaneId) (e : LaneEnd) (f : Station → Station) (s : State) : (modStation l e f s).pending = s.pending := rfl

/-! ## modPrinter -/

@[simp] theorem modPrinter_powered (l : LaneId) (f : Printer → Printer) (s : State) : (modPrinter l f s).powered = s.powered := rfl

@[simp] theorem modPrinter_calEnable (l : LaneId) (f : Printer → Printer) (s : State) : (modPrinter l f s).calEnable = s.calEnable := rfl

@[simp] theorem modPrinter_yardStop (l : LaneId) (f : Printer → Printer) (s : State) : (modPrinter l f s).yardStop = s.yardStop := rfl

@[simp] theorem modPrinter_engine (l : LaneId) (f : Printer → Printer) (s : State) : (modPrinter l f s).engine = s.engine := rfl

@[simp] theorem modPrinter_cal (l : LaneId) (f : Printer → Printer) (s : State) : (modPrinter l f s).cal = s.cal := rfl

@[simp] theorem modPrinter_bus (l : LaneId) (f : Printer → Printer) (s : State) : (modPrinter l f s).bus = s.bus := rfl

@[simp] theorem modPrinter_plan (l : LaneId) (f : Printer → Printer) (s : State) : (modPrinter l f s).plan = s.plan := rfl

@[simp] theorem modPrinter_seq (l : LaneId) (f : Printer → Printer) (s : State) : (modPrinter l f s).seq = s.seq := rfl

@[simp] theorem modPrinter_tables (l : LaneId) (f : Printer → Printer) (s : State) : (modPrinter l f s).tables = s.tables := rfl

@[simp] theorem modPrinter_visits (l : LaneId) (f : Printer → Printer) (s : State) : (modPrinter l f s).visits = s.visits := rfl

@[simp] theorem modPrinter_tickets (l : LaneId) (f : Printer → Printer) (s : State) :
    (modPrinter l f s).tickets = { s.tickets with printers := alter s.tickets.printers l f } := by
  rfl

@[simp] theorem modPrinter_port (l : LaneId) (f : Printer → Printer) (s : State) : (modPrinter l f s).port = s.port := rfl

@[simp] theorem modPrinter_sentFrames (l : LaneId) (f : Printer → Printer) (s : State) : (modPrinter l f s).sentFrames = s.sentFrames := rfl

@[simp] theorem modPrinter_pending (l : LaneId) (f : Printer → Printer) (s : State) : (modPrinter l f s).pending = s.pending := rfl

/-! ## modTables -/

@[simp] theorem modTables_powered (f : Tables → Tables) (s : State) : (modTables f s).powered = s.powered := rfl

@[simp] theorem modTables_calEnable (f : Tables → Tables) (s : State) : (modTables f s).calEnable = s.calEnable := rfl

@[simp] theorem modTables_yardStop (f : Tables → Tables) (s : State) : (modTables f s).yardStop = s.yardStop := rfl

@[simp] theorem modTables_engine (f : Tables → Tables) (s : State) : (modTables f s).engine = s.engine := rfl

@[simp] theorem modTables_cal (f : Tables → Tables) (s : State) : (modTables f s).cal = s.cal := rfl

@[simp] theorem modTables_bus (f : Tables → Tables) (s : State) : (modTables f s).bus = s.bus := rfl

@[simp] theorem modTables_plan (f : Tables → Tables) (s : State) : (modTables f s).plan = s.plan := rfl

@[simp] theorem modTables_seq (f : Tables → Tables) (s : State) : (modTables f s).seq = s.seq := rfl

@[simp] theorem modTables_tables (f : Tables → Tables) (s : State) :
    (modTables f s).tables = f s.tables := by
  rfl

@[simp] theorem modTables_visits (f : Tables → Tables) (s : State) : (modTables f s).visits = s.visits := rfl

@[simp] theorem modTables_tickets (f : Tables → Tables) (s : State) : (modTables f s).tickets = s.tickets := rfl

@[simp] theorem modTables_port (f : Tables → Tables) (s : State) : (modTables f s).port = s.port := rfl

@[simp] theorem modTables_sentFrames (f : Tables → Tables) (s : State) : (modTables f s).sentFrames = s.sentFrames := rfl

@[simp] theorem modTables_pending (f : Tables → Tables) (s : State) : (modTables f s).pending = s.pending := rfl

/-! ## modVisits -/

@[simp] theorem modVisits_powered (f : Visits → Visits) (s : State) : (modVisits f s).powered = s.powered := rfl

@[simp] theorem modVisits_calEnable (f : Visits → Visits) (s : State) : (modVisits f s).calEnable = s.calEnable := rfl

@[simp] theorem modVisits_yardStop (f : Visits → Visits) (s : State) : (modVisits f s).yardStop = s.yardStop := rfl

@[simp] theorem modVisits_engine (f : Visits → Visits) (s : State) : (modVisits f s).engine = s.engine := rfl

@[simp] theorem modVisits_cal (f : Visits → Visits) (s : State) : (modVisits f s).cal = s.cal := rfl

@[simp] theorem modVisits_bus (f : Visits → Visits) (s : State) : (modVisits f s).bus = s.bus := rfl

@[simp] theorem modVisits_plan (f : Visits → Visits) (s : State) : (modVisits f s).plan = s.plan := rfl

@[simp] theorem modVisits_seq (f : Visits → Visits) (s : State) : (modVisits f s).seq = s.seq := rfl

@[simp] theorem modVisits_tables (f : Visits → Visits) (s : State) : (modVisits f s).tables = s.tables := rfl

@[simp] theorem modVisits_visits (f : Visits → Visits) (s : State) :
    (modVisits f s).visits = f s.visits := by
  rfl

@[simp] theorem modVisits_tickets (f : Visits → Visits) (s : State) : (modVisits f s).tickets = s.tickets := rfl

@[simp] theorem modVisits_port (f : Visits → Visits) (s : State) : (modVisits f s).port = s.port := rfl

@[simp] theorem modVisits_sentFrames (f : Visits → Visits) (s : State) : (modVisits f s).sentFrames = s.sentFrames := rfl

@[simp] theorem modVisits_pending (f : Visits → Visits) (s : State) : (modVisits f s).pending = s.pending := rfl

/-! ## modTickets -/

@[simp] theorem modTickets_powered (f : Tickets → Tickets) (s : State) : (modTickets f s).powered = s.powered := rfl

@[simp] theorem modTickets_calEnable (f : Tickets → Tickets) (s : State) : (modTickets f s).calEnable = s.calEnable := rfl

@[simp] theorem modTickets_yardStop (f : Tickets → Tickets) (s : State) : (modTickets f s).yardStop = s.yardStop := rfl

@[simp] theorem modTickets_engine (f : Tickets → Tickets) (s : State) : (modTickets f s).engine = s.engine := rfl

@[simp] theorem modTickets_cal (f : Tickets → Tickets) (s : State) : (modTickets f s).cal = s.cal := rfl

@[simp] theorem modTickets_bus (f : Tickets → Tickets) (s : State) : (modTickets f s).bus = s.bus := rfl

@[simp] theorem modTickets_plan (f : Tickets → Tickets) (s : State) : (modTickets f s).plan = s.plan := rfl

@[simp] theorem modTickets_seq (f : Tickets → Tickets) (s : State) : (modTickets f s).seq = s.seq := rfl

@[simp] theorem modTickets_tables (f : Tickets → Tickets) (s : State) : (modTickets f s).tables = s.tables := rfl

@[simp] theorem modTickets_visits (f : Tickets → Tickets) (s : State) : (modTickets f s).visits = s.visits := rfl

@[simp] theorem modTickets_tickets (f : Tickets → Tickets) (s : State) :
    (modTickets f s).tickets = f s.tickets := by
  rfl

@[simp] theorem modTickets_port (f : Tickets → Tickets) (s : State) : (modTickets f s).port = s.port := rfl

@[simp] theorem modTickets_sentFrames (f : Tickets → Tickets) (s : State) : (modTickets f s).sentFrames = s.sentFrames := rfl

@[simp] theorem modTickets_pending (f : Tickets → Tickets) (s : State) : (modTickets f s).pending = s.pending := rfl

/-! ## modPort -/

@[simp] theorem modPort_powered (f : Port → Port) (s : State) : (modPort f s).powered = s.powered := rfl

@[simp] theorem modPort_calEnable (f : Port → Port) (s : State) : (modPort f s).calEnable = s.calEnable := rfl

@[simp] theorem modPort_yardStop (f : Port → Port) (s : State) : (modPort f s).yardStop = s.yardStop := rfl

@[simp] theorem modPort_engine (f : Port → Port) (s : State) : (modPort f s).engine = s.engine := rfl

@[simp] theorem modPort_cal (f : Port → Port) (s : State) : (modPort f s).cal = s.cal := rfl

@[simp] theorem modPort_bus (f : Port → Port) (s : State) : (modPort f s).bus = s.bus := rfl

@[simp] theorem modPort_plan (f : Port → Port) (s : State) : (modPort f s).plan = s.plan := rfl

@[simp] theorem modPort_seq (f : Port → Port) (s : State) : (modPort f s).seq = s.seq := rfl

@[simp] theorem modPort_tables (f : Port → Port) (s : State) : (modPort f s).tables = s.tables := rfl

@[simp] theorem modPort_visits (f : Port → Port) (s : State) : (modPort f s).visits = s.visits := rfl

@[simp] theorem modPort_tickets (f : Port → Port) (s : State) : (modPort f s).tickets = s.tickets := rfl

@[simp] theorem modPort_port (f : Port → Port) (s : State) :
    (modPort f s).port = f s.port := by
  rfl

@[simp] theorem modPort_sentFrames (f : Port → Port) (s : State) : (modPort f s).sentFrames = s.sentFrames := rfl

@[simp] theorem modPort_pending (f : Port → Port) (s : State) : (modPort f s).pending = s.pending := rfl

/-! ## sendBus -/

@[simp] theorem sendBus_powered (address kind : Nat) (payload : Bytes) (s : State) : (sendBus address kind payload s).powered = s.powered := rfl

@[simp] theorem sendBus_calEnable (address kind : Nat) (payload : Bytes) (s : State) : (sendBus address kind payload s).calEnable = s.calEnable := rfl

@[simp] theorem sendBus_yardStop (address kind : Nat) (payload : Bytes) (s : State) : (sendBus address kind payload s).yardStop = s.yardStop := rfl

@[simp] theorem sendBus_engine (address kind : Nat) (payload : Bytes) (s : State) : (sendBus address kind payload s).engine = s.engine := rfl

@[simp] theorem sendBus_cal (address kind : Nat) (payload : Bytes) (s : State) : (sendBus address kind payload s).cal = s.cal := rfl

@[simp] theorem sendBus_bus (address kind : Nat) (payload : Bytes) (s : State) : (sendBus address kind payload s).bus = s.bus := rfl

@[simp] theorem sendBus_plan (address kind : Nat) (payload : Bytes) (s : State) : (sendBus address kind payload s).plan = s.plan := rfl

@[simp] theorem sendBus_seq (address kind : Nat) (payload : Bytes) (s : State) : (sendBus address kind payload s).seq = s.seq := rfl

@[simp] theorem sendBus_tables (address kind : Nat) (payload : Bytes) (s : State) : (sendBus address kind payload s).tables = s.tables := rfl

@[simp] theorem sendBus_visits (address kind : Nat) (payload : Bytes) (s : State) : (sendBus address kind payload s).visits = s.visits := rfl

@[simp] theorem sendBus_tickets (address kind : Nat) (payload : Bytes) (s : State) : (sendBus address kind payload s).tickets = s.tickets := rfl

@[simp] theorem sendBus_port (address kind : Nat) (payload : Bytes) (s : State) : (sendBus address kind payload s).port = s.port := rfl

@[simp] theorem sendBus_sentFrames (address kind : Nat) (payload : Bytes) (s : State) :
    (sendBus address kind payload s).sentFrames = s.sentFrames ++ [{ address := address, kind := kind, payload := payload }] := by
  rfl

@[simp] theorem sendBus_pending (address kind : Nat) (payload : Bytes) (s : State) : (sendBus address kind payload s).pending = s.pending := rfl

/-! ## setRole -/

@[simp] theorem setRole_powered (at_ : Attach) (r : Role) (s : State) : (setRole at_ r s).powered = s.powered := rfl

@[simp] theorem setRole_calEnable (at_ : Attach) (r : Role) (s : State) : (setRole at_ r s).calEnable = s.calEnable := rfl

@[simp] theorem setRole_yardStop (at_ : Attach) (r : Role) (s : State) : (setRole at_ r s).yardStop = s.yardStop := rfl

@[simp] theorem setRole_engine (at_ : Attach) (r : Role) (s : State) : (setRole at_ r s).engine = s.engine := rfl

@[simp] theorem setRole_cal (at_ : Attach) (r : Role) (s : State) : (setRole at_ r s).cal = s.cal := rfl

@[simp] theorem setRole_bus (at_ : Attach) (r : Role) (s : State) : (setRole at_ r s).bus = s.bus := rfl

@[simp] theorem setRole_seq (at_ : Attach) (r : Role) (s : State) : (setRole at_ r s).seq = s.seq := rfl

@[simp] theorem setRole_tables (at_ : Attach) (r : Role) (s : State) : (setRole at_ r s).tables = s.tables := rfl

@[simp] theorem setRole_visits (at_ : Attach) (r : Role) (s : State) : (setRole at_ r s).visits = s.visits := rfl

@[simp] theorem setRole_tickets (at_ : Attach) (r : Role) (s : State) : (setRole at_ r s).tickets = s.tickets := rfl

@[simp] theorem setRole_port (at_ : Attach) (r : Role) (s : State) : (setRole at_ r s).port = s.port := rfl

@[simp] theorem setRole_sentFrames (at_ : Attach) (r : Role) (s : State) : (setRole at_ r s).sentFrames = s.sentFrames := rfl

@[simp] theorem setRole_pending (at_ : Attach) (r : Role) (s : State) : (setRole at_ r s).pending = s.pending := rfl

@[simp] theorem setRole_plan_entries (at_ : Attach) (r : Role) (s : State) : (setRole at_ r s).plan.entries = s.plan.entries := rfl

@[simp] theorem setRole_plan_nodes (at_ : Attach) (r : Role) (s : State) : (setRole at_ r s).plan.nodes = s.plan.nodes := rfl

/-! ## fresh -/

@[simp] theorem fresh_powered (s : State) : (fresh s).powered = s.powered := rfl

@[simp] theorem fresh_calEnable (s : State) : (fresh s).calEnable = s.calEnable := rfl

@[simp] theorem fresh_yardStop (s : State) : (fresh s).yardStop = s.yardStop := rfl

@[simp] theorem fresh_engine (s : State) : (fresh s).engine = s.engine := rfl

@[simp] theorem fresh_cal (s : State) : (fresh s).cal = s.cal := rfl

@[simp] theorem fresh_bus (s : State) : (fresh s).bus = s.bus := rfl

@[simp] theorem fresh_plan (s : State) : (fresh s).plan = s.plan := rfl

@[simp] theorem fresh_seq (s : State) : (fresh s).seq = s.seq := rfl

@[simp] theorem fresh_tables (s : State) : (fresh s).tables = s.tables := rfl

@[simp] theorem fresh_visits (s : State) : (fresh s).visits = s.visits := rfl

@[simp] theorem fresh_tickets (s : State) : (fresh s).tickets = s.tickets := rfl

@[simp] theorem fresh_port (s : State) : (fresh s).port = s.port := rfl

@[simp] theorem fresh_pending (s : State) : (fresh s).pending = s.pending := rfl

@[simp] theorem fresh_sentFrames (s : State) : (fresh s).sentFrames = [] := rfl

@[simp] theorem inRange_fresh (s : State) (b : BridgeId) : inRange (fresh s) b = inRange s b := rfl

@[simp] theorem granted_fresh (s : State) (b : BridgeId) : granted (fresh s) b = granted s b := rfl

@[simp] theorem beamsClear_fresh (s : State) (b : BridgeId) : beamsClear (fresh s) b = beamsClear s b := rfl

@[simp] theorem beamClear_fresh (s : State) (b : BridgeId) (e : BeamEnd) : beamClear (fresh s) b e = beamClear s b e := rfl

@[simp] theorem source_fresh (s : State) (b : BridgeId) : source (fresh s) b = source s b := rfl

@[simp] theorem roleOf_fresh (s : State) (x : Attach) : roleOf (fresh s) x = roleOf s x := rfl

@[simp] theorem filled_fresh (s : State) (x : Attach) : filled (fresh s) x = filled s x := rfl

@[simp] theorem filledNode_fresh (s : State) (x : Attach) : filledNode (fresh s) x = filledNode s x := rfl

@[simp] theorem findVehicle_fresh (s : State) (id : Text) : findVehicle (fresh s) id = findVehicle s id := rfl

@[simp] theorem findAccount_fresh (s : State) (n : Nat) : findAccount (fresh s) n = findAccount s n := rfl

@[simp] theorem visitOf_fresh (s : State) (id : Text) : visitOf (fresh s) id = visitOf s id := rfl

@[simp] theorem findVisit_fresh (s : State) (n : Nat) : findVisit (fresh s) n = findVisit s n := rfl

@[simp] theorem waitingVisit_fresh (s : State) (id : Text) : waitingVisit (fresh s) id = waitingVisit s id := rfl

@[simp] theorem activeRow_fresh (s : State) (m : Nat) : activeRow (fresh s) m = activeRow s m := rfl

@[simp] theorem rowIn_fresh (s : State) (b : BankId) (m : Nat) : rowIn (fresh s) b m = rowIn s b m := rfl

@[simp] theorem unclaimedFree_fresh (s : State) : unclaimedFree (fresh s) = unclaimedFree s := rfl

@[simp] theorem admittable_fresh (s : State) (l : LaneId) : admittable (fresh s) l = admittable s l := rfl

@[simp] theorem restState_fresh (s : State) (l : LaneId) : restState (fresh s) l = restState s l := rfl

@[simp] theorem stamp_fresh (s : State) : stamp (fresh s) = stamp s := rfl

@[simp] theorem nodeHolding_fresh (s : State) (x : Serial) : nodeHolding (fresh s) x = nodeHolding s x := rfl

@[simp] theorem planOfSerial_fresh (s : State) (x : Serial) : planOfSerial (fresh s) x = planOfSerial s x := rfl

@[simp] theorem planOfAttach_fresh (s : State) (x : Attach) : planOfAttach (fresh s) x = planOfAttach s x := rfl

@[simp] theorem inUse_fresh (s : State) (x : Attach) : inUse (fresh s) x = inUse s x := rfl

@[simp] theorem serialNow_fresh (s : State) (x : Attach) : serialNow (fresh s) x = serialNow s x := rfl

@[simp] theorem bankLocked_fresh (s : State) (b : BankId) : bankLocked (fresh s) b = bankLocked s b := rfl

@[simp] theorem closedRecord_fresh (s : State) (n : Nat) : closedRecord (fresh s) n = closedRecord s n := rfl

@[simp] theorem nextAudit_fresh (s : State) : nextAudit (fresh s) = nextAudit s := rfl

@[simp] theorem sessionOf_fresh (s : State) (b : BridgeId) : sessionOf (fresh s) b = sessionOf s b := rfl

@[simp] theorem sessionOn_fresh (s : State) (b : BridgeId) : sessionOn (fresh s) b = sessionOn s b := rfl

@[simp] theorem freeSession_fresh (s : State) (b : BridgeId) : freeSession (fresh s) b = freeSession s b := rfl

@[simp] theorem assignVisitNumber_fresh (s : State) : assignVisitNumber (fresh s) = assignVisitNumber s := rfl

@[simp] theorem noticeBody_fresh (s : State) : noticeBody (fresh s) = noticeBody s := rfl

@[simp] theorem holdsGrant_fresh (s : State) (l : LaneId) : holdsGrant (fresh s) l = holdsGrant s l := rfl

@[simp] theorem attentionWanted_fresh (s : State) (a : NodeId) : attentionWanted (fresh s) a = attentionWanted s a := rfl

@[simp] theorem reportStale_fresh (s : State) (r : QueuedReport) : reportStale (fresh s) r = reportStale s r := rfl

@[simp] theorem clearOff_fresh (s : State) (l : LaneId) : clearOff (fresh s) l = clearOff s l := rfl

@[simp] theorem bridgeEmpty_fresh (s : State) (b : BridgeId) : bridgeEmpty (fresh s) b = bridgeEmpty s b := rfl

@[simp] theorem commitWriting_fresh (s : State) : commitWriting (fresh s) = commitWriting s := rfl

@[simp] theorem withSerials_fresh (s : State) (b : BridgeId) (d : CalData) : withSerials (fresh s) b d = withSerials s b d := rfl

@[simp] theorem admissionTare_fresh (s : State) (v : Vehicle) : admissionTare (fresh s) v = admissionTare s v := rfl

@[simp] theorem reserveRefused_fresh (s : State) (n : Nat) (k : Nat) : reserveRefused (fresh s) n k = reserveRefused s n k := rfl

@[simp] theorem restoredReserveFits_fresh (s : State) (n : Nat) (i : Int) :
    restoredReserveFits (fresh s) n i = restoredReserveFits s n i := rfl

/-- A reserve a RESTORE VISIT may give: within the range, and 0 for account 0 and for a COUNCIL account. -/
theorem restoredReserveFits_iff (s : State) (n : Nat) (i : Int) : restoredReserveFits s n i = true ↔
    0 ≤ i ∧ i ≤ 100000000 ∧ (n = 0 → i = 0) ∧ (∀ x, findAccount s n = some x → x.kind = .council → i = 0) := by
  unfold restoredReserveFits within
  cases findAccount s n <;> simp [and_assoc, ← imp_iff_not_or, Option.some.injEq]

@[simp] theorem visitRow_fresh (s : State) (v : Visit) : visitRow (fresh s) v = visitRow s v := rfl

@[simp] theorem laneTimerRuns_fresh (s : State) (l : LaneId) (k : LaneTimer) : laneTimerRuns (fresh s) l k = laneTimerRuns s l k := rfl

@[simp] theorem ticketWaits_fresh (s : State) (l : LaneId) (t : Nat) : ticketWaits (fresh s) l t = ticketWaits s l t := rfl

@[simp] theorem headPrints_fresh (s : State) (l : LaneId) : headPrints (fresh s) l = headPrints s l := rfl

@[simp] theorem liveBody_fresh (s : State) : liveBody (fresh s) = liveBody s := rfl

@[simp] theorem canClaim_fresh (k : Nat) (s : State) : canClaim k (fresh s) = canClaim k s := rfl

end Sys2Proof.Machine
end

