-- ==== Sys2Proof/Laws/Offers.lean ====
section
/-! SUPPORT. What an offer to the command queue can change, said once: the queue, what a command pushed out leaves behind at its originator, and the pass-through outcomes. -/
namespace Sys2Proof.Machine

/-- A station with its command state put away: the image, the settings, the mark and the motion timer. -/
def Station.core (x : Station) : Station :=
  { x with outArm := none, outSignal := none, outOff := false, outOn := false, retry := none, retryOff := none,
           retryOn := none }

/-- A lane with the command state of its stations put away. -/
def Lane.core (x : Lane) : Lane := { x with entry := x.entry.core, exit := x.exit.core }

/-- A printer context with its command state put away. -/
def Printer.core (p : Printer) : Printer := { p with outstanding := false, retry := none }

/-- All that an offer, taken or refused, leaves as it was. -/
structure OfferFrame (s t : State) : Prop where
  powered : t.powered = s.powered
  calEnable : t.calEnable = s.calEnable
  yardStop : t.yardStop = s.yardStop
  engine : t.engine = s.engine
  cal : t.cal = s.cal
  tables : t.tables = s.tables
  visits : t.visits = s.visits
  sentFrames : t.sentFrames = s.sentFrames
  pending : t.pending = s.pending
  bus : t.bus = { s.bus with queue := t.bus.queue, heldResets := t.bus.heldResets }
  plan : t.plan = { s.plan with nodes := t.plan.nodes }
  binding : ∀ a : NodeId, (t.plan.nodes[a.val]).binding = (s.plan.nodes[a.val]).binding
  bridges : t.seq.bridges = s.seq.bridges
  lanes : ∀ l : LaneId, (t.seq.lanes[l.val]).core = (s.seq.lanes[l.val]).core
  tickets : t.tickets = { s.tickets with printers := t.tickets.printers }
  printers : ∀ l : LaneId, (t.tickets.printers[l.val]).core = (s.tickets.printers[l.val]).core
  port : t.port = { s.port with pass := t.port.pass, sending := t.port.sending, waiting := t.port.waiting }

theorem OfferFrame.refl (s : State) : OfferFrame s s := by constructor <;> intros <;> rfl

theorem OfferFrame.trans {s t u : State} (h : OfferFrame s t) (k : OfferFrame t u) : OfferFrame s u where
  powered := k.powered.trans h.powered
  calEnable := k.calEnable.trans h.calEnable
  yardStop := k.yardStop.trans h.yardStop
  engine := k.engine.trans h.engine
  cal := k.cal.trans h.cal
  tables := k.tables.trans h.tables
  visits := k.visits.trans h.visits
  sentFrames := k.sentFrames.trans h.sentFrames
  pending := k.pending.trans h.pending
  bus := by rw [k.bus, h.bus]
  plan := by rw [k.plan, h.plan]
  binding a := (k.binding a).trans (h.binding a)
  bridges := k.bridges.trans h.bridges
  lanes l := (k.lanes l).trans (h.lanes l)
  tickets := by rw [k.tickets, h.tickets]
  printers l := (k.printers l).trans (h.printers l)
  port := by rw [k.port, h.port]

/-- A fold of operations that keep the frame keeps it. -/
theorem OfferFrame.foldl {α : Type} {f : State → α → State} (h : ∀ s x, OfferFrame s (f s x)) (xs : List α) (s : State) :
    OfferFrame s (xs.foldl f s) := by
  induction xs generalizing s with
  | nil => exact OfferFrame.refl s
  | cons x xs ih => exact (h s x).trans (ih (f s x))

/-! ## The operations -/

theorem modBus_queue_frame (s : State) (f : Bus → Bus)
    (h : f s.bus = { s.bus with queue := (f s.bus).queue, heldResets := (f s.bus).heldResets }) :
    OfferFrame s (modBus f s) := by
  constructor <;> first | (intros; rfl) | exact h

theorem makeReady_frame (x : OutFrame) (s : State) : OfferFrame s (makeReady x s) := by
  unfold makeReady startSending
  split
  · exact OfferFrame.refl s
  · split <;> (constructor <;> intros <;> rfl)

theorem modStation_frame (l : LaneId) (e : LaneEnd) (f : Station → Station) (h : ∀ x, (f x).core = x.core) (s : State) :
    OfferFrame s (modStation l e f s) := by
  constructor <;> first | (intros; rfl) | skip
  intro k
  have hc : ∀ x : Lane, (Lane.changeStation e f x).core = x.core := by
    intro x
    cases e <;> simp [Lane.changeStation, Lane.core, h]
  rw [modStation_seq, getElem_alter]
  split
  · exact hc _
  · rfl

theorem modPrinter_frame (l : LaneId) (f : Printer → Printer) (h : ∀ p, (f p).core = p.core) (s : State) :
    OfferFrame s (modPrinter l f s) := by
  constructor <;> first | (intros; rfl) | skip
  intro k
  rw [modPrinter_tickets, getElem_alter]
  split
  · exact h _
  · rfl

theorem modPlanNode_frame (a : NodeId) (f : PlanNode → PlanNode) (h : ∀ n, (f n).binding = n.binding) (s : State) :
    OfferFrame s (modPlanNode a f s) := by
  constructor <;> first | (intros; rfl) | skip
  intro k
  rw [modPlanNode_plan, getElem_alter]
  split
  · exact h _
  · rfl

theorem stationRetry_frame (l : LaneId) (e : LaneEnd) (f : CommandFrame) (s : State) :
    OfferFrame s (stationRetry l e f s) := by
  unfold stationRetry
  split <;> first | exact OfferFrame.refl s | (apply modStation_frame; intro; rfl)

theorem passEnds_frame (e : PassEntry) (left : List PassEntry) (body : Bytes) (s : State) :
    OfferFrame s (passEnds e left body s) := by
  unfold passEnds
  refine OfferFrame.trans ?_ (makeReady_frame _ _)
  constructor <;> intros <;> rfl

theorem passOutcome_frame (e : PassEntry) (body : Bytes) (s : State) : OfferFrame s (passOutcome e body s) :=
  passEnds_frame e _ body s

theorem passDropped_frame (e : PassEntry) (s : State) : OfferFrame s (passDropped e s) := passEnds_frame e _ [4] s

theorem holdReset_frame (c : Command) (s : State) : OfferFrame s (holdReset c s) := by
  unfold holdReset
  split
  · exact modBus_queue_frame s _ rfl
  · exact OfferFrame.refl s

theorem placeHeld_frame (k : Nat) (s : State) : OfferFrame s (modBus (placeHeld k) s) := modBus_queue_frame s _ rfl

theorem tellDropped_frame (c : Command) (s : State) : OfferFrame s (tellDropped c s) := by
  unfold tellDropped
  split
  · exact holdReset_frame c s
  · exact OfferFrame.refl s
  · apply modPlanNode_frame; intro; rfl
  · exact OfferFrame.refl s
  · exact stationRetry_frame _ _ _ s
  · split
    · apply modPrinter_frame; intro; rfl
    · exact OfferFrame.refl s
  · exact passDropped_frame _ s

theorem placeDriveOff_frame (c : Command) (s : State) : OfferFrame s (placeDriveOff c s) := by
  unfold placeDriveOff
  refine OfferFrame.trans ?_ (OfferFrame.foldl (fun s c => tellDropped_frame c s) _ _)
  refine OfferFrame.trans ?_ (placeHeld_frame _ _)
  refine OfferFrame.trans ?_ (OfferFrame.foldl (fun s c => tellDropped_frame c s) _ _)
  apply modBus_queue_frame
  rfl

/-- An offer changes the command queue and what commands pushed out of it leave behind; a refusal changes nothing. -/
theorem offer_frame (a : NodeId) (f : CommandFrame) (o : Origin) (s : State) : OfferFrame s (offer a f o s).1 := by
  unfold offer
  dsimp only
  split_ifs
  all_goals first | exact OfferFrame.refl s | exact placeDriveOff_frame _ s | (dsimp only; apply modBus_queue_frame; rfl)

theorem offer_refused {a : NodeId} {f : CommandFrame} {o : Origin} {s t : State} {r : OfferRefusal}
    (h : offer a f o s = (t, some r)) : t = s := by
  unfold offer at h
  dsimp only at h
  split_ifs at h <;> simp_all

/-- A command that is no DRIVE OFF, for an ACTIVE entry, within its payload and with room, joins the tail (R63). -/
theorem offer_taken {a : NodeId} {f : CommandFrame} {o : Origin} {s : State} (hs : (s.bus.nodes[a.val]).state = .active)
    (hp : f.payload.length ≤ ((s.bus.nodes[a.val]).desc.map (·.maxPayload)).getD 32) (hf : f ≠ .driveOff)
    (hq : s.bus.queue.length < 16) :
    offer a f o s
      = (modBus (fun x => { x with queue := x.queue ++ [{ node := a, frame := f, origin := o, sent := false }] }) s, none) := by
  unfold offer
  simp only [Fin.getElem_fin]
  rw [if_neg (by simp [hs]), if_neg (by omega), if_neg hf, if_neg (by simp [Config.commandSlots]; omega)]

theorem offerDisplay_frame (l : LaneId) (d : Display) (s : State) : OfferFrame s (offerDisplay l d s) := by
  unfold offerDisplay
  split
  · exact offer_frame _ _ _ s
  · exact OfferFrame.refl s

theorem offerDriveOff_frame (l : LaneId) (e : LaneEnd) (a : NodeId) (s : State) :
    OfferFrame s (offerDriveOff l e a s) := by
  unfold offerDriveOff
  have := offer_frame a .driveOff (.station l e) s
  rcases hh : offer a .driveOff (.station l e) s with ⟨u, _ | _ | _ | _⟩ <;> rw [hh] at this
  · exact this.trans (by apply modStation_frame; intro; rfl)
  · exact this
  · exact this
  · exact this.trans (by apply modStation_frame; intro; rfl)

theorem offerDriveOn_frame (l : LaneId) (e : LaneEnd) (a : NodeId) (s : State) :
    OfferFrame s (offerDriveOn l e a s) := by
  unfold offerDriveOn
  have := offer_frame a .driveOn (.station l e) s
  rcases hh : offer a .driveOn (.station l e) s with ⟨u, _ | _ | _ | _⟩ <;> rw [hh] at this
  · exact this.trans (by apply modStation_frame; intro; rfl)
  · exact this
  · exact this
  · exact this.trans (by apply modStation_frame; intro; rfl)

theorem offerDrive_frame (l : LaneId) (e : LaneEnd) (a : NodeId) (s : State) : OfferFrame s (offerDrive l e a s) := by
  unfold offerDrive
  dsimp only
  split_ifs
  all_goals first | exact OfferFrame.refl s | exact offerDriveOff_frame l e a s | exact offerDriveOn_frame l e a s

theorem offerSignal_frame (l : LaneId) (e : LaneEnd) (a : NodeId) (s : State) : OfferFrame s (offerSignal l e a s) := by
  unfold offerSignal
  dsimp only
  split_ifs
  · exact OfferFrame.refl s
  · have := offer_frame a (.signal ((s.seq.lanes[l]).station e).wantSignal) (.station l e) s
    rcases hh : offer a (.signal ((s.seq.lanes[l]).station e).wantSignal) (.station l e) s with ⟨u, _ | _ | _ | _⟩ <;>
      rw [hh] at this
    · exact this.trans (by apply modStation_frame; intro; rfl)
    · exact this
    · exact this
    · exact this.trans (by apply modStation_frame; intro; rfl)

theorem offerArm_frame (l : LaneId) (e : LaneEnd) (a : NodeId) (c : ArmCommand) (s : State) :
    OfferFrame s (offerArm l e a c s).1 := by
  unfold offerArm
  have := offer_frame a (.arm c) (.station l e) s
  rcases hh : offer a (.arm c) (.station l e) s with ⟨u, _ | _ | _ | _⟩ <;> rw [hh] at this <;> dsimp only
  · exact this.trans (by apply modStation_frame; intro; rfl)
  · exact this
  · exact this
  · exact this.trans (by apply modStation_frame; intro; rfl)

theorem offerArmDue_frame (l : LaneId) (e : LaneEnd) (a : NodeId) (s : State) :
    OfferFrame s (offerArmDue l e a s).1 := by
  unfold offerArmDue
  split
  · exact OfferFrame.refl s
  · rename_i c _
    have h := offerArm_frame l e a c s
    rcases hh : offerArm l e a c s with ⟨u, _ | _ | _ | _⟩ <;> rw [hh] at h <;> exact h

/-- The offers of R110 change nothing but what offers change. -/
theorem offerStation_frame (l : LaneId) (e : LaneEnd) (s : State) : OfferFrame s (offerStation l e s).1 := by
  unfold offerStation
  split
  · exact OfferFrame.refl s
  · exact ((offerDrive_frame l e _ s).trans (offerSignal_frame l e _ _)).trans (offerArmDue_frame l e _ _)

theorem showState_frame (l : LaneId) (s : State) : OfferFrame s (showState l s) := by
  unfold showState
  split
  · exact offerDisplay_frame l _ s
  · exact OfferFrame.refl s

/-- What held resets bring into the queue: NODE RESETs of the controller's own, and nothing else (R63). -/
theorem placeHeld_mem {k : Nat} {x : Bus} {c : Command} (h : c ∈ (placeHeld k x).queue) :
    c ∈ x.queue ∨ ∃ r ∈ x.heldResets, c = r.command := by
  simp only [placeHeld, List.mem_append, List.mem_map] at h
  rcases h with h | ⟨r, hr, rfl⟩
  · exact .inl h
  · exact .inr ⟨r, List.mem_of_mem_take hr, rfl⟩

/-- Held resets never make the queue longer than 16 commands (R63). -/
theorem placeHeld_length (k : Nat) (x : Bus) (h : x.queue.length ≤ Config.commandSlots) :
    (placeHeld k x).queue.length ≤ Config.commandSlots := by
  simp only [placeHeld, List.length_append, List.length_map, List.length_take]
  omega

/-! ## What the frame gives -/

theorem OfferFrame.nodes {s t : State} (h : OfferFrame s t) : t.bus.nodes = s.bus.nodes := by rw [h.bus]

theorem OfferFrame.reports {s t : State} (h : OfferFrame s t) : t.bus.reports = s.bus.reports := by rw [h.bus]

theorem OfferFrame.records {s t : State} (h : OfferFrame s t) : t.port.records = s.port.records := by rw [h.port]

theorem OfferFrame.claims {s t : State} (h : OfferFrame s t) : t.port.claims = s.port.claims := by rw [h.port]

theorem OfferFrame.roles {s t : State} (h : OfferFrame s t) : t.plan.roles = s.plan.roles := by rw [h.plan]

theorem OfferFrame.state {s t : State} (h : OfferFrame s t) (l : LaneId) :
    (t.seq.lanes[l.val]).state = (s.seq.lanes[l.val]).state := by
  have h' := congrArg Lane.state (h.lanes l)
  exact h'

theorem OfferFrame.arm {s t : State} (h : OfferFrame s t) (l : LaneId) (e : LaneEnd) :
    ((t.seq.lanes[l.val]).station e).arm = ((s.seq.lanes[l.val]).station e).arm := by
  cases e
  · have h' := congrArg (fun x : Lane => x.entry.arm) (h.lanes l)
    exact h'
  · have h' := congrArg (fun x : Lane => x.exit.arm) (h.lanes l)
    exact h'

end Sys2Proof.Machine
end

