-- ==== Sys2Proof/Laws/Operands.lean ====
section
/-! SUPPORT. What taking a request does: the one lemma through which a statement about a request reaches its owner. -/
namespace Sys2Proof.Machine

/-! ## Names in range -/

@[simp] theorem bridgeOf_val (b : BridgeId) : bridgeOf (b.val + 1) = some b := by simp [bridgeOf]

@[simp] theorem laneOf_val (l : LaneId) : laneOf (l.val + 1) = some l := by simp [laneOf]

@[simp] theorem nodeOf_val (a : NodeId) : nodeOf (a.val + 1) = some a := by simp [nodeOf]

@[simp] theorem planOf_val (p : PlanId) : planOf (p.val + 1) = some p := by simp [planOf]

@[simp] theorem posOf_val (p : CellPos) : posOf (p.val + 1) = some p := by simp [posOf]

@[simp] theorem bankOf_val (b : BankId) : bankOf b.val = some b := by
  have := b.isLt
  simp [bankOf]
  omega

theorem bridgeOf_none {n : Nat} (h : n < 1 ∨ 4 < n) : bridgeOf n = none := by
  simp [bridgeOf]
  omega

/-! ## Taking a request -/

/-- A request the owner has given back: its answer, unless deferred, is made ready and the frame leaves the buffer. -/
def finishRequest (tag : Byte) (r : Reply) : State :=
  match r with
  | (s, some (e, body)) => answered tag e body s
  | (s, none) => popRequest s

@[simp] theorem finishRequest_reply (tag : Byte) (r : Result) (s : State) :
    finishRequest tag (reply r s) = answered tag r [] s := rfl

@[simp] theorem finishRequest_replyWith (tag : Byte) (r : Result) (body : Bytes) (s : State) :
    finishRequest tag (replyWith r body s) = answered tag r body s := rfl

@[simp] theorem finishRequest_deferred (tag : Byte) (s : State) : finishRequest tag (s, none) = popRequest s := rfl

theorem act_of_powered {f : State → State} {s : State} (h : s.powered = true) : act f s = .next (f (fresh s)) := by
  simp [act, h, fresh]

theorem act_of_unpowered {f : State → State} {s : State} (h : s.powered = false) : act f s = .next s := by
  simp [act, h]

/-- The request at the head reaches its owner with its values. -/
theorem take_requestAt {s : State} {code : Nat} {layout : List Field} {tag : Byte} {vs : List (Option Value)}
    (owner : Byte → List (Option Value) → State → Reply) (h : RequestAt s code layout tag vs) :
    act (takeRequest code layout owner) s = .next (finishRequest tag (owner tag vs (fresh s))) := by
  obtain ⟨body, ⟨hp, hr, r, rest, hb, hk, rfl, rfl⟩, hv⟩ := h
  rw [act_of_powered hp]
  simp only [takeRequest, fresh_port, hb, hr, hk, Bool.false_eq_true, ne_eq, not_true_eq_false, or_self, if_false, hv]
  rcases owner r.tag vs (fresh s) with ⟨s', _ | ⟨e, b⟩⟩ <;> rfl

/-- A request whose body fails the port's tests is answered with the result of the test (R197). -/
theorem take_badBody {s : State} {code : Nat} {layout : List Field} {tag : Byte} {body : Bytes} {e : Result}
    (owner : Byte → List (Option Value) → State → Reply) (h : HeadIs s code tag body) (hb : readBody layout body = .error e) :
    act (takeRequest code layout owner) s = .next (answered tag e [] (fresh s)) := by
  obtain ⟨hp, hr, r, rest, hq, hk, rfl, rfl⟩ := h
  rw [act_of_powered hp]
  simp only [takeRequest, fresh_port, hq, hr, hk, Bool.false_eq_true, ne_eq, not_true_eq_false, or_self, if_false, hb]
  rfl

/-- With no frame of its kind to take, a request command does nothing. -/
theorem take_otherHead {s : State} {code : Nat} {layout : List Field}
    (owner : Byte → List (Option Value) → State → Reply) (hp : s.powered = true)
    (h : s.port.restarting = true ∨ ∀ r ∈ s.port.buffer.head?, r.kind.toNat ≠ code) :
    act (takeRequest code layout owner) s = .next (fresh s) := by
  rw [act_of_powered hp]
  have hport : (fresh s).port = s.port := rfl
  generalize fresh s = u at hport
  unfold takeRequest
  rw [hport]
  rcases hb : s.port.buffer with _ | ⟨r, rest⟩
  · rfl
  · have : s.port.restarting = true ∨ r.kind.toNat ≠ code := by
      rcases h with h | h
      · exact .inl h
      · exact .inr (h r (by simp [hb]))
    simp only
    rw [if_pos this]

end Sys2Proof.Machine
end

