-- ==== Sys2Proof/Laws/Records.lean ====
section
/-! SUPPORT. What the operations of the record queue and of the transmitter can do, each said once (R198 to R202). -/
namespace Sys2Proof.Machine

/-- All that queuing a record, spending a claim or making a frame ready leaves as it was. -/
structure RecordFrame (s t : State) : Prop where
  rest : t = { s with port := t.port }
  port : t.port = { s.port with records := t.port.records, nextRecord := t.port.nextRecord, claims := t.port.claims,
                                dropped := t.port.dropped, sending := t.port.sending, waiting := t.port.waiting }

theorem RecordFrame.refl (s : State) : RecordFrame s s := ⟨rfl, rfl⟩

theorem RecordFrame.trans {s t u : State} (h : RecordFrame s t) (k : RecordFrame t u) : RecordFrame s u :=
  ⟨by rw [k.rest, h.rest], by rw [k.port, h.port]⟩

/-! ## Frames made ready (R198) -/

/-- A frame made ready touches the transmitter and nothing else. -/
theorem makeReady_rest (f : OutFrame) (s : State) :
    makeReady f s = { s with port := { s.port with sending := (makeReady f s).port.sending,
                                                   waiting := (makeReady f s).port.waiting } } := by
  unfold makeReady startSending
  split
  · rfl
  · split <;> rfl

/-- What a frame made ready adds to the frames the port owes. -/
theorem makeReady_outgoing (f : OutFrame) (s : State) (h : s.port.sending = none → s.port.waiting = []) :
    outgoing (makeReady f s).port = if s.port.up then outgoing s.port ++ [f] else outgoing s.port := by
  unfold makeReady startSending outgoing
  rcases hu : s.port.up with _ | _
  · simp
  · rcases hs : s.port.sending with _ | x
    · simp [h hs]
    · simp [hs]

/-- Frames that the port owes stay owed. -/
theorem mem_outgoing_makeReady {f g : OutFrame} {s : State} (h : g ∈ outgoing s.port) :
    g ∈ outgoing (makeReady f s).port := by
  unfold makeReady startSending
  split
  · exact h
  · split
    · rename_i h1 h2
      rw [Option.isNone_iff_eq_none] at h2
      simp [outgoing, h2] at h ⊢
      exact .inr h
    · simp only [modPort_port, outgoing, List.mem_append] at h ⊢
      tauto

/-- A frame made ready while the link is UP is owed. -/
theorem makeReady_mem {f : OutFrame} {s : State} (h : s.port.up = true) : f ∈ outgoing (makeReady f s).port := by
  unfold makeReady startSending
  rw [if_neg (by simp [h])]
  split <;> simp [outgoing]

theorem answer_frame (tag : Byte) (r : Result) (body : Bytes) (s : State) : RecordFrame s (answer tag r body s) := by
  unfold answer
  refine ⟨?_, ?_⟩ <;> rw [makeReady_rest]

/-! ## Records (R199 to R201) -/

/-- A record queued: it stands at the tail under the next number, and the claims stay. -/
theorem enqueueRecord_spec (body : RecordBody) (s : State) :
    RecordFrame s (enqueueRecord body s)
      ∧ (enqueueRecord body s).port.records
          = s.port.records ++ [{ number := s.port.nextRecord, time := stamp s, body := body }]
      ∧ (enqueueRecord body s).port.nextRecord = nextNumber s.port.nextRecord
      ∧ (enqueueRecord body s).port.claims = s.port.claims ∧ (enqueueRecord body s).port.dropped = s.port.dropped := by
  unfold enqueueRecord
  dsimp only
  split
  · refine ⟨⟨?_, ?_⟩, ?_, ?_, ?_, ?_⟩ <;> rw [makeReady_rest] <;> rfl
  · exact ⟨⟨rfl, rfl⟩, rfl, rfl, rfl, rfl⟩

/-- An unclaimed record is queued with room and counted as dropped without (R201). -/
theorem queueRecord_spec (body : RecordBody) (s : State) :
    RecordFrame s (queueRecord body s) ∧ (queueRecord body s).port.claims = s.port.claims
      ∧ (1 ≤ unclaimedFree s → (queueRecord body s).port.records
          = s.port.records ++ [{ number := s.port.nextRecord, time := stamp s, body := body }])
      ∧ (unclaimedFree s = 0 → (queueRecord body s).port.records = s.port.records) := by
  unfold queueRecord
  split
  · obtain ⟨h1, h2, h3, h4, h5⟩ := enqueueRecord_spec body s
    exact ⟨h1, h4, fun _ => h2, fun h => by omega⟩
  · exact ⟨⟨rfl, rfl⟩, rfl, fun h => by omega, fun _ => rfl⟩

/-- A claimed record spends one claim and is queued (R200). -/
theorem spendClaim_spec (body : RecordBody) (s : State) (h : 1 ≤ s.port.claims) :
    RecordFrame s (spendClaim body s) ∧ (spendClaim body s).port.claims = s.port.claims - 1
      ∧ (spendClaim body s).port.records
          = s.port.records ++ [{ number := s.port.nextRecord, time := stamp s, body := body }] := by
  unfold spendClaim
  rw [if_pos h]
  obtain ⟨h1, h2, h3, h4, h5⟩ := enqueueRecord_spec body (modPort (fun p => { p with claims := p.claims - 1 }) s)
  have h0 : RecordFrame s (modPort (fun p => { p with claims := p.claims - 1 }) s) := ⟨rfl, rfl⟩
  exact ⟨h0.trans h1, h4, h2⟩

/-- Records queued stay queued under every operation of the queue but a release. -/
theorem mem_queueRecord {body : RecordBody} {s : State} {r : Record} (h : r ∈ s.port.records) :
    r ∈ (queueRecord body s).port.records := by
  obtain ⟨-, -, h3, h4⟩ := queueRecord_spec body s
  rcases Nat.eq_zero_or_pos (unclaimedFree s) with h0 | h0
  · rw [h4 h0]; exact h
  · rw [h3 h0]; exact List.mem_append_left _ h

/-! ## The law of the queue (R200) -/

theorem RecordLaw.queueRecord {s : State} (h : RecordLaw s) (body : RecordBody) : RecordLaw (queueRecord body s) := by
  obtain ⟨-, h2, h3, h4⟩ := queueRecord_spec body s
  unfold RecordLaw at *
  rcases Nat.eq_zero_or_pos (unclaimedFree s) with h0 | h0
  · rw [h2, h4 h0]; exact h
  · rw [h2, h3 h0]
    simp [unclaimedFree] at h0 ⊢
    omega

theorem RecordLaw.spendClaim {s : State} (h : RecordLaw s) (body : RecordBody) : RecordLaw (spendClaim body s) := by
  by_cases hc : 1 ≤ s.port.claims
  · obtain ⟨-, h2, h3⟩ := spendClaim_spec body s hc
    unfold RecordLaw at *
    rw [h2, h3]
    simp
    omega
  · unfold Machine.spendClaim
    rw [if_neg hc]
    exact h.queueRecord body

theorem RecordLaw.takeClaims {s : State} (h : RecordLaw s) (k : Nat) : RecordLaw (takeClaims k s) := by
  unfold Machine.takeClaims
  split
  · rename_i hk
    unfold RecordLaw unclaimedFree at *
    simp
    omega
  · exact h

theorem RecordLaw.releaseClaims {s : State} (h : RecordLaw s) (k : Nat) : RecordLaw (releaseClaims k s) := by
  unfold RecordLaw at *
  simp [Machine.releaseClaims]
  omega

theorem RecordLaw.offer {s t : State} (h : RecordLaw s) (k : OfferFrame s t) : RecordLaw t := by
  unfold RecordLaw at *
  rw [k.records, k.claims]
  exact h

end Sys2Proof.Machine
end

