-- ==== Sys2Proof/Laws/Store.lean ====
section
/-! SUPPORT. What the operations of the nonvolatile store can do, each said once (R30, R31). -/
namespace Sys2Proof.Machine

/-- A write asked for with none in flight starts (R31). -/
theorem askWrite_idle {s : State} (w : StoreWrite) (h : s.cal.store.inFlight = none) :
    askWrite w s = modStore (fun st => { st with inFlight := some w }) s := by
  simp [askWrite, modStore, h]

/-- A write asked for behind another waits at the tail (R31). -/
theorem askWrite_busy {s : State} (w : StoreWrite) (h : s.cal.store.inFlight ≠ none) :
    askWrite w s = modStore (fun st => { st with asked := st.asked ++ [w] }) s := by
  rcases hf : s.cal.store.inFlight with _ | x
  · exact absurd hf h
  · simp [askWrite, modStore, hf]

/-- Whatever waits, asking for a write changes the store's two lists of writes and nothing else: the write begins, or joins
the tail of those asked for. -/
theorem askWriteBehindReset_cases (w : StoreWrite) (s : State) :
    (s.port.resetAsked = none ∧ s.cal.store.inFlight = none
        ∧ askWriteBehindReset w s = modStore (fun st => { st with inFlight := some w }) s)
      ∨ ((s.port.resetAsked ≠ none ∨ s.cal.store.inFlight ≠ none)
        ∧ askWriteBehindReset w s = modStore (fun st => { st with asked := st.asked ++ [w] }) s) := by
  rcases hr : s.port.resetAsked with _ | k
  · rcases hf : s.cal.store.inFlight with _ | x
    · exact .inl ⟨rfl, rfl, by simp [askWriteBehindReset, hr, askWrite_idle w hf]⟩
    · refine .inr ⟨.inr (by simp), ?_⟩
      simp [askWriteBehindReset, hr, askWrite_busy w (show s.cal.store.inFlight ≠ none by simp [hf])]
  · exact .inr ⟨.inl (by simp), by simp [askWriteBehindReset, hr]⟩

/-- With no write waiting, the store is idle after a completion. -/
theorem nextWrite_nil {s : State} (h : s.cal.store.asked = []) :
    nextWrite s = modStore (fun st => { st with inFlight := none }) s := by
  simp [nextWrite, modStore, h]

/-- The oldest write waiting starts after a completion. -/
theorem nextWrite_cons {s : State} {w : StoreWrite} {rest : List StoreWrite} (h : s.cal.store.asked = w :: rest) :
    nextWrite s = modStore (fun st => { st with inFlight := some w, asked := rest }) s := by
  simp [nextWrite, modStore, h]

/-- With no warm reset waiting, the end of a write starts the oldest write asked for (R31). -/
theorem writeEnds_next {s : State} (h : s.port.resetAsked = none) : writeEnds s = nextWrite s := by
  simp [writeEnds, h]

/-- With a warm reset waiting, the end of a write leaves the store idle, and what was asked for stays asked (R31). -/
theorem writeEnds_reset {s : State} {k : ResetKind} (h : s.port.resetAsked = some k) :
    writeEnds s = modStore (fun st => { st with inFlight := none }) s := by
  simp [writeEnds, h]

/-- A written item is VALID and passes its check (R30). -/
theorem checkItem_written {α : Type} (encode : α → Bytes) (x : α) : checkItem encode (written encode x) = written encode x := by
  simp [checkItem, written]

/-- An item whose write was cut off fails its check, whatever it holds (R31). -/
theorem checkItem_broken {α : Type} (encode : α → Bytes) (i : StoreItem α) :
    (checkItem encode (brokenItem encode i)).valid = false := by
  simp only [checkItem, brokenItem]
  rw [beq_eq_false_iff_ne]
  intro h
  have := congrArg (fun b : BitVec 16 => b.getLsbD 0) h
  simp at this

/-- Running the checks changes no contents (R30). -/
theorem checkStore_contents (st : Store) :
    (∀ b : BridgeId, ((checkStore st).records[b]).content = (st.records[b]).content)
      ∧ (checkStore st).counter.content = st.counter.content ∧ (checkStore st).ticket.content = st.ticket.content := by
  refine ⟨fun b => ?_, rfl, rfl⟩
  simp [checkStore, checkItem]

end Sys2Proof.Machine
end

