-- ==== Sys2Proof/WellFormed.lean ====
section
/-! DEFINITION. Which command terms stand for an event the spec describes. Operands that name a bridge, a lane, an end or an entry are in range by their types; what is left is checked here. -/
namespace Sys2Proof

open Sys2Proof.Machine

/-- The report kinds of R215. -/
def reportKinds : List Byte := [0x50, 0x51, 0x52, 0x53, 0x54, 0x55, 0x58, 0x59, 0x5A]

/-- A well-formed command: a frame row carries the kind of frame its row names. OFFICE_FRAME carries a valid
frame and FRAME_DISCARD one that is not (R193); REPORT carries a kind of R215; every answer on the bus has at most 255
payload bytes, since its length is one byte. -/
def WellFormed : Instr → Bool
  | .officeFrame f => frameValid f
  | .frameDiscard f => !frameValid f
  | .report kind f => reportKinds.contains kind && decide (f.payload.length ≤ 255)
  | .sample f => decide (f.payload.length ≤ 255)
  | .present f => decide (f.payload.length ≤ 255)
  | .ack f => decide (f.payload.length ≤ 255)
  | .nakRefused f => decide (f.payload.length ≤ 255)
  | .reply f => decide (f.payload.length ≤ 255)
  | .descriptor f => decide (f.payload.length ≤ 255)
  | .responseError _ f => decide (f.payload.length ≤ 255)
  | _ => true

end Sys2Proof
end

