-- ==== Sys2Proof/Tests/Slice0.lean ====
section
/-! SUPPORT. Tests: ill-formed terms that WellFormed refuses, the spec's worked figures, and for each statement a state and operands that meet its hypotheses. -/
namespace Sys2Proof.Tests
open Sys2Proof.Machine

set_option Elab.async false

/-! ## A small yard: the one of section 11.1 with two cells under bridge 1 -/

/-- The attachments planned, entry by entry; node and entry of a place have the same index. -/
def places : List Attach :=
  [.cell 0 0, .cell 0 1, .beams 0, .station 0 .entry, .station 0 .exit, .terminal 0, .printer 0, .station 1 .entry,
   .station 1 .exit, .terminal 1, .printer 1]

/-- The serial of the node at a place. -/
def serialAt (i : Nat) : Serial := BitVec.ofNat 48 (0x7700 + i)

/-- The node table entry of a place. -/
def nodeAt (i : Nat) : NodeEntry :=
  match places[i]? with
  | some x => { NodeEntry.fresh with
      state := .active, serial := some (serialAt i), attention := x.kind != .loadCell,
      desc := some { kind := x.kind, maxPayload := 32, width := if x.kind = .printer then 48 else 0 } }
  | none => NodeEntry.fresh

/-- Bridge 1's calibration: two cells of gain 1, e = 20, Max = 60,000. -/
def cal1 : CalData :=
  { CalData.default 2 with
    cells := put (put (CalData.default 2).cells 0 { serial := some (serialAt 0), z := 0, s := 65536 }) 1
      { serial := some (serialAt 1), z := 0, s := 65536 },
    e := 20, max := 60000 }

def record1 : CalRecord := { data := cal1, commitTime := { secs := 1719800000, set := true }, audit := 41 }

/-- A cell entry with a count. -/
def sampled (count : Int) : SampleEntry :=
  { count := some count, seq := some 7, stale := 0, overrange := false, underrange := false, cellFault := false,
    missed := false, advanced := true }

/-- Bridge 1: empty, stable at 0, its zero established. -/
def engine1 : Engine :=
  { Engine.cold true with
    samples := put (put (Engine.cold true).samples 0 (sampled 0)) 1 (sampled 0),
    filter := List.replicate 8 0, motion := List.replicate 8 0, hold := 10, zero := some { zb := 0, zinit := 0 },
    w := some 0, live := .stable, wAvg := some 0, zeroReturn := true, status := .ready,
    reasons := { calibrationInvalid := false, cellUnfilled := false, beamUnfilled := false, zeroUnset := false },
    stable := true, occupied := false }

/-- A station at rest: arm down, loop clear, signal red, drives on. -/
def stationAtRest : Station :=
  { Station.cold false with arm := .down, loop := .clear, signal := some .red, drive := .on }

/-- An open lane in IDLE on bridge 1. -/
def laneOf1 (d : Direction) (f : LaneFunction) : Lane :=
  { Lane.cold false with
    config := some {
      bridge := 0, direction := d, function := f, releaseOnFailure := false, entryTime := 90, askTime := 60,
      stabilityTime := 30, clearanceTime := 60, motionTime := 8, printTime := 20 },
    isOpen := true, state := .idle, entry := stationAtRest, exit := stationAtRest }

/-- Material 3 of section 11.1. -/
def row3 : TariffRow :=
  { material := 3, kind := .delivery, gate := 8400, levy := 3000, minimum := 1500, restricted := false }

/-- Account 12 of section 11.1. -/
def account12 : Account :=
  { number := 12, kind := .council, balance := 4812300, limit := 0, reserve := 0, isHeld := false, overLimit := false,
    reserved := 0, visits := 0 }

/-- Vehicle KC-0071 of section 11.1. -/
def kc0071 : Vehicle :=
  { id := ascii "KC-0071", account := 12, tare := some 10960, expiry := some 19960, maxGross := some 32000,
    material := some 3, permit := false, attendance := false }

/-- The yard of section 11.1 with the link UP. -/
def yard : State :=
  let r := State.reset
  places.zipIdx.foldl (fun s x => setRole x.1 { fill := .filled, node := some (⟨x.2 % 32, by omega⟩, serialAt x.2) } s)
    { r with
      engine := put r.engine 0 engine1,
      cal := { r.cal with store := { r.cal.store with
        records := put r.cal.store.records 0 (written CalRecord.bytes record1), counter := written u16 41,
        ticket := written u32 412958 } },
      bus := { r.bus with nodes := Vector.ofFn (fun a => nodeAt a.val), scan := { r.bus.scan with startup := false } },
      plan := { r.plan with
        entries := Vector.ofFn (fun p => (places[p.val]?).map (fun x => { serial := serialAt p.val, attach := x })),
        nodes := Vector.ofFn (fun a =>
          { binding := (places[a.val]?).map (fun _ => .bound a), offer := .none, retry := none }) },
      seq := {
        lanes := put (put r.seq.lanes 0 (laneOf1 .aToB .inbound)) 1 (laneOf1 .bToA .outbound),
        bridges := put r.seq.bridges 0 { BridgeSeq.cold with beamA := .clear, beamB := .clear } },
      tables := { r.tables with
        clock := { secs := 1719800000, ms := 0, set := true }, vehicles := [kc0071], accounts := [account12],
        banks := put r.tables.banks 0 { rows := [row3], refs := 0 } },
      visits := { r.visits with next := 883 },
      port := { r.port with up := true, silence := some 30000, records := [], nextRecord := 13 } }

/-! ## Situations -/

/-- The state after a command that completes. -/
def after (c : Instr) (s : State) : State :=
  match exec c s with
  | .next t => t
  | .fault _ => s
  | .refused _ => s

/-- A request at the head of the buffer. -/
def ask (s : State) (kind : Nat) (body : Bytes) : State :=
  { s with port := { s.port with buffer := [{ kind := BitVec.ofNat 8 kind, tag := 9, body := body }] } }

/-- A field that is present. -/
def f1 (b : Bytes) : Bytes := 1 :: b

/-- The request at the head, with tag 9, reads as these values. -/
def isRequest (s : State) (code : Nat) (layout : List Field) (vs : List (Option Value)) : Bool :=
  s.powered && !s.port.restarting && match s.port.buffer with
  | r :: _ => r.kind.toNat == code && r.tag == 9 && (match readBody layout r.body with
    | .ok xs => xs == vs
    | .error _ => false)
  | [] => false

theorem requestAt_of {s : State} {code : Nat} {layout : List Field} {vs : List (Option Value)}
    (h : isRequest s code layout vs = true) : RequestAt s code layout 9 vs := by
  unfold isRequest at h
  split at h
  · rename_i r rest hb
    simp only [Bool.and_eq_true, Bool.not_eq_true', beq_iff_eq] at h
    obtain ⟨⟨hp, hr⟩, ⟨hk, ht⟩, hv⟩ := h
    split at hv
    · rename_i xs hx
      exact ⟨r.body, ⟨hp, hr, r, rest, hb, hk, ht, rfl⟩, by rw [hx, beq_iff_eq.mp hv]⟩
    · cases hv
  · simp at h

/-- The first result of an answer made ready. -/
def answerOf (s : State) : Option (Nat × Bytes) :=
  (outgoing s.port).findSome? fun f => match f with
    | .answer 9 (r :: body) => some (r.toNat, body)
    | _ => none

/-- A report at the head of the attention queue. -/
def reporting (s : State) (a : NodeId) (r : Report) : State :=
  { s with bus := { s.bus with reports := [{ node := a, report := r, plan := boundPlan s a }] } }

/-- The report at the head is this one, from this node bound to this attachment. -/
def isReport (s : State) (r : Report) (a : NodeId) (x : Attach) : Bool :=
  s.powered && match s.bus.reports with
  | q :: _ => q.node == a && q.report == r && (match q.plan with
    | some p => (s.plan.nodes[a]).binding == some (.bound p) && (s.plan.entries[p]).map (·.attach) == some x
    | none => false)
  | [] => false

theorem reportAt_of {s : State} {r : Report} {a : NodeId} {x : Attach} (h : isReport s r a x = true) :
    ReportAt s r a x := by
  unfold isReport at h
  split at h
  · rename_i q rest hq
    simp only [Bool.and_eq_true, beq_iff_eq] at h
    obtain ⟨hp, ⟨hn, hr⟩, h⟩ := h
    split at h
    · rename_i p hpl
      simp only [Bool.and_eq_true, beq_iff_eq, Option.map_eq_some_iff] at h
      obtain ⟨hb, e, he, hx⟩ := h
      exact ⟨hp, q, rest, p, e, hq, hn, hr, hpl, hb, he, hx⟩
    · cases h
  · simp at h

/-- An exchange open in a part of the cycle. -/
def exchanging (s : State) (x : Exchange) (part : ScanPart) : State :=
  { s with bus := { s.bus with scan := { s.bus.scan with part := some part, exchange := some x } } }

/-- A sound answer of a node. -/
def answerFrom (a : NodeId) (kind : Byte) (payload : Bytes) : BusAnswer :=
  let f : BusAnswer :=
    { address := BitVec.ofNat 8 (a.val + 1), length := BitVec.ofNat 8 payload.length, payload := payload, check := 0 }
  { f with check := answerCheck kind f }

/-- A sound office frame. -/
def frameOf (kind tag : Byte) (body : Bytes) : OfficeFrame :=
  { length := BitVec.ofNat 16 body.length, kind := kind, tag := tag, body := body,
    check := officeCheck body.length kind tag body }

/-- Commands for a node, to fill the queue. -/
def fill (n : Nat) (s : State) : State :=
  { s with bus := { s.bus with
    queue := List.replicate n { node := 11, frame := .signal .red, origin := .office, sent := false } } }

theorem test_yard_lawful : RecordLaw yard ∧ QueueLaw yard ∧ (∀ b : BridgeId, b = 0 → sampleValid yard b = true) := by
  unfold RecordLaw QueueLaw
  decide +kernel

/-! ## Well-formedness: an ill-formed term for each check -/

theorem test_wf_office_frame_refused : WellFormed (.officeFrame { frameOf 1 17 [1, 2] with check := 0 }) = false
    ∧ WellFormed (.officeFrame { frameOf 1 17 [1, 2] with length := 3 }) = false
    ∧ WellFormed (.officeFrame (frameOf 1 17 (List.replicate 1025 0))) = false
    ∧ WellFormed (.officeFrame (frameOf 1 17 [1, 2])) = true := by decide +kernel

theorem test_wf_frame_discard_refused : WellFormed (.frameDiscard (frameOf 1 17 [1, 2])) = false
    ∧ WellFormed (.frameDiscard { frameOf 1 17 [1, 2] with check := 0 }) = true := by decide +kernel

theorem test_wf_report_refused : WellFormed (.report 0x56 (answerFrom 2 0x56 [0])) = false
    ∧ WellFormed (.report 0x50 (answerFrom 2 0x50 (List.replicate 256 0))) = false
    ∧ WellFormed (.report 0x50 (answerFrom 2 0x50 [0])) = true := by decide +kernel

/-- Each answer row refuses a payload its length byte cannot count. -/
theorem test_wf_long_answers_refused :
    let f := answerFrom 2 0x40 (List.replicate 256 0)
    [Instr.sample f, .present f, .ack f, .nakRefused f, .reply f, .descriptor f, .responseError 0x40 f].all
      (fun c => !WellFormed c) = true := by decide +kernel

/-! ## The spec's figures -/

/-- R213: the check of the nine digits and of no byte. -/
theorem test_check_code : crc16 (ascii "123456789") = 0x29B1 ∧ crc16 [] = 0xFFFF := by decide +kernel

/-- R6, R7, R8, R10: the rounding examples of section 1.3. -/
theorem test_roundings :
    trimmed { serial := none, z := 0, s := 66191 } 39600 = 39996 ∧ trimmed { serial := none, z := 0, s := 98304 } (-3) = -5
    ∧ trimmed { serial := none, z := 0, s := 98304 } 3 = 5 ∧ average [10, 11, 11, 13] = 11 ∧ average [-10, -11] = -11
    ∧ [99, 100, -100, 300, 317656].map (toDivision 20) = [0, 20, -20, 40, 31760] := by decide +kernel

/-- R11: the limits at e = 20 and Max = 60,000. -/
theorem test_live_limits :
    [60180, 60200, -400, -420].map (fun w => liveState 20 60000 w false false true true)
      = [.stable, .overMax, .stable, .underMin]
    ∧ liveState 20 60000 0 true true true true = .overMax := by decide +kernel

/-- The worked computation of section 1.3: W_fine, and the sample's W, hold count and live state. -/
def workedCal : CalData :=
  let c := fun (z : Int) (s : Nat) => ({ serial := none, z := z, s := s } : CalCell)
  { CalData.default 4 with
    cells := put (put (put (put (CalData.default 4).cells 0 (c 12000 65536)) 1 (c 11500 66191)) 2 (c 12250 64880)) 3
      (c 11800 65536),
    gain := 2097152, e := 20, max := 60000 }

def workedEngine : Engine :=
  { Engine.cold true with
    samples := put (put (put (put (Engine.cold true).samples 0 (sampled 52000)) 1 (sampled 51100)) 2 (sampled 52900)) 3
      (sampled 50600),
    params := { BridgeParams.default with n := 4, m := 4 }, filter := [318094, 318070, 318086],
    motion := [318094, 318070, 318086], hold := 11, zero := some { zb := 426, zinit := 426 } }

theorem test_worked_computation :
    let s := { yard with engine := put yard.engine 0 workedEngine }
    let e := (validSample 0 workedCal s).engine[(0 : BridgeId)]
    wFine workedCal (fun p => ((workedEngine.samples[p]).count).getD 0) = 318078
    ∧ e.wAvg = some 318082 ∧ e.hold = 12 ∧ e.stable = true ∧ e.w = some 31760 ∧ e.live = .stable := by decide +kernel

/-- R33: the recovered audit value is 23. -/
theorem test_audit_recovered :
    let item := fun (a : Nat) (ok : Bool) => ({ content := { record1 with audit := a }, check := 0, valid := ok } : StoreItem CalRecord)
    nextAudit { yard with cal := { yard.cal with store := { yard.cal.store with
      records := put (put (put (put yard.cal.store.records 0 (item 17 true)) 1 (item 22 true)) 2 (item 60 false)) 3 (item 9 true),
      counter := { yard.cal.store.counter with valid := false } } } } = 23 := by decide +kernel

/-- R161: the tare test at T = 11,840 and P = 5. -/
theorem test_tare_test : tareTestFails 5 11840 12420 = false ∧ tareTestFails 5 11840 12440 = true := by decide +kernel

/-- R162: the five rows of its table. -/
theorem test_charges :
    let row := fun g l m => ({ row3 with gate := g, levy := l, minimum := m } : TariffRow)
    chargeFor (row 9850 3000 2500) 20340 = { net := 20340, gate := 200349, levy := 61020, total := 261369 }
    ∧ (chargeFor (row 9855 3000 2500) 20340).gate = 200451
    ∧ chargeFor (row 9850 2450 2500) 1010 = { net := 1010, gate := 9949, levy := 2475, total := 12424 }
    ∧ (chargeFor (row 9850 3000 2500) 240).total = 3220 ∧ (chargeFor (row 9850 3000 2500) 0).total = 2500 := by
  decide +kernel

/-- R131: a stored tare is current throughout its day of expiry. -/
theorem test_tare_expiry :
    [1715040000, 1715126399, 1715126400].map (fun n =>
      tareStatus { secs := n, ms := 0, set := true } { kc0071 with expiry := some 19850 })
      = [.current, .current, .expired] := by decide +kernel

/-- R135: available credit. -/
theorem test_available_credit :
    availableCredit { account12 with limit := 500000, balance := 380000, reserved := 60000 } = 60000
    ∧ availableCredit { account12 with limit := 0, balance := -90000, reserved := 25000 } = 65000 := by decide +kernel

/-- R183: money, and a weight line with the numbers of section 8.4. -/
theorem test_ticket_text :
    let w : WeightRecord :=
      { bridge := 1, weight := 32180, e := 20, time := { secs := 1719791880, set := true }, stableMark := true,
        zeroReturn := true, trade := true, legality := .ready }
    moneyText 253659 = ascii "2,536.59" ∧ labelled "WT1" (weightLine w) = ascii "WT1: 32,180 kg 19904 23:58:00 B1"
    ∧ labelled "WT1" (weightLine { w with trade := false }) = ascii "WT1: 32,180 kg 19904 23:58:00 B1 NT"
    ∧ padded 8 412706 = ascii "00412706" := by decide +kernel

/-- R184: how lines are cut at width 32 and payload 16. -/
theorem test_line_parts :
    let sizes := fun (t : String) => (composeParts 32 16 [ascii t]).map (fun x => (x.1, x.2.length))
    sizes "NORTH QUAY TRANSFER DEPOT" = [(false, 15), (true, 10)] ∧ sizes "VEHICLE: RB-118" = [(true, 15)]
    ∧ sizes "WT1: 32,180 kg 19904 23:58:00 B1 NT" = [(false, 15), (false, 15), (true, 2), (true, 3)] := by decide +kernel

/-- R152: numbers held by open visits are passed over, and 65,535 is followed by 1. -/
theorem test_visit_numbers :
    freeVisitNumber [65535, 1] 65 65534 = 65534 ∧ nextVisitNumber 65534 = 65535
    ∧ freeVisitNumber [65535, 1] 65 65535 = 2 ∧ nextVisitNumber 2 = 3 := by decide +kernel

/-- R215: SIGNAL GREEN to the station at address 11. -/
theorem test_signal_frame :
    (BusFrame.bytes { address := 11, kind := (CommandFrame.signal .green).code, payload := (CommandFrame.signal .green).payload }).take 4
      = [0x0B, 0x14, 0x01, 0x02] := by decide +kernel

/-- R217: ZERO BRIDGE for bridge 2 under tag 17, and its answer. -/
theorem test_office_bytes :
    (officeBytes 1 17 [1, 2]).take 7 = [0xA5, 0x00, 0x02, 0x01, 0x11, 0x01, 0x02]
    ∧ officeCheck 2 1 17 [1, 2] = crc16 [0x00, 0x02, 0x01, 0x11, 0x01, 0x02]
    ∧ (officeBytes 0x80 17 (u8 Result.done.code)).take 6 = [0xA5, 0x00, 0x01, 0x80, 0x11, 0x00] := by decide +kernel

/-- R64: DRIVE OFF for 12 and then for 9, with LOWER 9, PRINT LINE 20 and RAISE 12 queued. -/
theorem test_drive_off_order :
    let c := fun (a : Nat) (f : CommandFrame) (h : a < 32) =>
      ({ node := ⟨a, h⟩, frame := f, origin := .office, sent := false } : Command)
    let node : NodeEntry := { NodeEntry.fresh with state := .active, serial := some 1 }
    let s := { yard with bus := { yard.bus with
      nodes := put (put yard.bus.nodes 11 node) 8 node,
      queue := [c 8 (.arm .lower) (by omega), c 19 (.printLine true []) (by omega), c 11 (.arm .raise) (by omega)] } }
    (((offer 8 .driveOff .office (offer 11 .driveOff .office s).1).1).bus.queue).map (fun x => (x.node.val + 1, x.frame))
      = [(12, .driveOff), (9, .driveOff), (9, .arm .lower), (20, .printLine true [])] := by decide +kernel

/-! ## Steps, laws, resets and lines: the hypotheses met, and what comes of them -/

theorem witness_step : ({ yard with pending := [.secondsTick, .frameSent] } : State).pending = .secondsTick :: [.frameSent]
    ∧ (match step { yard with pending := [.secondsTick, .frameSent] } with
      | .next t => t.pending == [.frameSent] && t.tables.clock.secs == 1719800001
      | _ => false) = true := by decide +kernel

theorem witness_idle : yard.pending = [] ∧ yard.powered = true
    ∧ (match step yard with
      | .next t => t.tables.clock.ms == 1 && t.port.silence == some 29999
      | _ => false) = true := by decide +kernel

/-- The three laws hold of the yard, whose step is a next state, with no row of bank 0 changed; bank 0 is active. -/
theorem witness_laws : yard.port.records.length + yard.port.claims ≤ Config.recordSlots
    ∧ (yard.bus.queue.length ≤ 16 ∧ yard.bus.reports.length ≤ 16 ∧ yard.port.buffer.length ≤ 4 ∧ yard.port.pass.length ≤ 8)
    ∧ yard.tables.active = 0 ∧ yard.pending.head? ≠ some .coldReset
    ∧ (match step yard with
      | .next t => (t.tables.banks[(0 : BankId)]).rows == [row3]
      | _ => false) = true := by decide +kernel

theorem witness_table_law : TableLaw yard := by
  unfold TableLaw
  decide +kernel

/-- A bank that is referenced and not active. -/
theorem witness_referenced_bank :
    let s := { yard with tables := { yard.tables with banks := put yard.tables.banks 1 { rows := [row3], refs := 1 } } }
    0 < (s.tables.banks[(1 : BankId)]).refs ∧ s.tables.active ≠ 1 ∧ s.pending.head? ≠ some .coldReset := by decide +kernel

theorem witness_no_supply :
    let s := { yard with powered := false }
    s.powered = false ∧ Instr.restart ∉ [Instr.coldReset, .powerLoss, .calEnableAssert, .calEnableDeassert, .yardStopAssert, .yardStopDeassert]
    ∧ after .restart s = s ∧ (after .yardStopAssert s).yardStop = true := by decide +kernel

theorem witness_cold_reset :
    yard.yardStop = false ∧ yard.cal.store.inFlight = none
    ∧ ((after .coldReset yard).cal.store.records[(0 : BridgeId)]).valid = true
    ∧ (after .coldReset yard).visits.next = 1 := by decide +kernel

/-- A cold reset and a warm reset with the yard stop line asserted, and a warm reset with a session open (R46, R117, R126). -/
theorem witness_resets_under_the_line :
    let waiting := modLane 0 (fun x => { x with state := .waitBridge }) { yard with yardStop := true }
    let s := after .warmReset waiting
    let t := coldValues waiting
    let x : Session := { bridge := 0, work := cal1, corners := Vector.replicate 8 none, savedZero := some { zb := 30, zinit := 10 },
                         savedReturn := false, step := none, commit := none }
    let cal := modPort (fun p => { p with claims := 1 }) (modCal (fun c => { c with session := some x }) yard)
    let u := after .warmReset cal
    (waiting.powered = true ∧ waiting.port.resetAsked = none ∧ waiting.cal.store.inFlight = none ∧ waiting.cal.session = none
      ∧ waiting.yardStop = true ∧ 2 ≤ unclaimedFree waiting)
    ∧ s.port.records.map (·.number) = [13, 14] ∧ (s.port.records[1]?).map (·.body) = some (.yardStop true)
    ∧ (s.seq.lanes[(0 : LaneId)]).hold = some (.yardStop, .waitBridge)
    ∧ ((s.seq.lanes[(3 : LaneId)]).station .exit).driveOffMark = true
    ∧ t.seq = Seq.cold true ∧ (t.port.records[1]?).map (·.body) = some (.yardStop true) ∧ t.port.nextRecord = 3
    ∧ t.port = { Port.cold with records := t.port.records, nextRecord := 3 }
    ∧ (cal.powered = true ∧ cal.port.resetAsked = none ∧ cal.cal.store.inFlight = none ∧ cal.cal.session = some x
      ∧ cal.yardStop = false ∧ (∀ l : LaneId, (cal.tickets.printers[l]).queue = []) ∧ cal.tickets.handOver = [])
    ∧ u.cal.session = none ∧ (u.engine[(0 : BridgeId)]).zero = some { zb := 30, zinit := 10 } ∧ u.port.claims = 0 := by
  decide +kernel

/-- A cold reset of the part as delivered brings its values back and starts the first cycle on them (R81). -/
theorem test_reset_is_cold : coldValues State.reset = State.reset ∧ after .coldReset State.reset = startCycle State.reset
    ∧ (after .coldReset yard).sentFrames = [{ address := 63, kind := 0x0A, payload := [] }, { address := 63, kind := 0x03, payload := [] }]
    ∧ (after .coldReset yard).bus.enum.running = true ∧ (after .coldReset yard).bus.scan.exchange = some .attentionCall := by
  decide +kernel

theorem witness_warm_reset_waits :
    let s := modStore (fun st => { st with inFlight := some (.ticket 5) }) yard
    s.powered = true ∧ s.port.resetAsked = none ∧ s.cal.store.inFlight = some (.ticket 5)
    ∧ (after .warmReset s).port.resetAsked = some .warmLine := by decide +kernel

theorem witness_warm_reset :
    yard.powered = true ∧ yard.port.resetAsked = none ∧ yard.cal.store.inFlight = none ∧ yard.cal.session = none
    ∧ yard.yardStop = false ∧ (after .warmReset yard).port.up = false
    ∧ ((∀ l : LaneId, (yard.tickets.printers[l]).queue = []) ∧ yard.tickets.handOver = [] ∧ 1 ≤ unclaimedFree yard
      ∧ unclaimedFree { yard with port := { yard.port with claims := 256 } } = 0)
    ∧ (after .warmReset yard).port.records.map (·.number) = [13] ∧ (after .warmReset yard).bus.enum.running = true
    ∧ ((after .warmReset yard).engine[(0 : BridgeId)]).zero = some { zb := 0, zinit := 0 }
    ∧ ((after .warmReset yard).engine[(0 : BridgeId)]).status = .notReady := by decide +kernel

/-- A session open on bridge 1 with a step in progress, under the enable line. -/
def calibrating (step : Option StepRun) : State :=
  let s := { yard with calEnable := true }
  deriveBridge 0 { s with
    cal := { s.cal with session := some {
      bridge := 0, work := cal1, corners := Vector.replicate 8 none, savedZero := some { zb := 30, zinit := 10 },
      savedReturn := false, step := step, commit := none } },
    port := { s.port with claims := 1 } }

theorem witness_enable_line :
    let s := calibrating (some { step := .zero, tag := 5, timer := 900 })
    let x : Session := {
      bridge := 0, work := cal1, corners := Vector.replicate 8 none, savedZero := some { zb := 30, zinit := 10 },
      savedReturn := false, step := some { step := .zero, tag := 5, timer := 900 }, commit := none }
    s.powered = true ∧ s.calEnable = true ∧ s.cal.session = some x ∧ x.commit = none ∧ commitWriting s = false
    ∧ s.port.up = true ∧ (after .calEnableDeassert s).cal.session = none
    ∧ ((after .calEnableDeassert s).engine[(0 : BridgeId)]).zero = some { zb := 30, zinit := 10 } := by decide +kernel

theorem witness_enable_line_quiet :
    yard.powered = true ∧ yard.cal.session = none
    ∧ commitWriting (modStore (fun st => { st with inFlight := some (.counter 0 42) }) yard) = true := by decide +kernel

/-- Lane 1 in a state, its stations at rest. -/
def laneIn (st : LaneState) (s : State) : State := modLane 0 (fun x => { x with state := st }) s

theorem witness_yard_stop :
    let s := laneIn .weighing yard
    s.powered = true ∧ s.yardStop = false
    ∧ (s.seq.lanes[(0 : LaneId)]).state ∈ [LaneState.asking, .waitBridge, .entering, .weighing, .ticketing, .releasing]
    ∧ (s.seq.lanes[(1 : LaneId)]).state ∈ [LaneState.closed, .idle, .held, .fault]
    ∧ ((after .yardStopAssert s).seq.lanes[(0 : LaneId)]).hold = some (.yardStop, .weighing)
    ∧ ((after .yardStopAssert s).seq.lanes[(1 : LaneId)]).state = .idle
    ∧ (1 ≤ unclaimedFree s ∧ s.bus.queue.length ≤ 16 ∧ (∀ c ∈ s.bus.queue, c.frame ≠ .driveOff)
      ∧ filledNode s (.station 0 .entry) = some 3 ∧ (s.bus.nodes[(3 : NodeId)]).state = .active
      ∧ ((s.seq.lanes[(0 : LaneId)]).station .entry).outOff = false)
    ∧ (after .yardStopAssert s).bus.queue.countP (fun c => c.frame == .driveOff) = 4
    ∧ (after .yardStopAssert s).port.records.head?.map (·.body) = some (.yardStop true) := by decide +kernel

theorem witness_yard_stop_ends :
    let s := modStation 0 .entry (fun x => { x with driveOffMark := true }) { yard with yardStop := true }
    let st := (s.seq.lanes[(0 : LaneId)]).station .entry
    (1 ≤ unclaimedFree s ∧ s.bus.queue = [] ∧ filledNode s (.station 0 .entry) = some 3
      ∧ (s.bus.nodes[(3 : NodeId)]).state = .active ∧ st.driveOffMark = true ∧ st.outOff = false ∧ st.outOn = false
      ∧ st.retryOn = none)
    ∧ (after .yardStopDeassert s).bus.queue.map (·.frame) = [.driveOn]
    ∧ (after .yardStopDeassert s).port.records.map (·.body) = [.yardStop false]
    ∧ s.powered = true ∧ s.yardStop = true ∧ (∀ l : LaneId, (s.seq.lanes[l]).kept = none ∧ (s.seq.lanes[l]).reweigh = false)
    ∧ (after .yardStopDeassert s).yardStop = false := by decide +kernel

/-- Supply lost in each of the four writes leaves the item INVALID at the cold reset. -/
theorem witness_power_loss :
    let lost := fun (w : StoreWrite) => after .coldReset (after .powerLoss (modStore (fun st => { st with inFlight := some w }) yard))
    ((lost (.record 0 record1)).cal.store.records[(0 : BridgeId)]).valid = false
    ∧ (lost (.counter 0 42)).cal.store.counter.valid = false ∧ (lost (.ticket 5)).cal.store.ticket.valid = false
    ∧ (lost (.setTicket 5 1)).cal.store.ticket.valid = false
    ∧ ((lost (.ticket 5)).cal.store.records[(0 : BridgeId)]).valid = true := by decide +kernel

/-! ## The lane bus -/

theorem witness_cycle_start :
    let busy := exchanging yard (.presence 3) (.slowPolls 4)
    let late := modScan (fun x => { x with overdue := true }) busy
    (busy.bus.scan.part ≠ none ∧ busy.bus.scan.overdue = false) ∧ (late.bus.scan.part ≠ none ∧ late.bus.scan.overdue = true)
    ∧ (yard.powered = true ∧ yard.bus.scan.part = none) ∧ (State.reset.bus.scan.startup = true ∧ State.reset.bus.scan.part = none)
    ∧ (after .scanCycleStart yard).bus.scan.exchange = some (.cellPoll 0)
    ∧ (after .scanCycleStart yard).sentFrames = [{ address := 1, kind := 1, payload := [] }]
    ∧ (after .scanCycleStart State.reset).sentFrames.head? = some { address := 63, kind := 0x0A, payload := [] }
    ∧ (after .scanCycleStart State.reset).bus.enum.running = true := by decide +kernel

/-- A SAMPLE of 1,000 counts with sequence number 8, and with the number last taken. -/
def sampleBytes (seq : Byte) : Bytes := [0, 3, 0xE8, seq, 0]

theorem witness_sample :
    let s := exchanging yard (.cellPoll 0) (.cellPolls 1)
    let r : Reading := { count := 1000, seq := 8, overrange := false, underrange := false, cellFault := false }
    s.powered = true ∧ s.bus.scan.exchange = some (.cellPoll 0) ∧ Exchange.entry (.cellPoll 0) = some 0
    ∧ judgeAnswer s (.cellPoll 0) 0 0x40 (answerFrom 0 0x40 (sampleBytes 8)) = .ok (.sample r)
    ∧ (s.bus.nodes[(0 : NodeId)]).state = .active ∧ boundCell s 0 = some (0, 0)
    ∧ s.bus.scan.part = some (.cellPolls 1) ∧ (s.bus.nodes[(1 : NodeId)]).state = .active ∧ (boundCell s 1).isSome = true
    ∧ (((s.engine[(0 : BridgeId)]).samples[(0 : CellPos)]).seq ≠ some 8 ∧ ((s.engine[(0 : BridgeId)]).samples[(0 : CellPos)]).seq = some 7)
    ∧ (((after (.sample (answerFrom 0 0x40 (sampleBytes 8))) s).engine[(0 : BridgeId)]).samples[(0 : CellPos)]).count = some 1000
    ∧ (((after (.sample (answerFrom 0 0x40 (sampleBytes 7))) s).engine[(0 : BridgeId)]).samples[(0 : CellPos)]).count = some 0 := by
  decide +kernel

/-- The slow-poll form, from a node that a slow poll asks. -/
theorem witness_slow_sample :
    let s := exchanging yard (.slowSample 1) (.slowPolls 2)
    s.bus.scan.exchange = some (.slowSample 1) ∧ s.bus.scan.part = some (.slowPolls 2) ∧ boundCell s 1 = some (0, 1)
    ∧ ((after (.sample (answerFrom 1 0x40 (sampleBytes 8))) s).engine[(0 : BridgeId)]).samples[(1 : CellPos)].count = some 1000 := by
  decide +kernel

theorem witness_present :
    let s := modNode 2 (fun n => { n with misses := 2, errors := 6 }) (exchanging yard (.presence 2) (.slowPolls 3))
    let f := answerFrom 2 0x41 (serial6 (serialAt 2))
    s.powered = true ∧ s.bus.scan.exchange = some (.presence 2) ∧ s.bus.scan.part = some (.slowPolls 3)
    ∧ judgeAnswer s (.presence 2) 2 0x41 f = .ok (.present (serialAt 2)) ∧ (s.bus.nodes[(2 : NodeId)]).state = .active
    ∧ ((after (.present f) s).bus.nodes[(2 : NodeId)]).misses = 0 ∧ ((after (.present f) s).bus.nodes[(2 : NodeId)]).errors = 6 := by
  decide +kernel

/-- A pass-through message being answered as the cycle's fourth command. -/
def passEntry : PassEntry := { tag := 44, role := .printer 0, node := 6, serial := some (serialAt 6) }

def passing : State :=
  let s := exchanging yard (.command 6 (.message [1])) (.commands 3)
  { s with
    bus := { s.bus with queue := [{ node := 6, frame := .message [1], origin := .pass passEntry, sent := true }] },
    port := { s.port with pass := [passEntry] } }

/-- R71: an ATTENTION OFF answered ACK clears the entry's field also when DRIVE OFFs pushed it out of the queue meanwhile. -/
theorem test_attention_set_though_pushed_out :
    let s := exchanging yard (.command 2 .attentionOff) (.commands 3)
    (s.bus.nodes[(2 : NodeId)]).attention = true ∧ s.bus.queue = []
    ∧ ((after (.ack (answerFrom 2 0x45 [])) s).bus.nodes[(2 : NodeId)]).attention = false := by decide +kernel

/-- R207: of two like requests with another between them, the later's command pushed out leaves the earlier's entry first. -/
theorem test_pass_dropped_takes_the_newest :
    let other := { passEntry with tag := 50 }
    let c := fun (e : PassEntry) => ({ node := 6, frame := .message [1], origin := .pass e, sent := false } : Command)
    let s := modPort (fun p => { p with pass := [passEntry, other, passEntry] })
      (modBus (fun x => { x with queue := List.replicate 13 (c passEntry) ++ [c passEntry, c other, c passEntry] }) yard)
    (offer 3 .driveOff (.station 0 .entry) s).1.port.pass = [passEntry, other] := by decide +kernel

theorem witness_missing_answer :
    let f := { answerFrom 6 0x45 [] with check := 0 }
    passing.powered = true ∧ passing.bus.scan.exchange = some (.command 6 (.message [1]))
    ∧ (passing.bus.nodes[(6 : NodeId)]).state = .active ∧ (passing.bus.nodes[(6 : NodeId)]).misses < 2
    ∧ judgeAnswer passing (.command 6 (.message [1])) 6 0x45 f = .error .checkError
    ∧ after .noResponse passing = after (.responseError 0x45 f) passing
    ∧ ((after .noResponse passing).bus.nodes[(6 : NodeId)]).misses = 1
    ∧ (after .noResponse passing).bus.queue.map (·.sent) = [false] := by decide +kernel

theorem witness_command_answers :
    let j := judgeAnswer passing (.command 6 (.message [1])) 6
    passing.bus.queue = [{ node := 6, frame := .message [1], origin := .pass passEntry, sent := true }]
    ∧ passing.bus.scan.part = some (.commands 3) ∧ passing.bus.heldResets = []
    ∧ j 0x45 (answerFrom 6 0x45 []) = .ok .ack ∧ j 0x46 (answerFrom 6 0x46 [7]) = .ok (.nak 7)
    ∧ j 0x47 (answerFrom 6 0x47 [1, 2]) = .ok (.reply [1, 2]) ∧ passing.port.up = true
    ∧ outgoing (after (.ack (answerFrom 6 0x45 [])) passing).port = [.passResult 44 [2]]
    ∧ outgoing (after (.nakRefused (answerFrom 6 0x46 [7])) passing).port = [.passResult 44 [3, 7]]
    ∧ outgoing (after (.reply (answerFrom 6 0x47 [1, 2])) passing).port = [.passResult 44 [1, 2, 1, 2]] := by decide +kernel

theorem witness_third_miss :
    let s := modNode 6 (fun n => { n with misses := 2 }) passing
    (s.bus.nodes[(6 : NodeId)]).state = .active ∧ (s.bus.nodes[(6 : NodeId)]).misses = 2
    ∧ ((after .noResponse s).bus.nodes[(6 : NodeId)]).state = .silent
    ∧ outgoing (after .noResponse s).port ≠ [] := by decide +kernel

theorem witness_ladder :
    let one := modNode 6 (fun n => { n with state := .silent, ladder := some (.level1 0) }) yard
    let two := modNode 6 (fun n => { n with state := .silent, ladder := some (.level2 (some 0)) }) yard
    (one.powered = true ∧ (one.bus.nodes[(6 : NodeId)]).ladder = some (.level1 0) ∧ one.bus.queue.length < 16)
    ∧ (two.bus.nodes[(6 : NodeId)]).ladder = some (.level2 (some 0))
    ∧ (after (.level1Expiry 6) one).bus.queue.map (·.frame) = [.nodeReset 2]
    ∧ ((after (.level2Expiry 6) two).bus.nodes[(6 : NodeId)]).state = .lost
    ∧ (roleOf (after (.level2Expiry 6) two) (.printer 0)).fill = .empty := by decide +kernel

/-- The four outcomes of a window: GO, a reset of a stray address, a join request, and the windows' end. -/
theorem witness_attention_window :
    let s := exchanging yard .attentionCall (.attention 3)
    s.powered = true ∧ s.bus.scan.exchange = some .attentionCall ∧ s.bus.scan.part = some (.attention 3)
    ∧ (s.bus.nodes[(2 : NodeId)]).state = .active ∧ (s.bus.nodes[(20 : NodeId)]).state = .free
    ∧ s.bus.enum.running = false ∧ s.bus.enum.holdOff = none ∧ s.bus.scan.overdue = false
    ∧ (after (.attentionWindow 3) s).sentFrames = [{ address := 3, kind := 4, payload := [] }]
    ∧ (after (.attentionWindow 21) s).sentFrames.map (·.kind) = [0x0B, 3]
    ∧ (after (.attentionWindow 0) s).bus.enum.running = true
    ∧ (after (.attentionWindow 63) s).bus.scan.part = none := by decide +kernel

/-- A BEAM report from the beam pair in the third window. -/
theorem witness_report :
    let s := exchanging yard (.go 2) (.attention 3)
    let f := answerFrom 2 0x50 [1]
    let off := modNode 2 (fun n => { n with attention := false }) s
    let full := modBus (fun x => { x with reports := List.replicate 16 { node := 2, report := .beam true false, plan := some 2 } }) s
    s.powered = true ∧ s.bus.scan.exchange = some (.go 2) ∧ s.bus.scan.part = some (.attention 3)
    ∧ judgeAnswer s (.go 2) 2 0x50 f = .ok (.report (.beam true false)) ∧ judgeAnswer off (.go 2) 2 0x50 f = .ok (.report (.beam true false))
    ∧ (s.bus.nodes[(2 : NodeId)]).state = .active ∧ (s.bus.nodes[(2 : NodeId)]).attention = true
    ∧ (s.plan.nodes[(2 : NodeId)]).binding = some (.bound 2) ∧ (∀ q ∈ s.bus.reports.head?, reportStale s q = false)
    ∧ full.bus.reports.length = 16 ∧ (after (.report 0x50 f) off).bus.reports = []
    ∧ (after (.report 0x50 f) s).bus.reports = [{ node := 2, report := .beam true false, plan := some 2 }]
    ∧ (after (.report 0x50 f) full).sentFrames.map (·.kind) = [6, 3] := by decide +kernel

theorem witness_slot :
    let s := exchanging yard .enumerate .slot
    let gave := modEnum (fun e => { e with gaveZero := true }) s
    s.powered = true ∧ s.bus.scan.exchange = some .enumerate ∧ (0x9999 : Serial) ≠ Serial.none
    ∧ s.bus.enum.failed.count 0x9999 < 2 ∧ chooseEntry s 0x9999 = some 11 ∧ s.bus.scan.overdue = false
    ∧ s.bus.enum.gaveZero = false ∧ gave.bus.enum.gaveZero = true
    ∧ (after (.enumerationSlot 0x9999) s).sentFrames = [{ address := 0, kind := 9, payload := [0, 0, 0, 0, 0x99, 0x99, 12] }]
    ∧ (after (.enumerationSlot Serial.none) gave).bus.enum.holdOff = some 10000 := by decide +kernel

theorem witness_descriptor :
    let s := exchanging yard (.assign 11 0x9999 true) .slot
    let d : NodeDesc := { kind := .printer, maxPayload := 16, width := 24 }
    let f := answerFrom 11 0x42 (serial6 0x9999 ++ [5, 16, 24])
    s.powered = true ∧ s.bus.scan.exchange = some (.assign 11 0x9999 true)
    ∧ judgeAnswer s (.assign 11 0x9999 true) 11 0x42 f = .ok (.descriptor 0x9999 d) ∧ s.bus.scan.overdue = false
    ∧ ((after (.descriptor f) s).bus.nodes[(11 : NodeId)]).desc = some d
    ∧ ((after (.descriptor f) s).plan.nodes[(11 : NodeId)]).binding = some .unplanned := by decide +kernel

/-- R58: a DESCRIPTOR that fails is counted against an entry that was LOST before the slot, though it is FREE by then. -/
theorem test_failed_descriptor_after_release :
    let s := modNode 11 (fun n => { n with serial := some 0x9999 }) (exchanging yard (.assign 11 0x9999 false) .slot)
    let new := exchanging yard (.assign 11 0x9999 true) .slot
    s.powered = true ∧ s.bus.scan.overdue = false ∧ (s.bus.nodes[(11 : NodeId)]).state = .free
    ∧ ((after .noResponse s).bus.nodes[(11 : NodeId)]).errors = 1 ∧ ((after .noResponse new).bus.nodes[(11 : NodeId)]).errors = 0
    ∧ after .noResponse s = { fresh s with
        bus := { s.bus with
          scan := { s.bus.scan with part := none, exchange := none },
          enum := { s.bus.enum with failed := [0x9999] },
          nodes := put s.bus.nodes 11 { (s.bus.nodes[(11 : NodeId)]) with errors := 1, misses := 1 } },
        sentFrames := [{ address := 12, kind := 0x0B, payload := [2] }] } := by decide +kernel

/-- Each outcome of an offer is reached: not active, too long, full at 16, taken at 15. -/
theorem witness_offers :
    (yard.bus.nodes[(20 : NodeId)]).state ≠ .active ∧ (CommandFrame.signal .red).isReset = false
    ∧ (yard.bus.nodes[(6 : NodeId)]).state = .active
    ∧ ((yard.bus.nodes[(6 : NodeId)]).desc.map (·.maxPayload)).getD 32 < (CommandFrame.message (List.replicate 33 0)).payload.length
    ∧ (offer 6 (.message (List.replicate 33 0)) .office yard).2 = some .tooLong
    ∧ (offer 6 (.message [1]) .office (fill 16 yard)).2 = some .queueFull
    ∧ (offer 6 (.message [1]) .office (fill 15 yard)).2 = none := by decide +kernel

/-- R64: the RAISE a DRIVE OFF removes and the NODE RESET it pushes out each leave their place to a reset held. -/
theorem test_drive_off_places_held :
    let c := fun (a : NodeId) (f : CommandFrame) => ({ node := a, frame := f, origin := .controller, sent := false } : Command)
    let s := modBus (fun x => { x with queue := c 3 (.arm .raise) :: (List.replicate 14 (c 11 (.signal .red))) ++ [c 3 (.nodeReset 1)] }) yard
    let t := (offer 3 .driveOff (.station 0 .entry) s).1
    t.bus.queue.map (·.frame) = .driveOff :: List.replicate 14 (.signal .red) ++ [.nodeReset 1] ∧ t.bus.heldResets = [] := by decide +kernel

/-- R218: the NODE_STATE bodies of R62 and R85, with no presence bytes. -/
theorem test_node_state_bodies :
    (RecordBody.nodeState 11 0x9999 .printer .free .active (.change 3)).bytes.length = 12
    ∧ (RecordBody.nodeState 11 0x9999 .printer .active .active (.misfit 4 .laneTerminal)).bytes.length = 13 := by decide +kernel

/-- A DRIVE OFF is taken by a full queue, which stays at 16. -/
theorem witness_drive_off :
    let r := offer 3 .driveOff (.station 0 .entry) (fill 16 yard)
    r.2 = none ∧ (fill 16 yard).bus.queue.length ≤ 16 ∧ r.1.bus.queue.length = 16
    ∧ (r.1.bus.queue.head?.map (·.frame)) = some .driveOff := by decide +kernel

/-! ## Reports of the lanes -/

theorem witness_beam :
    let s := reporting yard 2 (.beam true false)
    ReportAt s (.beam true false) 2 (.beams 0) ∧ (∀ r ∈ s.bus.reports.tail.head?, reportStale s r = false)
    ∧ (s.seq.bridges[(0 : BridgeId)]).beamA ≠ .broken ∧ (s.seq.bridges[(0 : BridgeId)]).holder = none
    ∧ (s.seq.bridges[(0 : BridgeId)]).pause = false ∧ 1 ≤ unclaimedFree s
    ∧ (after .beam s).port.records.map (·.body) = [.intrusion 0 .a (some 0)] :=
  ⟨reportAt_of (by decide +kernel), by decide +kernel⟩

theorem witness_station :
    let s := reporting yard 3 (.station .fault .occupied .red .on)
    ReportAt s (.station .fault .occupied .red .on) 3 (.station 0 .entry)
    ∧ ((s.seq.lanes[(0 : LaneId)]).station .entry).arm ≠ .fault ∧ (s.seq.lanes[(0 : LaneId)]).state.faults = true
    ∧ ((after .station s).seq.lanes[(0 : LaneId)]).state = .fault
    ∧ ((after .station s).seq.lanes[(0 : LaneId)]).fault = some (.armFault, .idle) :=
  ⟨reportAt_of (by decide +kernel), by decide +kernel⟩

theorem witness_help :
    let s := reporting yard 5 (.help 3)
    ReportAt s (.help 3) 5 (.terminal 0)
    ∧ (after .help s).port.records.map (·.body) = [.helpCall 0 5 3 .idle none] :=
  ⟨reportAt_of (by decide +kernel), by decide +kernel⟩

/-- The message offered to the display of lane 1 or 2. -/
def shown (s : State) (a : NodeId) : List Display :=
  s.bus.queue.filterMap (fun c => match c.frame with
    | .display d => if c.node = a then some d else none
    | _ => none)

theorem witness_identify_closed :
    let s := reporting (laneIn .closed yard) 5 (.identify (ascii "KC-0071"))
    ReportAt s (.identify (ascii "KC-0071")) 5 (.terminal 0) ∧ (s.seq.lanes[(0 : LaneId)]).state = .closed
    ∧ shown (after .identify s) 5 = [.laneClosed] :=
  ⟨reportAt_of (by decide +kernel), by decide +kernel⟩

/-- The first weight of section 11.1. -/
def w27340 : WeightRecord :=
  { bridge := 1, weight := 27340, e := 20, time := { secs := 1719800000, set := true }, stableMark := true,
    zeroReturn := true, trade := true, legality := .ready }

/-- Visit 883 of section 11.1 as it opens. -/
def visit883 : Visit :=
  { freshVisit yard 883 (ascii "KC-0071") 12 3 0 (.stored 10960) (some 0) false false with claims := 3 }

/-- The same visit ON_SITE. -/
def onSite883 : Visit :=
  { visit883 with bank := some 0, maxGross := some 32000, first := some w27340, lane := none, state := .onSite, claims := 2 }

/-- The yard with a visit open. -/
def visiting (v : Visit) : State :=
  { yard with
    visits := { yard.visits with table := [v], next := 884 },
    tables := { yard.tables with
      accounts := [{ account12 with visits := 1 }], banks := put yard.tables.banks 0 { rows := [row3], refs := 1 } },
    port := { yard.port with claims := v.claims } }

theorem witness_identify_outbound :
    let free := reporting (visiting onSite883) 9 (.identify (ascii "KC-0071"))
    let s := modBridge 0 (fun x => { x with holder := some 0 }) free
    ReportAt s (.identify (ascii "KC-0071")) 9 (.terminal 1)
    ∧ ((s.seq.lanes[(1 : LaneId)]).state = .idle ∧ s.yardStop = false
      ∧ (s.seq.lanes[(1 : LaneId)]).config = (laneOf1 .bToA .outbound).config ∧ onSite883 ∈ s.visits.table
      ∧ onSite883.vehicle = ascii "KC-0071" ∧ onSite883.state = .onSite
      ∧ (∀ w ∈ s.visits.table, w.vehicle = ascii "KC-0071" → w = onSite883)
      ∧ (s.seq.bridges[(0 : BridgeId)]).holder.isSome = true ∧ (s.seq.lanes[(1 : LaneId)]).armFaulted = false)
    ∧ ((after .identify s).seq.lanes[(1 : LaneId)]).state = .waitBridge
    ∧ (after .identify s).visits.table.map (·.state) = [.leaving]
    ∧ ((after .identify free).seq.lanes[(1 : LaneId)]).state = .entering :=
  ⟨reportAt_of (by decide +kernel), by decide +kernel⟩

/-- Step 1 of section 11.1: visit 883 is admitted, and the grant follows at once. -/
theorem witness_inbound_admission :
    let s := reporting yard 5 (.identify (ascii "KC-0071"))
    let t := after .identify s
    ReportAt s (.identify (ascii "KC-0071")) 5 (.terminal 0)
    ∧ ((s.seq.lanes[(0 : LaneId)]).state = .idle ∧ s.yardStop = false
      ∧ (s.seq.lanes[(0 : LaneId)]).config = (laneOf1 .aToB .inbound).config ∧ waitingVisit s kc0071.id = none
      ∧ findVehicle s kc0071.id = some kc0071 ∧ visitOf s kc0071.id = none ∧ s.visits.table.length < 64
      ∧ kc0071.account ≠ 0 ∧ findAccount s kc0071.account = some account12 ∧ account12.isHeld = false
      ∧ account12.overLimit = false ∧ account12.kind = .council ∧ kc0071.material = some 3 ∧ activeRow s 3 = some row3
      ∧ (row3.restricted = true → kc0071.permit = true) ∧ (kc0071.attendance = true → s.port.up = true)
      ∧ 4 ≤ unclaimedFree s)
    ∧ t.visits.table = [visit883] ∧ t.visits.next = 884 ∧ t.port.claims = 3 ∧ t.port.records.length = 1
    ∧ t.tables.accounts = [{ account12 with visits := 1 }] ∧ (t.seq.lanes[(0 : LaneId)]).state = .entering :=
  ⟨reportAt_of (by decide +kernel), by decide +kernel⟩

/-- Lane 1 in ASKING with a pending admission. -/
def asking : State := modLane 0 (fun x => { x with state := .asking, asking := some (ascii "KC-0071") }) yard

theorem witness_key :
    let zero := reporting asking 5 (.key (.number 0))
    let stop := reporting asking 5 (.key .cancel)
    let idle := reporting yard 5 (.key .cancel)
    (ReportAt zero (.key (.number 0)) 5 (.terminal 0) ∧ ReportAt stop (.key .cancel) 5 (.terminal 0)
      ∧ ReportAt idle (.key .cancel) 5 (.terminal 0))
    ∧ (zero.seq.lanes[(0 : LaneId)]).state = .asking ∧ (stop.seq.lanes[(0 : LaneId)]).armFaulted = false
    ∧ (idle.seq.lanes[(0 : LaneId)]).state ≠ .asking ∧ shown (after .key zero) 5 = [.enterMaterial]
    ∧ ((after .key stop).seq.lanes[(0 : LaneId)]).state = .idle
    ∧ ((after .key (reporting asking 5 (.key (.number 3)))).visits.table.map (·.number)) = [883] :=
  ⟨⟨reportAt_of (by decide +kernel), reportAt_of (by decide +kernel), reportAt_of (by decide +kernel)⟩,
    by decide +kernel⟩

/-- Lane 1 HELD for a reason, to resume a state. -/
def heldFor (r : HoldReason) (resume : LaneState) (s : State) : State :=
  modLane 0 (fun x => { x with state := .held, hold := some (r, resume) }) s

theorem stationsActive_of {s : State} {l : LaneId}
    (h : ((filledNode s (.station l .entry)).map (fun a => (s.bus.nodes[a]).state == .active)).getD true = true
      ∧ ((filledNode s (.station l .exit)).map (fun a => (s.bus.nodes[a]).state == .active)).getD true = true) :
    StationsActive s l := by
  intro e a ha
  cases e <;> simp_all

theorem witness_attendant :
    let s := reporting (heldFor .printFailed .releasing yard) 5 .attendant
    (ReportAt s .attendant 5 (.terminal 0) ∧ StationsActive s 0 ∧ ReportAt (reporting yard 5 .attendant) .attendant 5 (.terminal 0))
    ∧ (s.seq.lanes[(0 : LaneId)]).state = .held ∧ (s.seq.lanes[(0 : LaneId)]).hold = some (.printFailed, .releasing)
    ∧ s.yardStop = false ∧ (s.seq.lanes[(0 : LaneId)]).config = (laneOf1 .aToB .inbound).config
    ∧ (s.seq.lanes[(0 : LaneId)]).armFaulted = false ∧ (yard.seq.lanes[(0 : LaneId)]).state ≠ .held
    ∧ ((after .attendant s).seq.lanes[(0 : LaneId)]).state = .releasing
    ∧ ((after .attendant s).bus.queue.map (·.frame)).take 2 = [.signal .green, .arm .raise] :=
  ⟨⟨reportAt_of (by decide +kernel), stationsActive_of (by decide +kernel), reportAt_of (by decide +kernel)⟩,
    by decide +kernel⟩

/-! ## Tickets -/

/-- Visit 883 weighed out, its ticket taken. -/
def ticketed883 : Visit :=
  { onSite883 with
    second := some { w27340 with weight := 11120 }, outLane := some 1, lane := some 1, state := .ticketing,
    charge := some (chargeFor row3 16380), posted := true, claims := 1 }

/-- The content of its ticket. -/
def content883 : TicketContent :=
  { visit := 883, vehicle := ascii "KC-0071", account := 12, material := 3, first := w27340,
    second := { w27340 with weight := 11120 }, tare := .stored 10960, tareValue := 10960, charge := chargeFor row3 16380,
    overweight := false }

/-- Step 6 of section 11.1: the charge. -/
theorem test_section_11_1_charge :
    chargeFor row3 16380 = { net := 16380, gate := 137592, levy := 49140, total := 186732 }
    ∧ contentOf ticketed883 = some content883 := by decide +kernel

/-- A COPY whose commands have all been answered, alone in lane 1's printer. -/
def copyDone : Ticket :=
  { kind := .copy, number := some 412958, stage := .awaitingDone, content := content883, parts := [(true, [])], pos := 1,
    jobTag := some 1 }

def printing (t : Ticket) : State :=
  modPrinter 0 (fun p => { p with queue := [t], jobTag := 1, timer := some { limit := 20000, left := 0 } }) yard

theorem witness_print_retry :
    let t : Ticket := { copyDone with stage := .printing, pos := 0 }
    let s := modPrinter 0 (fun p => { p with retry := some 0 }) (printing t)
    s.powered = true ∧ (s.tickets.printers[(0 : LaneId)]).retry = some 0 ∧ (s.tickets.printers[(0 : LaneId)]).queue = [t]
    ∧ (roleOf s (.printer 0)).node = some (6, serialAt 6) ∧ (s.bus.nodes[(6 : NodeId)]).state = .active
    ∧ t.command.payload.length ≤ ((s.bus.nodes[(6 : NodeId)]).desc.map (·.maxPayload)).getD 32 ∧ s.bus.queue.length < 16
    ∧ (after (.printRetryExpiry 0) s).bus.queue.map (·.frame) = [.printLine true []] := by decide +kernel

theorem witness_ticket_ends :
    let s := printing copyDone
    let outcome := fun (u : State) => ((u.tickets.printers[(0 : LaneId)]).queue.length, (u.tickets.printers[(0 : LaneId)]).lastJob.bind (·.failure))
    (ReportAt (reporting s 6 (.done 1)) (.done 1) 6 (.printer 0) ∧ ReportAt (reporting s 6 (.paperOut 0)) (.paperOut 0) 6 (.printer 0)
      ∧ ReportAt (reporting s 6 (.jam 0)) (.jam 0) 6 (.printer 0))
    ∧ (s.tickets.printers[(0 : LaneId)]).queue = [copyDone] ∧ copyDone.parts.length ≤ copyDone.pos
    ∧ (∀ x ∈ s.tickets.handOver, x.2 ≠ 0) ∧ (s.tickets.printers[(0 : LaneId)]).timer.isSome = true
    ∧ outcome (after .done (reporting s 6 (.done 1))) = (0, none)
    ∧ outcome (after .paperOut (reporting s 6 (.paperOut 0))) = (0, some .paperOut)
    ∧ outcome (after .jam (reporting s 6 (.jam 0))) = (0, some .jam)
    ∧ outcome (after (.printTimerExpiry 0) s) = (0, some .timeout) :=
  ⟨⟨reportAt_of (by decide +kernel), reportAt_of (by decide +kernel), reportAt_of (by decide +kernel)⟩,
    by decide +kernel⟩

theorem witness_visit_closed :
    let s := visiting ticketed883
    let t := closeVisit 883 (some 412958) none s
    findVisit s 883 = some ticketed883 ∧ (closedOf ticketed883 (some 412958) none).isSome = true ∧ 1 ≤ s.port.claims
    ∧ ticketed883.account ≠ 0 ∧ findAccount s 12 = some { account12 with visits := 1 } ∧ ticketed883.bank = some 0
    ∧ t.visits.table = [] ∧ t.port.claims = 0 ∧ (t.tables.banks[(0 : BankId)]).refs = 0
    ∧ t.tables.accounts = [account12] ∧ t.port.records.map (fun r => r.bytes.length) = [95] := by decide +kernel

/-- The visit's ORIGINAL, its commands all answered, alone in lane 1's printer. -/
def originalDone : State :=
  modPrinter 0 (fun p => { p with queue := [{ copyDone with kind := .original }], jobTag := 1,
                                  timer := some { limit := 20000, left := 0 } }) (visiting ticketed883)

theorem witness_original_ends :
    let s := originalDone
    let ends := fun (c : Instr) (s : State) => let u := after c s
      (u.visits.table.length, u.port.claims, u.port.records.length, (u.tickets.printers[(0 : LaneId)]).queue.length)
    (ReportAt (reporting s 6 (.done 1)) (.done 1) 6 (.printer 0) ∧ ReportAt (reporting s 6 (.paperOut 0)) (.paperOut 0) 6 (.printer 0)
      ∧ ReportAt (reporting s 6 (.jam 0)) (.jam 0) 6 (.printer 0))
    ∧ (copyDone.parts.length ≤ copyDone.pos ∧ (∀ x ∈ s.tickets.handOver, x.2 ≠ 0) ∧ findVisit s 883 = some ticketed883
      ∧ content883.visit = 883 ∧ 1 ≤ s.port.claims ∧ (closedOf ticketed883 (some 412958) (some .jam)).isSome = true
      ∧ (s.tickets.printers[(0 : LaneId)]).timer.isSome = true)
    ∧ [ends .done (reporting s 6 (.done 1)), ends .paperOut (reporting s 6 (.paperOut 0)), ends .jam (reporting s 6 (.jam 0)),
        ends (.printTimerExpiry 0) s] = List.replicate 4 (0, 0, 1, 0)
    ∧ (s.yardStop = false ∧ s.cal.store.inFlight = none ∧ (after .warmReset s).visits.table = []) :=
  ⟨⟨reportAt_of (by decide +kernel), reportAt_of (by decide +kernel), reportAt_of (by decide +kernel)⟩,
    by decide +kernel⟩

/-! ## Timers -/

/-- Bridge 1 with a zero, W_avg and flag: the table of R16, where Z_init = 400. -/
def tracked (zb wAvg : Int) (flag : Bool) : State :=
  modEngine 0 (fun e => { e with zero := some { zb := zb, zinit := 400 }, wAvg := some wAvg, zeroLimit := flag }) yard

theorem witness_zero_tracking :
    let run := fun zb wAvg flag =>
      let t := after (.zeroTrackingExpiry 0) (tracked zb wAvg flag)
      ((t.engine[(0 : BridgeId)]).zero.map (·.zb), (t.engine[(0 : BridgeId)]).zeroLimit, t.port.records.length)
    let s := tracked 11390 11450 false
    let e := s.engine[(0 : BridgeId)]
    (s.powered = true ∧ source s 0 = some cal1 ∧ e.status ≠ .calibrating ∧ e.stable = true ∧ inRange s 0 = true
      ∧ |(11450 : Int) - 11390| ≤ 5 * (cal1.e : Int) ∧ granted s 0 = false ∧ beamsClear s 0 = true)
    ∧ run 11390 11450 false = (some 11410, false, 0) ∧ run 11435 11444 false = (some 11444, false, 0)
    ∧ run 12390 12430 false = (some 12390, true, 1) ∧ run 12390 12430 true = (some 12390, true, 0)
    ∧ run 11444 11444 true = (some 11444, true, 0) ∧ run 11300 11450 false = (some 11300, false, 0)
    ∧ (let v := modEngine 0 (fun x => { x with wAvg := none }) s
       let w := modCal (fun c => { c with store := { c.store with records := State.reset.cal.store.records } }) s
       (v.engine[(0 : BridgeId)]).wAvg = none ∧ source w 0 = none
       ∧ ((after (.zeroTrackingExpiry 0) v).engine[(0 : BridgeId)]).zero = some { zb := 11390, zinit := 400 }
       ∧ ((after (.zeroTrackingExpiry 0) w).engine[(0 : BridgeId)]).zero = some { zb := 11390, zinit := 400 }) := by decide +kernel

theorem witness_attention_retry :
    let right := modPlanNode 2 (fun x => { x with retry := some 0 }) yard
    let wrong := modNode 2 (fun n => { n with attention := false }) right
    (right.powered = true ∧ (right.plan.nodes[(2 : NodeId)]).retry = some 0 ∧ (right.bus.nodes[(2 : NodeId)]).state = .active
      ∧ (right.bus.nodes[(2 : NodeId)]).attention = attentionWanted right 2)
    ∧ ((wrong.bus.nodes[(2 : NodeId)]).attention ≠ attentionWanted wrong 2 ∧ (wrong.plan.nodes[(2 : NodeId)]).offer = .none
      ∧ wrong.bus.queue.length < 16)
    ∧ (after (.attentionRetryExpiry 2) wrong).bus.queue.map (·.frame) = [.attentionOn]
    ∧ (after (.attentionRetryExpiry 2) right).bus.queue = [] := by decide +kernel

theorem witness_station_retry :
    let s := modStation 0 .entry (fun x => { x with retry := some 0, wantSignal := .green, wantArm := .none }) yard
    let st := (s.seq.lanes[(0 : LaneId)]).station .entry
    (s.powered = true ∧ st.retry = some 0 ∧ filledNode s (.station 0 .entry) = some 3 ∧ (s.bus.nodes[(3 : NodeId)]).state = .active
      ∧ 1 ≤ ((s.bus.nodes[(3 : NodeId)]).desc.map (·.maxPayload)).getD 32 ∧ s.bus.queue.length < 16 ∧ s.yardStop = false
      ∧ st.outOff = false ∧ st.outOn = false ∧ st.drive = .on ∧ st.driveOffMark = false ∧ st.signal ≠ some st.wantSignal
      ∧ st.outSignal = none ∧ st.armCall = none)
    ∧ (after (.stationRetryExpiry 0 .entry) s).bus.queue.map (·.frame) = [.signal .green] := by decide +kernel

theorem witness_drive_retry :
    let off := { modStation 0 .entry (fun x => { x with retryOff := some 0 }) yard with yardStop := true }
    let on := modStation 0 .entry (fun x => { x with retryOn := some 0, drive := .off }) yard
    (off.yardStop = true ∧ ((off.seq.lanes[(0 : LaneId)]).station .entry).retryOn = none
      ∧ ((off.seq.lanes[(0 : LaneId)]).station .entry).drive ≠ .off ∧ filledNode off (.station 0 .entry) = some 3
      ∧ ((off.seq.lanes[(0 : LaneId)]).station .entry).outOff = false ∧ ((off.seq.lanes[(0 : LaneId)]).station .entry).outOn = false)
    ∧ (on.yardStop = false ∧ ((on.seq.lanes[(0 : LaneId)]).station .entry).retryOff = none
      ∧ ((on.seq.lanes[(0 : LaneId)]).station .entry).drive ≠ .on)
    ∧ (after (.driveRetryExpiry 0 .entry) off).bus.queue.map (·.frame) = [.driveOff]
    ∧ (after (.driveRetryExpiry 0 .entry) on).bus.queue.map (·.frame) = [.driveOn] := by decide +kernel

/-- Lane 1 in a state with one of its timers at its end, carrying a visit. -/
def timing (st : LaneState) (t : LaneTimer) (v : Option Nat) (s : State) : State :=
  modBridge 0 (fun x => { x with holder := some 0 })
    (modLane 0 (fun x => { x with state := st, timer := some (t, { limit := 90000, left := 0 }), visit := v }) s)

theorem witness_entry_timer :
    let s := timing .entering .entry (some 883) (visiting visit883)
    s.powered = true ∧ (s.seq.lanes[(0 : LaneId)]).state = .entering ∧ findVisit s 883 = some visit883
    ∧ 1 ≤ visit883.claims ∧ visit883.claims ≤ s.port.claims ∧ (s.seq.lanes[(0 : LaneId)]).armFaulted = false
    ∧ (after (.entryTimerExpiry 0) s).visits.table = [] ∧ ((after (.entryTimerExpiry 0) s).seq.lanes[(0 : LaneId)]).state = .idle
    ∧ ((after (.entryTimerExpiry 0) s).seq.bridges[(0 : BridgeId)]).holder = none
    ∧ (after (.entryTimerExpiry 0) s).port.claims = 0 := by decide +kernel

theorem witness_lane_timers :
    let ask_ := modLane 0 (fun x => { x with timer := some (.ask, { limit := 60000, left := 0 }) }) asking
    let stab := timing .weighing .stability (some 883) (visiting visit883)
    let clear := timing .releasing .clearance none yard
    let move := modStation 0 .exit (fun x => { x with motion := some (.raise, 0), arm := .raising }) (laneIn .releasing yard)
    (ask_.powered = true ∧ (ask_.seq.lanes[(0 : LaneId)]).armFaulted = false)
    ∧ (((move.seq.lanes[(0 : LaneId)]).station .exit).motion.isSome = true ∧ ((move.seq.lanes[(0 : LaneId)]).station .exit).arm ≠ .fault
      ∧ (move.seq.lanes[(0 : LaneId)]).state.faults = true)
    ∧ ((after (.askTimerExpiry 0) ask_).seq.lanes[(0 : LaneId)]).state = .idle
    ∧ ((after (.stabilityTimerExpiry 0) stab).seq.lanes[(0 : LaneId)]).hold = some (.unstable, .weighing)
    ∧ (after (.stabilityTimerExpiry 0) stab).visits.table.map (·.state) = [.held]
    ∧ ((after (.clearanceTimerExpiry 0) clear).seq.lanes[(0 : LaneId)]).fault = some (.clearance, .releasing)
    ∧ ((after (.motionTimerExpiry 0 .exit) move).seq.lanes[(0 : LaneId)]).fault = some (.armTimeout, .releasing) := by
  decide +kernel

theorem witness_other_timers :
    let run : StepRun := { step := .zero, tag := 9, timer := 0 }
    let paused := modBridge 0 (fun x => { x with pause := true, pauseTimer := some 0 }) yard
    let quiet := modEnum (fun e => { e with holdOff := some 0 }) yard
    let live : Live := { bridges := [0], interval := 500, timer := 0 }
    let sub := modPort (fun p => { p with live := some live }) yard
    (calibrating (some run)).cal.session.bind (·.step) = some run
    ∧ (∀ l ∈ (paused.seq.bridges[(0 : BridgeId)]).queue, (paused.seq.lanes[l]).state ≠ .waitBridge)
    ∧ (quiet.bus.enum.joinPending = false ∧ quiet.bus.enum.running = false) ∧ OutFrame.live ∉ sub.port.waiting
    ∧ answerOf (after .calStepTimeout (calibrating (some run))) = some (6, [])
    ∧ ((after (.intrusionEmptyExpiry 0) paused).seq.bridges[(0 : BridgeId)]).pause = false
    ∧ (after .holdOffExpiry (modEnum (fun e => { e with joinPending := true }) quiet)).bus.enum.running = true
    ∧ (after .silenceTimerExpiry yard).port.up = false ∧ outgoing (after .liveIntervalExpiry sub).port = [.live]
    ∧ outgoing (after .liveIntervalExpiry (modPort (fun p => { p with waiting := [.live] }) sub)).port = [.live]
    ∧ after .frameGapTimeout yard = yard := by decide +kernel

/-! ## Clock, store and link -/

/-- Section 11.2, step 3: the count reaches the switch time. -/
theorem witness_clock :
    let last := modTables (fun t => { t with clock := { t.clock with secs := 4294967295, ms := 999 } }) yard
    let armed := modTables (fun t => { t with switchTime := some 1719800001 }) yard
    (4294967295 ≤ last.tables.clock.secs ∧ yard.tables.clock.secs < 4294967295 ∧ yard.tables.switchTime = none)
    ∧ (armed.tables.clock.set = true ∧ armed.tables.switchTime = some 1719800001 ∧ 1719800001 ≤ armed.tables.clock.secs + 1)
    ∧ (after .secondsTick last).tables.clock = { secs := 4294967295, ms := 0, set := true }
    ∧ (after .secondsTick yard).tables.clock.secs = 1719800001
    ∧ (after .secondsTick armed).tables.active = 1
    ∧ (after .secondsTick armed).port.records.map (·.body) = [.tariffSwitched 0 1 1719800001 1719800001] := by decide +kernel

theorem witness_set_clock :
    let s := ask yard 30 (f1 (u32 100))
    let armed := ask (modTables (fun t => { t with switchTime := some 100 }) yard) 30 (f1 (u32 100))
    (RequestAt s 30 setClockLayout 9 [some (.num 100)] ∧ RequestAt armed 30 setClockLayout 9 [some (.num 100)])
    ∧ (after .setClock s).tables.clock = { secs := 100, ms := 0, set := true } ∧ (after .setClock armed).tables.active = 1 :=
  ⟨⟨requestAt_of (by decide +kernel), requestAt_of (by decide +kernel)⟩, by decide +kernel⟩

theorem witness_set_tariff_switch :
    let later := ask yard 42 (f1 (u32 1719800001))
    let now := ask yard 42 (f1 (u32 1719800000))
    let never := ask yard 42 [0]
    (RequestAt later 42 setTariffSwitchLayout 9 [some (.num 1719800001)] ∧ RequestAt now 42 setTariffSwitchLayout 9 [some (.num 1719800000)]
      ∧ RequestAt never 42 setTariffSwitchLayout 9 [none])
    ∧ later.tables.clock.secs < 1719800001 ∧ now.tables.clock.set = true ∧ 1719800000 ≤ now.tables.clock.secs
    ∧ (after .setTariffSwitch later).tables.switchTime = some 1719800001 ∧ (after .setTariffSwitch now).tables.active = 1
    ∧ (after .setTariffSwitch never).tables.switchTime = none :=
  ⟨⟨requestAt_of (by decide +kernel), requestAt_of (by decide +kernel), requestAt_of (by decide +kernel)⟩, by decide +kernel⟩

/-- A commit taken under tag 5, in one of its two writes. -/
def committing (w : StoreWrite) : State :=
  let s := calibrating none
  modStore (fun st => { st with inFlight := some w }) (modSession (fun x => { x with commit := some 5 }) s)

theorem witness_commit_writes :
    let r := { record1 with audit := 42 }
    let one := committing (.record 0 r)
    let two := committing (.counter 0 42)
    (one.powered = true ∧ one.cal.store.inFlight = some (.record 0 r))
    ∧ (two.powered = true ∧ two.port.resetAsked = none ∧ two.cal.store.inFlight = some (.counter 0 42)
      ∧ two.cal.session.bind (·.commit) = some 5 ∧ 1 ≤ two.port.claims ∧ two.port.up = true)
    ∧ (after .commitRecordWriteDone one).cal.store.inFlight = some (.counter 0 42)
    ∧ ((after .commitRecordWriteDone one).cal.store.records[(0 : BridgeId)]).content.audit = 42
    ∧ (after .commitCounterWriteDone two).cal.session = none ∧ (after .commitCounterWriteDone two).port.claims = 0
    ∧ ((after .commitCounterWriteDone two).engine[(0 : BridgeId)]).status = .ready := by decide +kernel

/-- The law of the zero in the yard, in a session with a zero saved, and in each write of a commit. -/
theorem witness_zero_law : ZeroLaw yard ∧ ZeroLaw (calibrating (some { step := .zero, tag := 5, timer := 900 }))
    ∧ ZeroLaw (committing (.record 0 record1)) ∧ ZeroLaw (committing (.counter 0 42)) := by
  refine ⟨?_, ?_, ?_, ?_⟩ <;> (unfold ZeroLaw Zero.within; decide +kernel)

theorem witness_number_writes :
    let t : Ticket := { copyDone with kind := .original, number := none, stage := .numbering, parts := [], jobTag := none }
    let s := setRole (.printer 0) { fill := .degraded, node := some (6, serialAt 6) } (printing t)
    let one := modTickets (fun x => { x with inFlight := some (883, 0, 412958) }) (modStore (fun st => { st with inFlight := some (.ticket 412959) }) s)
    let two := modStore (fun st => { st with inFlight := some (.setTicket 77 9) }) yard
    let r := { record1 with audit := 42 }
    let behind := modTickets (fun x => { x with numbering := [(900, 1)] }) (modStore (fun st => { st with asked := [.record 0 r] }) one)
    (behind.cal.store.asked = [.record 0 r] ∧ behind.tickets.inFlight = some (883, 0, 412958)
      ∧ (after .ticketNumberWriteDone behind).cal.store.inFlight = some (.record 0 r))
    ∧ (one.powered = true ∧ one.port.resetAsked = none ∧ one.cal.store.asked = [] ∧ one.tickets.numbering = []
      ∧ (roleOf one (.printer 0)).fill = .degraded)
    ∧ (two.cal.store.inFlight = some (.setTicket 77 9) ∧ two.cal.store.asked = [] ∧ two.tickets.numbering = [])
    ∧ (((after .ticketNumberWriteDone one).tickets.printers[(0 : LaneId)]).queue.map (fun x => (x.number, x.stage))) = [(some 412958, .waiting)]
    ∧ (after .ticketNumberWriteDone one).cal.store.ticket = written u32 412959
    ∧ (after .setTicketNumberWriteDone two).cal.store.ticket.content = 77
    ∧ answerOf (after .setTicketNumberWriteDone two) = some (0, []) := by decide +kernel

theorem witness_office_frames :
    let f := frameOf 4 17 (f1 [1])
    let full := modPort (fun p => { p with buffer := List.replicate 4 { kind := 4, tag := 1, body := [] } }) yard
    let down := modPort (fun p => { p with up := false, silence := none, records := [Record.firstStarted] }) yard
    (yard.powered = true ∧ frameValid f = true ∧ yard.port.up = true ∧ yard.port.buffer.length < 4)
    ∧ (full.port.up = true ∧ 4 ≤ full.port.buffer.length) ∧ (down.port.up = false ∧ down.port.records ≠ [])
    ∧ (after (.officeFrame f) yard).port.buffer.map (·.tag) = [17]
    ∧ outgoing (after (.officeFrame f) full).port = [.answer 17 [2]]
    ∧ outgoing (after (.officeFrame f) down).port = [.notice (u32 1 ++ u16 1)]
    ∧ after (.frameDiscard { f with check := 0 }) yard = yard := by decide +kernel

theorem witness_frame_sent :
    let s := modPort (fun p => { p with sending := some { frame := .answer 1 [0], bytes := [] } }) yard
    let more := modPort (fun p => { p with waiting := [.live, .notice []] }) s
    (s.powered = true ∧ s.port.sending = some { frame := .answer 1 [0], bytes := [] } ∧ s.port.waiting = [])
    ∧ more.port.waiting = [.live, .notice []] ∧ (after .frameSent s).port.sending = none
    ∧ outgoing (after .frameSent more).port = [.live, .notice []] ∧ outgoing (makeReady .live s).port = [.answer 1 [0], .live] := by
  decide +kernel

/-- An unknown kind, a body cut wrongly, a code outside its set, a needed field left out, and a frame of another kind. -/
theorem witness_bodies :
    let s := ask yard 3 (f1 [1] ++ f1 [3])
    HeadIs (ask yard 65 []) 65 9 [] ∧ HeadIs (ask yard 0 []) 0 9 [] ∧ HeadIs s 3 9 (f1 [1] ++ f1 [3])
    ∧ (cutFields setBridgeServiceLayout [2] = none ∧ cutFields setBridgeServiceLayout (f1 [1] ++ f1 [3]) = some [some [1], some [3]]
      ∧ readFields setBridgeServiceLayout [some [1], some [3]] = none)
    ∧ answerOf (after .unknownRequest (ask yard 65 [])) = some (9, [])
    ∧ answerOf (after .setBridgeService (ask yard 3 [2])) = some (10, [])
    ∧ answerOf (after .setBridgeService s) = some (7, [])
    ∧ answerOf (after .setBridgeService (ask yard 3 (f1 [1] ++ [0]))) = some (7, [])
    ∧ after .setBridgeService (ask yard 4 (f1 [1])) = ask yard 4 (f1 [1]) := by
  refine ⟨⟨rfl, rfl, _, _, rfl, by decide +kernel, rfl, rfl⟩, ⟨rfl, rfl, _, _, rfl, by decide +kernel, rfl, rfl⟩,
    ⟨rfl, rfl, _, _, rfl, by decide +kernel, rfl, rfl⟩, ?_⟩
  decide +kernel

/-! ## Bridges: requests, samples and captures -/

/-- R15's example: Max = 60,000, Z_init = 400; and each line of its table. -/
theorem witness_zero_bridge :
    let at_ := fun wAvg => ask (tracked 400 wAvg true) 1 (f1 [1])
    let out := ask yard 1 (f1 [5])
    let moving := modEngine 0 (fun e => { e with stable := false }) (at_ 12300)
    (RequestAt (at_ 12300) 1 zeroBridgeLayout 9 [some (.num 1)] ∧ RequestAt out 1 zeroBridgeLayout 9 [some (.num 5)]
      ∧ RequestAt moving 1 zeroBridgeLayout 9 [some (.num 1)])
    ∧ (source (at_ 12300) 0 = some cal1 ∧ ((at_ 12300).engine[(0 : BridgeId)]).status ≠ .calibrating
      ∧ ((at_ 12300).engine[(0 : BridgeId)]).stable = true ∧ inRange (at_ 12300) 0 = true ∧ granted (at_ 12300) 0 = false
      ∧ beamsClear (at_ 12300) 0 = true ∧ (moving.engine[(0 : BridgeId)]).stable = false)
    ∧ answerOf (after .zeroBridge (at_ 12300)) = some (0, [])
    ∧ ((after .zeroBridge (at_ 12300)).engine[(0 : BridgeId)]).zero = some { zb := 12300, zinit := 400 }
    ∧ answerOf (after .zeroBridge (at_ 12500)) = some (7, []) ∧ answerOf (after .zeroBridge out) = some (7, [])
    ∧ answerOf (after .zeroBridge moving) = some (6, []) :=
  ⟨⟨requestAt_of (by decide +kernel), requestAt_of (by decide +kernel), requestAt_of (by decide +kernel)⟩, by decide +kernel⟩

/-- R25's example, and a parameter set within its ranges. -/
theorem witness_bridge_parameters :
    let s := ask yard 2 (f1 [1] ++ f1 [40] ++ f1 [8] ++ f1 (weight4 0) ++ f1 [10] ++ f1 (u16 20))
    let ok := ask yard 2 (f1 [1] ++ f1 [8] ++ f1 [8] ++ [0] ++ f1 [64] ++ f1 (u16 500))
    let held := modBridge 0 (fun x => { x with holder := some 0 }) ok
    (RequestAt s 2 setBridgeParametersLayout 9 [some (.num 1), some (.num 40), some (.num 8), some (.int 0), some (.num 10), some (.num 20)]
      ∧ RequestAt ok 2 setBridgeParametersLayout 9 [some (.num 1), some (.num 8), some (.num 8), none, some (.num 64), some (.num 500)])
    ∧ granted s 0 = false ∧ (s.engine[(0 : BridgeId)]).status ≠ .calibrating ∧ granted held 0 = true
    ∧ answerOf (after .setBridgeParameters s) = some (1, []) ∧ answerOf (after .setBridgeParameters ok) = some (0, [])
    ∧ answerOf (after .setBridgeParameters held) = some (6, [])
    ∧ ((after .setBridgeParameters s).engine[(0 : BridgeId)]).params = { n := 32, m := 8, band := some 1, hold := 10, threshold := 20 }
    ∧ ((after .setBridgeParameters s).engine[(0 : BridgeId)]).filter = [] :=
  ⟨⟨requestAt_of (by decide +kernel), requestAt_of (by decide +kernel)⟩, by decide +kernel⟩

theorem witness_bridge_service :
    let out := ask yard 3 (f1 [1] ++ f1 [1])
    let back := ask yard 3 (f1 [1] ++ f1 [2])
    (RequestAt out 3 setBridgeServiceLayout 9 [some (.num 1), some (.num 1)] ∧ RequestAt back 3 setBridgeServiceLayout 9 [some (.num 1), some (.num 2)])
    ∧ granted out 0 = false ∧ (out.engine[(0 : BridgeId)]).status ≠ .outOfService
    ∧ (out.seq.lanes[(0 : LaneId)]).bridge = some 0 ∧ (out.seq.lanes[(0 : LaneId)]).state = .idle
    ∧ ((after .setBridgeService out).engine[(0 : BridgeId)]).status = .outOfService
    ∧ ((after .setBridgeService out).seq.lanes[(0 : LaneId)]).state = .closed
    ∧ ((after .setBridgeService back).engine[(0 : BridgeId)]).status = .ready :=
  ⟨⟨requestAt_of (by decide +kernel), requestAt_of (by decide +kernel)⟩, by decide +kernel⟩

/-- A valid sample and an invalid one, alone and third in a run. -/
theorem witness_bridge_sample :
    let late := modEngine 0 (fun e => { e with samples := alter e.samples 1 (fun x => { x with missed := true }) }) yard
    let third := modEngine 0 (fun e => { e with invalidRun := 2 }) late
    source yard 0 = some cal1 ∧ (yard.engine[(0 : BridgeId)]).zero = some { zb := 0, zinit := 0 } ∧ 0 < cal1.e
    ∧ sampleValid late 0 = false ∧ (late.engine[(0 : BridgeId)]).invalidRun < 2 ∧ 2 ≤ (third.engine[(0 : BridgeId)]).invalidRun
    ∧ ((bridgeSample 0 yard).engine[(0 : BridgeId)]).live = .stable ∧ ((bridgeSample 0 late).engine[(0 : BridgeId)]).w = some 0
    ∧ ((bridgeSample 0 third).engine[(0 : BridgeId)]).w = none ∧ ((bridgeSample 0 third).engine[(0 : BridgeId)]).filter = [] := by
  decide +kernel

/-- Step 3 of section 11.1: the first capture of visit 883. -/
theorem witness_first_capture :
    let s := { visiting visit883 with tables := { yard.tables with accounts := [{ account12 with visits := 1 }] } }
    let r := captureVisit 883 w27340 s
    findVisit s 883 = some visit883 ∧ visit883.state = .admitted ∧ visit883.bank = none ∧ w27340.trade = true
    ∧ rowIn s s.tables.active visit883.material = some row3 ∧ 1 ≤ s.port.claims
    ∧ r.2 = some .release ∧ findVisit r.1 883 = some { onSite883 with lane := some 0 } ∧ r.1.port.claims = 2
    ∧ (r.1.tables.banks[(0 : BankId)]).refs = 1 := by decide +kernel

/-- Step 6 of section 11.1: the second capture, at 11,120 kg; one at 12,440 kg fails the tare test. -/
theorem witness_second_capture :
    let v := { onSite883 with state := .leaving, outLane := some 1, lane := some 1 }
    let s := visiting v
    let w := { w27340 with weight := 11120 }
    let bad := { w27340 with weight := 12440 }
    let r := captureVisit 883 w s
    findVisit s 883 = some v ∧ v.bank = some 0 ∧ rowIn s 0 v.material = some row3 ∧ v.first = some w27340
    ∧ (v.tare.value = some 10960 ∧ tareTestFails s.visits.tolerance 10960 (unladen row3.kind 27340 11120) = false
      ∧ tareTestFails s.visits.tolerance 10960 (unladen row3.kind 27340 12440) = true)
    ∧ 0 ≤ netWeight row3.kind v.tare 27340 11120 ∧ 1 ≤ s.port.claims
    ∧ findAccount s 12 = some { account12 with visits := 1 }
    ∧ r.2 = some .ticket ∧ findVisit r.1 883 = some ticketed883
    ∧ (findAccount r.1 12).map (·.balance) = some 4999032 ∧ r.1.cal.store.inFlight = some (.ticket 412959)
    ∧ (captureVisit 883 bad s).2 = some (.hold .tareMismatch) := by decide +kernel

/-! ## Calibration -/

theorem witness_calibration_locked :
    let s := ask yard 9 (f1 [1])
    requestOf .calTrim = some (9, calTrimLayout) ∧ RequestAt s 9 calTrimLayout 9 [some (.num 1)] ∧ s.calEnable = false
    ∧ answerOf (after .calTrim s) = some (5, []) :=
  ⟨rfl, requestAt_of (by decide +kernel), by decide +kernel⟩

/-- CAL BEGIN on bridge 1 takes one claim; the bridge's lanes close. -/
theorem witness_cal_begin :
    let s := ask { yard with calEnable := true } 5 (f1 [1] ++ [0])
    let t := after .calBegin s
    RequestAt s 5 calBeginLayout 9 [some (.num 1), none]
    ∧ (s.calEnable = true ∧ s.cal.session = none ∧ (s.engine[(0 : BridgeId)]).outOfService = false ∧ granted s 0 = false
      ∧ (s.cal.store.records[(0 : BridgeId)]).valid = true ∧ 1 ≤ unclaimedFree s)
    ∧ t.port.claims = 1 ∧ (t.engine[(0 : BridgeId)]).status = .calibrating ∧ (t.cal.session.map (·.work)) = some cal1
    ∧ (t.seq.lanes[(0 : LaneId)]).state = .closed :=
  ⟨requestAt_of (by decide +kernel), by decide +kernel⟩

theorem witness_cal_abort :
    let s := ask (calibrating (some { step := .corner 1, tag := 5, timer := 900 })) 12 (f1 [1])
    RequestAt s 12 calAbortLayout 9 [some (.num 1)] ∧ s.calEnable = true ∧ s.cal.session.bind (·.commit) = none
    ∧ s.cal.session.isSome = true ∧ s.port.up = true ∧ (outgoing (after .calAbort s).port).contains (.answer 5 [6]) = true ∧ answerOf (after .calAbort s) = some (0, [])
    ∧ ((after .calAbort s).engine[(0 : BridgeId)]).zero = some { zb := 30, zinit := 10 } :=
  ⟨requestAt_of (by decide +kernel), by decide +kernel⟩

theorem witness_cal_steps :
    let s := calibrating none
    let zero := ask s 6 (f1 [1])
    let span := ask s 7 (f1 [1] ++ f1 (weight4 150000))
    let corner := ask s 8 (f1 [1] ++ f1 [2])
    (RequestAt zero 6 calZeroLayout 9 [some (.num 1)] ∧ RequestAt span 7 calSpanLayout 9 [some (.num 1), some (.int 150000)]
      ∧ RequestAt corner 8 calCornerLayout 9 [some (.num 1), some (.num 2)])
    ∧ (s.calEnable = true ∧ (sessionOf s 0).isSome = true ∧ (sessionOf s 0).bind (·.step) = none ∧ cal1.n = 2)
    ∧ (after .calZero zero).cal.session.bind (·.step) = some { step := .zero, tag := 9, timer := 60000 }
    ∧ (after .calSpan span).cal.session.bind (·.step) = some { step := .span 150000, tag := 9, timer := 60000 }
    ∧ (after .calCorner corner).cal.session.bind (·.step) = some { step := .corner 1, tag := 9, timer := 60000 }
    ∧ answerOf (after .calZero zero) = none :=
  ⟨⟨requestAt_of (by decide +kernel), requestAt_of (by decide +kernel), requestAt_of (by decide +kernel)⟩, by decide +kernel⟩

/-- R39's example: 10,000 kg, Z_cal = 426, W_avg = 100,026; and the empty deck, answered RANGE. -/
theorem witness_cal_readings :
    let held := fun (z : Zero) (t : State) => modEngine 0 (fun e => { e with zero := some z }) t
    let zeroOf := fun (t : State) => (t.engine[(0 : BridgeId)]).zero
    let s := fun step => modSession (fun x => { x with work := { cal1 with gain := 2097152, zCal := 426 } }) (calibrating (some { step := step, tag := 9, timer := 900 }))
    let work := fun (t : State) => (t.cal.session.map (fun x => (x.work.gain, x.work.zCal)))
    (0 < 2097152 ∧ 0 < (100026 : Int) - 426 ∧ (2105574 : Int) = roundDiv ((2097152 * 10000 * 10 : Nat) : Int) 99600)
    ∧ work (stepReading 0 100026 (s (.span 10000))) = some (2105574, 428)
    ∧ zeroOf (stepReading 0 100026 (held { zb := 426, zinit := 426 } (s (.span 10000)))) = some { zb := 428, zinit := 428 }
    ∧ zeroOf (stepReading 0 100026 (held { zb := 12400, zinit := 426 } (s (.span 10000)))) = none
    ∧ ((67108863 : Int) < roundDiv ((2097152 * 150000 * 10 : Nat) : Int) 100)
    ∧ answerOf (stepReading 0 526 (s (.span 150000))) = some (7, [])
    ∧ work (stepReading 0 526 (s (.span 150000))) = some (2097152, 426)
    ∧ answerOf (stepReading 0 426 (s (.span 10000))) = some (7, [])
    ∧ work (stepReading 0 418 (s .zero)) = some (2097152, 418)
    ∧ ((stepReading 0 50218 (s (.corner 1))).cal.session.map (fun x => x.corners[(1 : CellPos)])) = some (some 49792) := by
  decide +kernel

/-- R41's example. -/
theorem witness_cal_trim :
    let c := fun (s : Nat) => ({ serial := none, z := 0, s := s } : CalCell)
    let work := { cal1 with n := 4, cells := put (put (put (put cal1.cells 0 (c 65536)) 1 (c 66191)) 2 (c 64880)) 3 (c 65536) }
    let read := put (put (put (put (Vector.replicate 8 none) (0 : CellPos) (some (49800 : Int))) 1 (some 50100)) 2 (some 49650)) 3 (some 50050)
    let s := ask (modSession (fun x => { x with work := work, corners := read }) (calibrating none)) 9 (f1 [1])
    RequestAt s 9 calTrimLayout 9 [some (.num 1)]
    ∧ (s.calEnable = true ∧ s.cal.session.bind (·.step) = none ∧ s.cal.session.bind (·.commit) = none
      ∧ work.positions = [0, 1, 2, 3])
    ∧ ((after .calTrim s).cal.session.map (fun x => x.work.positions.map (fun p => (x.work.cells[p]).s)))
      = some [65668, 65927, 65207, 65340] :=
  ⟨requestAt_of (by decide +kernel), by decide +kernel⟩

/-- R42's example: the zero bound test fails at e = 10, Max = 50,000. -/
theorem witness_cal_limits :
    let s := ask (modEngine 0 (fun e => { e with zero := some { zb := 11900, zinit := 400 } }) (calibrating none)) 10
      (f1 [1] ++ f1 [10] ++ f1 (weight4 50000))
    RequestAt s 10 calSetLimitsLayout 9 [some (.num 1), some (.num 10), some (.int 50000)] ∧ limitsValid 10 50000 = true
    ∧ ((after .calSetLimits s).engine[(0 : BridgeId)]).zero = none
    ∧ ((after .calSetLimits (modEngine 0 (fun e => { e with zero := some { zb := 10400, zinit := 400 } }) s)).engine[(0 : BridgeId)]).zero
      = some { zb := 10400, zinit := 400 }
    ∧ (after .calSetLimits s).cal.session.map (fun x => (x.work.e, x.work.max)) = some (10, 50000) :=
  ⟨requestAt_of (by decide +kernel), by decide +kernel⟩

theorem witness_cal_commit :
    let s := ask (calibrating none) 11 (f1 [1])
    RequestAt s 11 calCommitLayout 9 [some (.num 1)]
    ∧ (∀ p ∈ cal1.positions, filled s (.cell 0 p) = true) ∧ nextAudit s = 42 ∧ s.cal.store.inFlight = none
    ∧ (after .calCommit s).cal.store.inFlight = some (.record 0 { data := cal1, commitTime := stamp s, audit := 42 }) :=
  ⟨requestAt_of (by decide +kernel), by decide +kernel⟩

/-! ## Bus and plan requests -/

theorem witness_scan_period :
    let s := fun (n : Nat) => ask yard 14 (f1 (u8 n))
    (RequestAt (s 10) 14 setScanPeriodLayout 9 [some (.num 10)] ∧ RequestAt (s 101) 14 setScanPeriodLayout 9 [some (.num 101)])
    ∧ answerOf (after .setScanPeriod (s 10)) = some (0, []) ∧ answerOf (after .setScanPeriod (s 101)) = some (1, [])
    ∧ (after .setScanPeriod (s 101)).bus.scan.period = 100 ∧ (after .setScanPeriod (s 9)).bus.scan.period = 10 :=
  ⟨⟨requestAt_of (by decide +kernel), requestAt_of (by decide +kernel)⟩, by decide +kernel⟩

theorem witness_node_requests :
    let lost := modNode 5 (fun n => { n with state := .lost }) yard
    let e := ask (modEnum (fun e => { e with holdOff := some 5 }) yard) 15 []
    let r := fun (k : Byte) => ask yard 16 (f1 [6] ++ f1 [k])
    let free := ask yard 16 (f1 [32] ++ f1 [2])
    let full := ask (fill 16 yard) 16 (f1 [6] ++ f1 [2])
    let gone := ask lost 17 (f1 [6])
    (RequestAt e 15 enumerateLayout 9 [] ∧ RequestAt (r 1) 16 resetNodeLayout 9 [some (.num 6), some (.num 1)]
      ∧ RequestAt (r 3) 16 resetNodeLayout 9 [some (.num 6), some (.num 3)] ∧ RequestAt free 16 resetNodeLayout 9 [some (.num 32), some (.num 2)]
      ∧ RequestAt full 16 resetNodeLayout 9 [some (.num 6), some (.num 2)] ∧ RequestAt gone 17 releaseNodeLayout 9 [some (.num 6)])
    ∧ (free.bus.nodes[(31 : NodeId)]).state = .free ∧ (gone.bus.nodes[(5 : NodeId)]).state = .lost ∧ 1 ≤ unclaimedFree gone
    ∧ (after .enumerate e).bus.enum.running = true ∧ (after .resetNode (r 1)).bus.queue.map (·.frame) = [.nodeReset 1]
    ∧ answerOf (after .resetNode (r 3)) = some (7, []) ∧ answerOf (after .resetNode free) = some (6, [])
    ∧ answerOf (after .resetNode full) = some (2, []) ∧ ((after .releaseNode gone).bus.nodes[(5 : NodeId)]).state = .free
    ∧ answerOf (after .releaseNode (ask yard 17 (f1 [6]))) = some (6, []) :=
  ⟨⟨requestAt_of (by decide +kernel), requestAt_of (by decide +kernel), requestAt_of (by decide +kernel),
    requestAt_of (by decide +kernel), requestAt_of (by decide +kernel), requestAt_of (by decide +kernel)⟩, by decide +kernel⟩

/-- An entry written for a node not yet planned, for a serial no node holds, and for a serial another entry holds. -/
theorem witness_put_plan_entry :
    let put_ := fun (s : State) (p : Byte) (x : Serial) => ask s 20 (f1 [p] ++ f1 (serial6 x) ++ f1 [5] ++ f1 [5, 3, 0])
    let stray := modNode 11 (fun _ => { nodeAt 6 with serial := some 0x9999 }) yard
    let vs := fun (p : Nat) (x : Serial) => [some (Value.num p), some (.serial x), some (.num 5), some (.role (.printer 2))]
    (RequestAt (put_ stray 32 0x9999) 20 putPlanEntryLayout 9 (vs 32 0x9999)
      ∧ RequestAt (put_ yard 32 0x9999) 20 putPlanEntryLayout 9 (vs 32 0x9999)
      ∧ RequestAt (put_ yard 32 (serialAt 0)) 20 putPlanEntryLayout 9 (vs 32 (serialAt 0)))
    ∧ (Attach.kind (.printer 2)).code = 5
    ∧ (stray.plan.entries[(31 : PlanId)] = none ∧ planOfSerial stray 0x9999 = none ∧ planOfAttach stray (.printer 2) = none
      ∧ nodeHolding stray 0x9999 = some 11 ∧ nodeHolding yard 0x9999 = none ∧ inUse stray (.printer 2) = false
      ∧ (stray.bus.nodes[(11 : NodeId)]).state = .active ∧ (stray.bus.nodes[(11 : NodeId)]).desc.map (·.kind) = some .printer)
    ∧ planOfSerial yard (serialAt 0) = some 0
    ∧ roleOf (after .putPlanEntry (put_ stray 32 0x9999)) (.printer 2) = { fill := .filled, node := some (11, 0x9999) }
    ∧ (after .putPlanEntry (put_ yard 32 0x9999)).plan.entries[(31 : PlanId)] = some { serial := 0x9999, attach := .printer 2 }
    ∧ answerOf (after .putPlanEntry (put_ yard 32 (serialAt 0))) = some (6, []) :=
  ⟨⟨requestAt_of (by decide +kernel), requestAt_of (by decide +kernel), requestAt_of (by decide +kernel)⟩, by decide +kernel⟩

/-- R84: a write that moves a beam pair from bridge 1 to bridge 2 is told to the former bridge first. -/
theorem test_moved_role_told_former_first :
    ((after .putPlanEntry (ask yard 20 (f1 [3] ++ f1 (serial6 (serialAt 2)) ++ f1 [2] ++ f1 [2, 2, 0]))).port.records.map
      (fun r => match r.body with
        | .bridgeState b _ _ => b.val + 1
        | _ => 0)) = [1, 2] := by decide +kernel

theorem witness_drop_plan_entry :
    let s := { yard with plan := { yard.plan with entries := put yard.plan.entries 31 (some { serial := 0x9999, attach := .printer 2 }) } }
    (RequestAt (ask s 21 (f1 [32])) 21 dropPlanEntryLayout 9 [some (.num 32)] ∧ RequestAt (ask s 21 (f1 [12])) 21 dropPlanEntryLayout 9 [some (.num 12)])
    ∧ s.plan.entries[(11 : PlanId)] = none ∧ nodeHolding s 0x9999 = none
    ∧ (after .dropPlanEntry (ask s 21 (f1 [32]))).plan.entries[(31 : PlanId)] = none
    ∧ answerOf (after .dropPlanEntry (ask s 21 (f1 [12]))) = some (3, []) :=
  ⟨⟨requestAt_of (by decide +kernel), requestAt_of (by decide +kernel)⟩, by decide +kernel⟩

/-! ## Lanes -/

theorem witness_put_lane :
    let closed := modLane 0 (fun x => { x with isOpen := false }) (laneIn .closed yard)
    let rest := f1 [1] ++ f1 [1] ++ f1 [2] ++ [0] ++ f1 (u16 601) ++ [0, 0, 0, 0, 0]
    let vs := [some (Value.num 1), some (.num 1), some (.num 1), some (.num 2), none, some (.num 601), none, none, none, none, none]
    let s := ask closed 23 (f1 [1] ++ rest)
    (RequestAt s 23 putLaneLayout 9 vs ∧ RequestAt (ask yard 23 (f1 [1] ++ rest)) 23 putLaneLayout 9 vs)
    ∧ (s.seq.lanes[(0 : LaneId)]).state = .closed ∧ (s.seq.lanes[(0 : LaneId)]).isOpen = false
    ∧ answerOf (after .putLane s) = some (1, [])
    ∧ ((after .putLane s).seq.lanes[(0 : LaneId)]).config.map (fun c => (c.function, c.entryTime, c.printTime)) = some (.outbound, 600, 20)
    ∧ answerOf (after .putLane (ask yard 23 (f1 [1] ++ rest))) = some (6, []) :=
  ⟨⟨requestAt_of (by decide +kernel), requestAt_of (by decide +kernel)⟩, by decide +kernel⟩

theorem witness_open_close_hold :
    let closed := modLane 0 (fun x => { x with isOpen := false }) (laneIn .closed yard)
    let open_ := ask closed 24 (f1 [1])
    let none_ := ask yard 24 (f1 [8])
    let shut := ask asking 25 (f1 [1])
    let stay := ask (laneIn .weighing yard) 25 (f1 [1])
    let hold := ask (timing .weighing .stability (some 883) (visiting visit883)) 26 (f1 [1])
    (RequestAt open_ 24 openLaneLayout 9 [some (.num 1)] ∧ RequestAt none_ 24 openLaneLayout 9 [some (.num 8)]
      ∧ RequestAt shut 25 closeLaneLayout 9 [some (.num 1)] ∧ RequestAt stay 25 closeLaneLayout 9 [some (.num 1)]
      ∧ RequestAt hold 26 holdLaneLayout 9 [some (.num 1)])
    ∧ (none_.seq.lanes[(7 : LaneId)]).config = none ∧ (open_.engine[(0 : BridgeId)]).status = .ready
    ∧ (open_.seq.lanes[(0 : LaneId)]).armFaulted = false ∧ ((after .openLane open_).seq.lanes[(0 : LaneId)]).state = .idle
    ∧ answerOf (after .openLane none_) = some (6, []) ∧ ((after .closeLane shut).seq.lanes[(0 : LaneId)]).state = .closed
    ∧ ((after .closeLane stay).seq.lanes[(0 : LaneId)]).state = .weighing
    ∧ ((after .holdLane hold).seq.lanes[(0 : LaneId)]).hold = some (.office, .weighing)
    ∧ (after .holdLane hold).visits.table.map (·.hold) = [some (.office, .admitted)]
    ∧ answerOf (after .holdLane (ask yard 26 (f1 [1]))) = some (6, []) :=
  ⟨⟨requestAt_of (by decide +kernel), requestAt_of (by decide +kernel), requestAt_of (by decide +kernel),
    requestAt_of (by decide +kernel), requestAt_of (by decide +kernel)⟩, by decide +kernel⟩

theorem witness_release_lane :
    let s := heldFor .office .releasing yard
    let go := ask s 27 (f1 [1] ++ f1 [1])
    let off := ask s 27 (f1 [1] ++ f1 [2])
    (RequestAt go 27 releaseLaneLayout 9 [some (.num 1), some (.num 1)] ∧ RequestAt off 27 releaseLaneLayout 9 [some (.num 1), some (.num 2)]
      ∧ StationsActive go 0)
    ∧ (go.yardStop = false ∧ (go.seq.lanes[(0 : LaneId)]).state = .held ∧ (go.seq.lanes[(0 : LaneId)]).visit = none
      ∧ (go.seq.lanes[(0 : LaneId)]).armFaulted = false ∧ holdsGrant off 0 = false)
    ∧ ((after .releaseLane go).seq.lanes[(0 : LaneId)]).state = .releasing
    ∧ ((after .releaseLane off).seq.lanes[(0 : LaneId)]).state = .idle
    ∧ answerOf (after .releaseLane { go with yardStop := true }) = some (6, []) :=
  ⟨⟨requestAt_of (by decide +kernel), requestAt_of (by decide +kernel), stationsActive_of (by decide +kernel)⟩, by decide +kernel⟩

theorem witness_barrier_override :
    let s := ask yard 28 (f1 [1] ++ f1 [2] ++ f1 [1])
    let low := ask yard 28 (f1 [1] ++ f1 [1] ++ f1 [2])
    let vacant := ask yard 28 (f1 [8] ++ f1 [1] ++ f1 [1])
    let busy := modStation 0 .exit (fun x => { x with outArm := some .lower }) s
    (RequestAt s 28 barrierOverrideLayout 9 [some (.num 1), some (.num 2), some (.num 1)]
      ∧ RequestAt low 28 barrierOverrideLayout 9 [some (.num 1), some (.num 1), some (.num 2)]
      ∧ RequestAt vacant 28 barrierOverrideLayout 9 [some (.num 8), some (.num 1), some (.num 1)])
    ∧ (filledNode s (.station 0 .exit) = some 4 ∧ ((s.seq.lanes[(0 : LaneId)]).station .exit).driveOffMark = false
      ∧ ((s.seq.lanes[(0 : LaneId)]).station .exit).arm ≠ .off ∧ ((s.seq.lanes[(0 : LaneId)]).station .exit).outArm = none
      ∧ (s.bus.nodes[(4 : NodeId)]).state = .active ∧ filledNode vacant (.station 7 .entry) = none)
    ∧ (s.yardStop = false ∧ ((s.seq.lanes[(0 : LaneId)]).station .exit).drive = .on
      ∧ ((s.seq.lanes[(0 : LaneId)]).station .exit).signal = some ((s.seq.lanes[(0 : LaneId)]).station .exit).wantSignal)
    ∧ (after .barrierOverride (modStation 0 .exit (fun x => { x with signal := none }) s)).bus.queue.map (·.frame)
      = [.arm .raise, .signal .red]
    ∧ (after .barrierOverride s).bus.queue.map (·.frame) = [.arm .raise]
    ∧ (after .barrierOverride low).bus.queue.map (·.frame) = [.arm .lower]
    ∧ answerOf (after .barrierOverride vacant) = some (6, [])
    ∧ ((after .barrierOverride busy).seq.lanes[(0 : LaneId)]).exit.wantArm = .up ∧ (after .barrierOverride busy).bus.queue = []
    ∧ (let t := after .barrierOverride (modStation 0 .entry (fun x => { x with loop := .occupied, arm := .up }) low)
       t.bus.queue = [] ∧ (t.seq.lanes[(0 : LaneId)]).entry.wantArm = .down ∧ answerOf t = some (0, []))
    ∧ answerOf (after .barrierOverride (fill 16 s)) = some (2, []) :=
  ⟨⟨requestAt_of (by decide +kernel), requestAt_of (by decide +kernel), requestAt_of (by decide +kernel)⟩, by decide +kernel⟩

/-! ## Tables -/

theorem witness_put_vehicle :
    let body := fun (id : Text) => f1 (string1 id) ++ f1 (u32 12) ++ f1 (weight4 10960) ++ [0] ++ [0] ++ f1 [3] ++ f1 [1] ++ f1 [2]
    let vs := fun (id : Text) => [some (Value.text id), some (.num 12), some (.int 10960), none, none, some (.num 3), some (.flag true), some (.flag false)]
    let s := ask yard 31 (body (ascii "WT-5530"))
    let long := ask yard 31 (body (ascii "WT-5530-WT-55"))
    let full := { s with tables := { s.tables with vehicles := List.replicate 1024 kc0071 } }
    (RequestAt s 31 putVehicleLayout 9 (vs (ascii "WT-5530")) ∧ RequestAt long 31 putVehicleLayout 9 (vs (ascii "WT-5530-WT-55")))
    ∧ (vehicleInRange (ascii "WT-5530") 12 (some 10960) none none (some 3) = true
      ∧ vehicleInRange (ascii "WT-5530-WT-55") 12 (some 10960) none none (some 3) = false ∧ findVehicle s (ascii "WT-5530") = none
      ∧ full.tables.vehicles.length = 1024)
    ∧ ((after .putVehicle s).tables.vehicles.map (·.id)) = [ascii "KC-0071", ascii "WT-5530"]
    ∧ answerOf (after .putVehicle long) = some (7, []) ∧ answerOf (after .putVehicle full) = some (4, []) :=
  ⟨⟨requestAt_of (by decide +kernel), requestAt_of (by decide +kernel)⟩, by decide +kernel⟩

theorem witness_drop_vehicle :
    let s := ask yard 32 (f1 (string1 (ascii "KC-0071")))
    let no := ask yard 32 (f1 (string1 (ascii "KC-0072")))
    (RequestAt s 32 dropVehicleLayout 9 [some (.text (ascii "KC-0071"))] ∧ RequestAt no 32 dropVehicleLayout 9 [some (.text (ascii "KC-0072"))])
    ∧ findVehicle s (ascii "KC-0071") ≠ none ∧ findVehicle no (ascii "KC-0072") = none
    ∧ (after .dropVehicle s).tables.vehicles = [] ∧ answerOf (after .dropVehicle no) = some (3, []) :=
  ⟨⟨requestAt_of (by decide +kernel), requestAt_of (by decide +kernel)⟩, by decide +kernel⟩

/-- R138's example: a limit of 500,000 under a balance of 520,000. -/
theorem witness_put_account :
    let body := f1 (u32 7) ++ f1 [1] ++ f1 (money8 500000) ++ f1 (money8 100) ++ f1 [2]
    let vs := [some (Value.num 7), some (.num 1), some (.int 500000), some (.int 100), some (.flag false)]
    let s := ask yard 35 body
    let owing := { s with tables := { s.tables with accounts := [{ account12 with number := 7, kind := .prepaid, balance := 520000 }] } }
    let full := { s with tables := { s.tables with accounts := List.replicate 256 account12 } }
    (RequestAt s 35 putAccountLayout 9 vs ∧ RequestAt full 35 putAccountLayout 9 vs)
    ∧ accountInRange 7 (accountKindOf 1) 500000 100 = true ∧ findAccount s 7 = none ∧ findAccount full 7 = none
    ∧ full.tables.accounts.length = 256 ∧ ((after .putAccount s).tables.accounts.map (fun a => (a.number, a.balance))) = [(7, 0), (12, 4812300)]
    ∧ (findAccount (after .putAccount owing) 7).map (fun a => (a.kind, a.overLimit)) = some (.credit, true)
    ∧ answerOf (after .putAccount full) = some (4, []) :=
  ⟨⟨requestAt_of (by decide +kernel), requestAt_of (by decide +kernel)⟩, by decide +kernel⟩

/-- R142's example: a balance of 191,200 against an expected 150,000; and DROP ACCOUNT with a visit counted. -/
theorem witness_balance_and_drop :
    let with_ := fun (b : Int) (n : Nat) (s : State) => { s with tables := { s.tables with accounts := [{ account12 with balance := b, visits := n }] } }
    let s := ask yard 37 (f1 (u32 12) ++ f1 (money8 150000) ++ f1 (money8 0))
    let d := ask yard 36 (f1 (u32 12))
    (RequestAt (with_ 191200 0 s) 37 setBalanceLayout 9 [some (.num 12), some (.int 150000), some (.int 0)]
      ∧ RequestAt (with_ 0 0 d) 36 dropAccountLayout 9 [some (.num 12)])
    ∧ findAccount (with_ 191200 0 s) 12 = some { account12 with balance := 191200 }
    ∧ answerOf (after .setBalance (with_ 191200 0 s)) = some (8, money8 191200)
    ∧ answerOf (after .setBalance (with_ 150000 0 s)) = some (0, money8 0)
    ∧ answerOf (after .dropAccount (with_ 0 1 d)) = some (6, []) ∧ (after .dropAccount (with_ 0 0 d)).tables.accounts = [] :=
  ⟨⟨requestAt_of (by decide +kernel), requestAt_of (by decide +kernel)⟩, by decide +kernel⟩

/-- Each line of R146 and R147: range, locked, full or not found, and done. -/
theorem witness_tariff_rows :
    let row := fun (b m : Byte) (gate : Nat) => f1 [b] ++ f1 [m] ++ f1 [2] ++ f1 (u32 gate) ++ f1 (u32 0) ++ f1 (money8 999999) ++ f1 [2]
    let vs := fun (b m gate : Nat) => [some (Value.num b), some (.num m), some (.num 2), some (.num gate), some (.num 0), some (.int 999999), some (.flag false)]
    let p := fun b m gate => ask yard 40 (row b m gate)
    let d := fun (s : State) (b m : Byte) => ask s 41 (f1 [b] ++ f1 [m])
    let full := { p 1 21 2650 with tables := { yard.tables with banks := put yard.tables.banks 1 { rows := List.replicate 64 row3, refs := 0 } } }
    let held := { yard with tables := { yard.tables with banks := put yard.tables.banks 1 { rows := [row3], refs := 0 } } }
    let third := f1 [1] ++ f1 [21] ++ f1 [3] ++ f1 (u32 2650) ++ f1 (u32 0) ++ f1 (money8 999999) ++ f1 [2]
    (RequestAt (p 1 21 2650) 40 putTariffRowLayout 9 (vs 1 21 2650) ∧ RequestAt (p 1 0 2650) 40 putTariffRowLayout 9 (vs 1 0 2650)
      ∧ RequestAt (p 0 21 2650) 40 putTariffRowLayout 9 (vs 0 21 2650) ∧ RequestAt (d held 1 3) 41 dropTariffRowLayout 9 [some (.num 1), some (.num 3)])
    ∧ (yard.tables.active ≠ 1 ∧ (yard.tables.banks[(1 : BankId)]).refs = 0 ∧ rowIn yard 1 21 = none ∧ rowIn held 1 3 = some row3
      ∧ rowIn full 1 21 = none ∧ (full.tables.banks[(1 : BankId)]).rows.length = 64)
    ∧ (rowIn (after .putTariffRow (p 1 21 2650)) 1 21).map (·.gate) = some 2650
    ∧ answerOf (after .putTariffRow (p 1 0 2650)) = some (7, []) ∧ answerOf (after .putTariffRow (p 2 21 2650)) = some (7, [])
    ∧ answerOf (after .putTariffRow (p 1 21 100000)) = some (7, []) ∧ answerOf (after .putTariffRow (p 0 21 2650)) = some (5, [])
    ∧ ((cutFields putTariffRowLayout third).bind (·[2]?) = some (some [3]) ∧ answerOf (after .putTariffRow (ask yard 40 third)) = some (7, []))
    ∧ answerOf (after .putTariffRow full) = some (4, []) ∧ rowIn (after .dropTariffRow (d held 1 3)) 1 3 = none
    ∧ answerOf (after .dropTariffRow (d yard 1 3)) = some (3, []) ∧ answerOf (after .dropTariffRow (d yard 0 3)) = some (5, []) :=
  ⟨⟨requestAt_of (by decide +kernel), requestAt_of (by decide +kernel), requestAt_of (by decide +kernel),
    requestAt_of (by decide +kernel)⟩, by decide +kernel⟩

/-! ## Visits -/

/-- Step 1 of section 11.2: OPEN VISIT for WT-5530, TWO_PASS. -/
theorem witness_open_visit :
    let body := fun (id : String) (m : Byte) => f1 (string1 (ascii id)) ++ f1 [m] ++ f1 [3] ++ [0] ++ f1 [2]
    let vs := fun (id : String) (m : Nat) => [some (Value.text (ascii id)), some (.num m), some (.num 3), none, some (.flag false)]
    let s := ask yard 46 (body "WT-5530" 3)
    let again := ask (visiting visit883) 46 (body "KC-0071" 3)
    let bare := ask yard 46 (body "WT-5530" 255)
    let t := after .openVisit s
    (RequestAt s 46 openVisitLayout 9 (vs "WT-5530" 3) ∧ RequestAt again 46 openVisitLayout 9 (vs "KC-0071" 3)
      ∧ RequestAt bare 46 openVisitLayout 9 (vs "WT-5530" 255))
    ∧ (tareOf 3 none = some .twoPass ∧ validId (ascii "WT-5530") = true ∧ visitOf s (ascii "WT-5530") = none
      ∧ s.visits.table.length < 64 ∧ activeRow s 3 = some row3 ∧ 4 ≤ unclaimedFree s ∧ activeRow bare 255 = none
      ∧ (visitOf again (ascii "KC-0071")).isSome = true)
    ∧ answerOf t = some (0, u16 883) ∧ t.port.claims = 3 ∧ t.visits.table.map (fun v => (v.number, v.officeOpened, v.lane)) = [(883, true, none)]
    ∧ answerOf (after .openVisit again) = some (6, [2]) ∧ answerOf (after .openVisit bare) = some (3, [5]) :=
  ⟨⟨requestAt_of (by decide +kernel), requestAt_of (by decide +kernel), requestAt_of (by decide +kernel)⟩, by decide +kernel⟩

/-- RESTORE VISIT of vehicle KC-0071 in ON_SITE with a reserve in cents against an account. -/
def restoring (s : State) (account : Nat) (reserve : Int) : State :=
  ask s 49 (f1 (u16 700) ++ f1 (string1 (ascii "KC-0071")) ++ f1 (u32 account) ++ f1 [3] ++ f1 [1] ++ f1 (weight4 10960)
    ++ f1 (money8 reserve) ++ f1 [2] ++ f1 (Stamp.bytes { secs := 1719790000, set := true }) ++ f1 [2] ++ f1 [2] ++ f1 [0]
    ++ f1 w27340.bytes ++ f1 (weight4 32000))

/-- The fields of that request. -/
def restored (account : Nat) (reserve : Int) : List (Option Value) :=
  [some (.num 700), some (.text (ascii "KC-0071")), some (.num account), some (.num 3), some (.num 1),
    some (.int 10960), some (.int reserve), some (.num 2), some (.time { secs := 1719790000, set := true }), some (.flag false),
    some (.flag false), some (.num 0), some (.weightRecord w27340), some (.int 32000)]

/-- The yard with account 12 a CREDIT account. -/
def creditYard : State := modTables (fun x => { x with accounts := [{ account12 with kind := .credit }] }) yard

theorem witness_restore_visit :
    let s := restoring creditYard 12 500
    let t := after .restoreVisit s
    let u := after .restoreVisit (restoring yard 12 0)
    (RequestAt s 49 restoreVisitLayout 9 (restored 12 500) ∧ RequestAt (restoring yard 12 0) 49 restoreVisitLayout 9 (restored 12 0))
    ∧ (validId (ascii "KC-0071") = true ∧ tareOf 1 (some 10960) = some (.stored 10960) ∧ restoredWeightFits w27340 = true
      ∧ findVisit s 700 = none ∧ visitOf s (ascii "KC-0071") = none ∧ s.visits.table.length < 64
      ∧ (findAccount s 12).map (·.kind) = some .credit ∧ 4 ≤ unclaimedFree s)
    ∧ t.visits.table.map (fun v => (v.number, v.state, v.first, v.claims, v.restored)) = [(700, .onSite, some w27340, 2, true)]
    ∧ t.port.claims = 2 ∧ (findAccount t 12).map (fun a => (a.reserved, a.visits)) = some (500, 1)
    ∧ (t.tables.banks[(0 : BankId)]).refs = 1 ∧ t.visits.next = 883
    ∧ answerOf u = some (0, []) ∧ (findAccount u 12).map (fun a => (a.reserved, a.visits)) = some (0, 1) :=
  ⟨⟨requestAt_of (by decide +kernel), requestAt_of (by decide +kernel)⟩, by decide +kernel⟩

/-- A reserve below 0, above 100,000,000, not 0 for account 0, or not 0 for the COUNCIL account 12. -/
theorem witness_restore_reserve_refused :
    (RequestAt (restoring creditYard 12 (-1)) 49 restoreVisitLayout 9 (restored 12 (-1))
      ∧ RequestAt (restoring creditYard 12 100000001) 49 restoreVisitLayout 9 (restored 12 100000001)
      ∧ RequestAt (restoring yard 0 1) 49 restoreVisitLayout 9 (restored 0 1)
      ∧ RequestAt (restoring yard 12 1) 49 restoreVisitLayout 9 (restored 12 1))
    ∧ (findAccount yard 12).map (·.kind) = some .council
    ∧ answerOf (after .restoreVisit (restoring creditYard 12 (-1))) = some (7, [])
    ∧ answerOf (after .restoreVisit (restoring creditYard 12 100000001)) = some (7, [])
    ∧ answerOf (after .restoreVisit (restoring creditYard 12 100000000)) = some (0, [])
    ∧ answerOf (after .restoreVisit (restoring yard 0 1)) = some (7, [])
    ∧ answerOf (after .restoreVisit (restoring yard 12 1)) = some (7, []) :=
  ⟨⟨requestAt_of (by decide +kernel), requestAt_of (by decide +kernel), requestAt_of (by decide +kernel),
    requestAt_of (by decide +kernel)⟩, by decide +kernel⟩

theorem witness_tare_tolerance :
    let s := fun (n : Byte) => ask yard 50 (f1 [n])
    (RequestAt (s 20) 50 setTareToleranceLayout 9 [some (.num 20)] ∧ RequestAt (s 21) 50 setTareToleranceLayout 9 [some (.num 21)])
    ∧ (after .setTareTolerance (s 20)).visits.tolerance = 20 ∧ (after .setTareTolerance (s 1)).visits.tolerance = 1
    ∧ answerOf (after .setTareTolerance (s 21)) = some (7, []) ∧ answerOf (after .setTareTolerance (s 0)) = some (7, []) :=
  ⟨⟨requestAt_of (by decide +kernel), requestAt_of (by decide +kernel)⟩, by decide +kernel⟩

theorem witness_void_visit :
    let s := ask (visiting onSite883) 47 (f1 (u16 883))
    let late := { ticketed883 with lane := none }
    let t := after .voidVisit s
    (RequestAt s 47 voidVisitLayout 9 [some (.num 883)] ∧ RequestAt (ask (visiting late) 47 (f1 (u16 883))) 47 voidVisitLayout 9 [some (.num 883)])
    ∧ (findVisit s 883 = some onSite883 ∧ onSite883.lane = none ∧ onSite883.underlying.early = true ∧ onSite883.claims ≤ s.port.claims
      ∧ onSite883.bank = some 0 ∧ late.underlying.early = false)
    ∧ t.visits.table = [] ∧ t.port.claims = 0 ∧ t.port.records.length = 1 ∧ (findAccount t 12).map (·.visits) = some 0
    ∧ (t.tables.banks[(0 : BankId)]).refs = 0 ∧ answerOf (after .voidVisit (ask (visiting late) 47 (f1 (u16 883)))) = some (6, []) :=
  ⟨⟨requestAt_of (by decide +kernel), requestAt_of (by decide +kernel)⟩, by decide +kernel⟩

/-- The four actions of RESOLVE VISIT on held visits; USE TARE is not allowed for a first weight held NOT_FOR_TRADE. -/
theorem witness_resolve_visit :
    let w := { w27340 with weight := 12440 }
    let tare := { onSite883 with state := .held, hold := some (.tareMismatch, .leaving), held := some (.second, w) }
    let trade := { visit883 with bank := some 0, lane := none, state := .held, hold := some (.notForTrade, .admitted), held := some (.first, w27340) }
    let bare := { onSite883 with tare := .stored 27341, state := .held, hold := some (.noTariff, .leaving), held := some (.second, w) }
    let s := fun (v : Visit) (k : Byte) (b : Bytes) => ask (visiting v) 48 (f1 (u16 883) ++ f1 [k] ++ b)
    (RequestAt (s tare 2 (f1 (weight4 12440))) 48 resolveVisitLayout 9 [some (.num 883), some (.num 2), some (.int 12440)]
      ∧ RequestAt (s trade 1 [0]) 48 resolveVisitLayout 9 [some (.num 883), some (.num 1), none])
    ∧ (actionOf 2 (some 12440) = some (.useTare 12440) ∧ actionOf 1 none = some .accept ∧ actionOf 3 none = some .reweigh
      ∧ actionOf 4 none = some .void ∧ findVisit (visiting tare) 883 = some tare ∧ visitRow (visiting tare) tare = some row3
      ∧ visitRow (visiting trade) trade = some row3 ∧ 0 ≤ netWeight row3.kind (.declared 12440) 27340 12440
      ∧ netWeight row3.kind (.declared 27341) 27340 12440 < 0 ∧ allowed .notForTrade .admitted (.useTare 12440) = false
      ∧ allowed .tareMismatch .leaving .reweigh = true ∧ allowed .tareMismatch .leaving .void = true)
    ∧ (after .resolveVisit (s tare 2 (f1 (weight4 12440)))).visits.table.map (fun v => (v.second, v.charge.map (·.net))) = [(some w, some 14900)]
    ∧ (activeRow (visiting bare) 3 = some row3 ∧ netWeight row3.kind bare.tare 27340 12440 < 0
      ∧ answerOf (after .resolveVisit (s bare 1 [0])) = some (6, []) ∧ (after .resolveVisit (s bare 1 [0])).visits.table = [bare]
      ∧ ((after .resolveVisit (s bare 1 [0])).tables.banks[(0 : BankId)]).refs = 1)
    ∧ answerOf (after .resolveVisit (s tare 2 (f1 (weight4 27341)))) = some (7, [])
    ∧ answerOf (after .resolveVisit (s trade 2 (f1 (weight4 12440)))) = some (6, []) ∧ answerOf (after .resolveVisit (s onSite883 1 [0])) = some (6, [])
    ∧ (after .resolveVisit (s trade 1 [0])).visits.table.map (fun v => (v.state, v.first)) = [(.onSite, some w27340)]
    ∧ (after .resolveVisit (s tare 3 [0])).visits.table.map (fun v => (v.state, v.held)) = [(.leaving, none)]
    ∧ (after .resolveVisit (s tare 4 [0])).visits.table = [] :=
  ⟨⟨requestAt_of (by decide +kernel), requestAt_of (by decide +kernel)⟩, by decide +kernel⟩

/-! ## Ticket requests -/

theorem witness_ticket_number :
    let bad := modStore (fun st => { st with ticket := { st.ticket with valid := false } }) yard
    let s := fun (x : State) (n : Nat) => ask x 54 (f1 (u32 n))
    let busy := modStore (fun st => { st with inFlight := some (.counter 0 42) }) (s bad 99999999)
    (RequestAt (s bad 99999999) 54 setTicketNumberLayout 9 [some (.num 99999999)] ∧ RequestAt busy 54 setTicketNumberLayout 9 [some (.num 99999999)]
      ∧ RequestAt (s bad 0) 54 setTicketNumberLayout 9 [some (.num 0)] ∧ RequestAt (s yard 5) 54 setTicketNumberLayout 9 [some (.num 5)])
    ∧ numberSetting bad.cal.store = false ∧ numberSetting busy.cal.store = false ∧ yard.cal.store.ticket.valid = true
    ∧ (after .setTicketNumber (s bad 99999999)).cal.store.inFlight = some (.setTicket 99999999 9)
    ∧ (after .setTicketNumber busy).cal.store.asked = [.setTicket 99999999 9]
    ∧ answerOf (after .setTicketNumber (s bad 100000000)) = some (7, []) ∧ answerOf (after .setTicketNumber (s bad 0)) = some (7, [])
    ∧ answerOf (after .setTicketNumber (s yard 5)) = some (6, []) :=
  ⟨⟨requestAt_of (by decide +kernel), requestAt_of (by decide +kernel), requestAt_of (by decide +kernel),
    requestAt_of (by decide +kernel)⟩, by decide +kernel⟩

/-- Visit 883's VISIT_CLOSED record. -/
def closed883 : ClosedVisit :=
  { content := content883, bank := some 0, posted := true, saturated := false, restored := false, ticket := some 412958, failure := none }

theorem witness_reprint :
    let rec_ := { yard with port := { yard.port with records := [{ number := 12, time := w27340.time, body := .visitClosed closed883 }] } }
    let body := f1 (u32 412958) ++ f1 [1]
    let busy := ask (modPrinter 0 (fun p => { p with queue := [copyDone] }) rec_) 55 body
    let idle := ask rec_ 55 body
    let full := modPrinter 0 (fun p => { p with queue := List.replicate 4 copyDone }) busy
    let vacant := setRole (.printer 0) Role.vacant idle
    RequestAt busy 55 reprintTicketLayout 9 [some (.num 412958), some (.num 1)]
    ∧ closedRecord busy 412958 = some closed883 ∧ (roleOf busy (.printer 0)).fill = .filled ∧ copyDone.stage ≠ .waiting
    ∧ (full.tickets.printers[(0 : LaneId)]).queue.length = 4 ∧ (roleOf vacant (.printer 0)).fill = .empty
    ∧ ((after .reprintTicket busy).tickets.printers[(0 : LaneId)]).queue.map (·.stage) = [.awaitingDone, .waiting]
    ∧ ((after .reprintTicket idle).tickets.printers[(0 : LaneId)]).queue.map (·.stage) = [.printing]
    ∧ (after .reprintTicket idle).bus.queue.map (·.frame) = [.printLine true (ascii "COPY")]
    ∧ answerOf (after .reprintTicket full) = some (4, []) ∧ answerOf (after .reprintTicket vacant) = some (6, []) :=
  ⟨requestAt_of (by decide +kernel), by decide +kernel⟩

theorem witness_ticket_header :
    let s := fun (t : Text) => ask yard 56 (f1 [4] ++ f1 (string1 t))
    let long : Text := List.replicate 65 65
    (RequestAt (s (ascii "DEPOT")) 56 setTicketHeaderLayout 9 [some (.num 4), some (.text (ascii "DEPOT"))]
      ∧ RequestAt (s long) 56 setTicketHeaderLayout 9 [some (.num 4), some (.text long)])
    ∧ (after .setTicketHeader (s (ascii "DEPOT"))).tickets.headers[(3 : Fin 4)] = some (ascii "DEPOT")
    ∧ (after .setTicketHeader (s [])).tickets.headers[(3 : Fin 4)] = none ∧ answerOf (after .setTicketHeader (s long)) = some (7, []) :=
  ⟨⟨requestAt_of (by decide +kernel), requestAt_of (by decide +kernel)⟩, by decide +kernel⟩

/-- R180's wrap: the store at 99,999,999 is written 1. -/
theorem witness_numbering :
    let s := modStore (fun st => { st with ticket := written u32 99999999 }) (modTickets (fun x => { x with numbering := [(883, 1), (900, 2)] }) yard)
    s.tickets.inFlight = none ∧ s.cal.store.ticket.valid = true ∧ s.port.resetAsked = none ∧ s.cal.store.inFlight = none
    ∧ (startNumbering s).cal.store.inFlight = some (.ticket 1) ∧ (startNumbering s).tickets.inFlight = some (883, 1, 99999999)
    ∧ (startNumbering s).tickets.numbering = [(900, 2)]
    ∧ (let waits := modPort (fun p => { p with resetAsked := some .warmLine })
         (modStore (fun st => { st with inFlight := some (.counter 0 42) }) s)
       (startNumbering waits).tickets.inFlight = some (883, 1, 99999999)
       ∧ (startNumbering waits).cal.store.inFlight = some (.counter 0 42)
       ∧ (startNumbering waits).cal.store.asked = [.ticket 1]
       ∧ (after .commitCounterWriteDone (startNumbering waits)).port.lastReset = .warmLine
       ∧ (after .commitCounterWriteDone (startNumbering waits)).cal.store.asked = []) := by decide +kernel

/-! ## Port requests -/

theorem witness_silence_timeout :
    let s := fun (n : Nat) => ask yard 58 (f1 (u16 n))
    (RequestAt (s 5) 58 setSilenceTimeoutLayout 9 [some (.num 5)] ∧ RequestAt (s 301) 58 setSilenceTimeoutLayout 9 [some (.num 301)])
    ∧ (after .setSilenceTimeout (s 5)).port.timeout = 5 ∧ answerOf (after .setSilenceTimeout (s 301)) = some (1, [])
    ∧ (after .setSilenceTimeout (s 4)).port.timeout = 5 :=
  ⟨⟨requestAt_of (by decide +kernel), requestAt_of (by decide +kernel)⟩, by decide +kernel⟩

/-- Steps 14 and 15 of section 11.5, on a queue of ten: eight are read and released. -/
theorem witness_records :
    let r := fun (n : Nat) => ({ number := 7001 + n, time := w27340.time, body := .yardStop true } : Record)
    let s := fun (kind : Nat) (b : Bytes) => ask { yard with port := { yard.port with records := (List.range 10).map r } } kind b
    (RequestAt (s 59 (f1 [8])) 59 readRecordsLayout 9 [some (.num 8)] ∧ RequestAt (s 59 (f1 [9])) 59 readRecordsLayout 9 [some (.num 9)]
      ∧ RequestAt (s 60 (f1 (u32 7008))) 60 releaseRecordsLayout 9 [some (.num 7008)])
    ∧ (answerOf (after .readRecords (s 59 (f1 [8])))).map (fun x => x.2.take 3) = some [0, 10, 8]
    ∧ answerOf (after .readRecords (s 59 (f1 [9]))) = some (7, []) ∧ answerOf (after .readRecords (s 59 (f1 [0]))) = some (7, [])
    ∧ (after .releaseRecords (s 60 (f1 (u32 7008)))).port.records.map (·.number) = [7009, 7010]
    ∧ answerOf (after .releaseRecords (s 60 (f1 (u32 7008)))) = some (0, u16 8 ++ u16 2) :=
  ⟨⟨requestAt_of (by decide +kernel), requestAt_of (by decide +kernel), requestAt_of (by decide +kernel)⟩, by decide +kernel⟩

theorem witness_subscribe :
    let s := fun (set : Bytes) (b : Bytes) => ask yard 61 (f1 (string1 set) ++ b)
    (RequestAt (s [2, 1] (f1 (u16 99))) 61 subscribeLiveLayout 9 [some (.text [2, 1]), some (.num 99)]
      ∧ RequestAt (s [] [0]) 61 subscribeLiveLayout 9 [some (.text []), none]
      ∧ RequestAt (s [5] (f1 (u16 100))) 61 subscribeLiveLayout 9 [some (.text [5]), some (.num 100)])
    ∧ (∀ x ∈ ([2, 1] : Bytes), bridgeOf x.toNat ≠ none) ∧ bridgeOf (5 : Byte).toNat = none
    ∧ (after .subscribeLive (s [2, 1] (f1 (u16 99)))).port.live = some { bridges := [0, 1], interval := 100, timer := 100 }
    ∧ answerOf (after .subscribeLive (s [2, 1] (f1 (u16 99)))) = some (1, [])
    ∧ (after .subscribeLive (s [] [0])).port.live = none ∧ answerOf (after .subscribeLive (s [5] (f1 (u16 100)))) = some (7, []) :=
  ⟨⟨requestAt_of (by decide +kernel), requestAt_of (by decide +kernel), requestAt_of (by decide +kernel)⟩, by decide +kernel⟩

/-- SEND TO NODE, and each of its refusals. -/
theorem witness_send_to_node :
    let s := fun (x : State) (l : Byte) (m : Bytes) => ask x 62 (f1 [5, l, 0] ++ f1 (string1 m))
    let small := modNode 6 (fun n => { n with desc := n.desc.map (fun d => { d with maxPayload := 16 }) }) yard
    let full := modPort (fun p => { p with pass := List.replicate 8 passEntry }) yard
    let down := setRole (.printer 0) { fill := .degraded, node := some (6, serialAt 6) } yard
    let long : Bytes := List.replicate 32 7
    (RequestAt (s yard 1 long) 62 sendToNodeLayout 9 [some (.role (.printer 0)), some (.text long)]
      ∧ RequestAt (s yard 8 [1]) 62 sendToNodeLayout 9 [some (.role (.printer 7)), some (.text [1])]
      ∧ RequestAt (s yard 1 []) 62 sendToNodeLayout 9 [some (.role (.printer 0)), some (.text [])])
    ∧ roleOf yard (.printer 0) = { fill := .filled, node := some (6, serialAt 6) } ∧ (yard.bus.nodes[(6 : NodeId)]).state = .active
    ∧ ((small.bus.nodes[(6 : NodeId)]).desc.map (·.maxPayload)).getD 32 < long.length
    ∧ (after .sendToNode (s yard 1 long)).bus.queue.map (·.frame) = [.message long] ∧ (after .sendToNode (s yard 1 long)).port.pass.map (·.tag) = [9]
    ∧ [s small 1 long, s full 1 [1], s yard 8 [1], s down 1 [1], s yard 1 [], s (fill 16 yard) 1 [1]].map
        (fun x => (answerOf (after .sendToNode x)).map (·.1)) = [some 7, some 4, some 3, some 6, some 7, some 2] :=
  ⟨⟨requestAt_of (by decide +kernel), requestAt_of (by decide +kernel), requestAt_of (by decide +kernel)⟩, by decide +kernel⟩

/-- RESTART with the link UP and DOWN, and what follows its answer, with and without a write in flight. -/
theorem witness_restart :
    let s := ask yard 64 []
    let down := modPort (fun p => { p with up := false, silence := none }) s
    let sent := modPort (fun p => { p with restarting := true, sending := some { frame := .restartAnswer 9 [0], bytes := [] } }) yard
    let busy := modStore (fun st => { st with inFlight := some (.ticket 5) }) sent
    (RequestAt s 64 restartLayout 9 [] ∧ RequestAt down 64 restartLayout 9 [])
    ∧ down.port.resetAsked = none ∧ down.cal.store.inFlight = none ∧ busy.cal.store.inFlight ≠ none
    ∧ outgoing (after .restart s).port = [.restartAnswer 9 [0]] ∧ (after .restart down).port.lastReset = .warmRestart
    ∧ (after .frameSent sent).port.lastReset = .warmRestart ∧ (after .frameSent sent).port.up = false
    ∧ (after .frameSent busy).port.resetAsked = some .warmRestart
    ∧ outgoing (after .frameSent (modPort (fun p => { p with waiting := [.live, .notice []] }) busy)).port = [.live, .notice []] :=
  ⟨⟨requestAt_of (by decide +kernel), requestAt_of (by decide +kernel)⟩, by decide +kernel⟩

/-! ## Readings -/

/-- The reading requests, with what they name, and the first byte of each answer. -/
theorem witness_reads :
    let r := fun (k : Nat) (b : Bytes) => ask (visiting visit883) k b
    let res := fun (c : Instr) (s : State) => (answerOf (after c s)).map (fun x => (x.1, x.2.head?))
    (RequestAt (r 4 (f1 [1])) 4 readBridgeLayout 9 [some (.num 1)] ∧ RequestAt (r 13 (f1 [4])) 13 readCalibrationLayout 9 [some (.num 4)]
      ∧ RequestAt (r 18 (f1 [32])) 18 readNodeLayout 9 [some (.num 32)] ∧ RequestAt (r 22 (f1 [1])) 22 readPlanEntryLayout 9 [some (.num 1)]
      ∧ RequestAt (r 29 (f1 [8])) 29 readLaneLayout 9 [some (.num 8)] ∧ RequestAt (r 57 (f1 [1])) 57 readTicketsLayout 9 [some (.num 1)])
    ∧ [res .readBridge (r 4 (f1 [1])), res .readCalibration (r 13 (f1 [4])), res .readNode (r 18 (f1 [32])), res .readPlanEntry (r 22 (f1 [1])),
        res .readLane (r 29 (f1 [8])), res .readTickets (r 57 (f1 [1]))]
      = [some (0, some 5), some (0, some 2), some (0, some 1), some (0, some 1), some (0, some 0), some (0, some 1)] :=
  ⟨⟨requestAt_of (by decide +kernel), requestAt_of (by decide +kernel), requestAt_of (by decide +kernel), requestAt_of (by decide +kernel),
    requestAt_of (by decide +kernel), requestAt_of (by decide +kernel)⟩, by decide +kernel⟩

theorem witness_table_reads :
    let r := fun (k : Nat) (b : Bytes) => ask (visiting visit883) k b
    let id := ascii "KC-0071"
    let found := fun (c : Instr) (s : State) => (answerOf (after c s)).map (·.1)
    (RequestAt (r 45 []) 45 readTablesLayout 9 [] ∧ RequestAt (r 33 (f1 (string1 id))) 33 readVehicleLayout 9 [some (.text id)]
      ∧ RequestAt (r 34 [0]) 34 readVehicleNextLayout 9 [none] ∧ RequestAt (r 38 (f1 (u32 12))) 38 readAccountLayout 9 [some (.num 12)]
      ∧ RequestAt (r 39 [0]) 39 readAccountNextLayout 9 [none] ∧ RequestAt (r 43 (f1 [0] ++ f1 [3])) 43 readTariffRowLayout 9 [some (.num 0), some (.num 3)]
      ∧ RequestAt (r 44 (f1 [0] ++ [0])) 44 readTariffRowNextLayout 9 [some (.num 0), none] ∧ RequestAt (r 51 (f1 (u16 883))) 51 readVisitLayout 9 [some (.num 883)]
      ∧ RequestAt (r 52 (f1 (string1 id))) 52 readVisitByVehicleLayout 9 [some (.text id)] ∧ RequestAt (r 53 [0]) 53 readVisitNextLayout 9 [none])
    ∧ (findVehicle (r 33 []) id = some kc0071 ∧ findVehicle (r 33 []) [] = none ∧ (r 34 []).tables.vehicles.head? = some kc0071
      ∧ (findAccount (r 38 []) 12).isSome = true ∧ (r 39 []).tables.accounts.head?.isSome = true ∧ rowIn (r 43 []) 0 3 = some row3
      ∧ ((r 44 []).tables.banks[(0 : BankId)]).rows.head? = some row3 ∧ findVisit (r 51 []) 883 = some visit883
      ∧ visitOf (r 52 []) id = some visit883 ∧ (r 53 []).visits.table.head? = some visit883)
    ∧ [found .readTables (r 45 []), found .readVehicle (r 33 (f1 (string1 id))), found .readVehicle (r 33 (f1 (string1 (ascii "X")))),
        found .readVehicleNext (r 34 [0]), found .readAccount (r 38 (f1 (u32 12))), found .readAccountNext (r 39 [0]),
        found .readTariffRow (r 43 (f1 [0] ++ f1 [3])), found .readTariffRowNext (r 44 (f1 [0] ++ [0])), found .readVisit (r 51 (f1 (u16 883))),
        found .readVisitByVehicle (r 52 (f1 (string1 id))), found .readVisitNext (r 53 [0])]
      = [some 0, some 0, some 3, some 0, some 0, some 0, some 0, some 0, some 0, some 0, some 0] :=
  ⟨⟨requestAt_of (by decide +kernel), requestAt_of (by decide +kernel), requestAt_of (by decide +kernel), requestAt_of (by decide +kernel),
    requestAt_of (by decide +kernel), requestAt_of (by decide +kernel), requestAt_of (by decide +kernel), requestAt_of (by decide +kernel),
    requestAt_of (by decide +kernel), requestAt_of (by decide +kernel)⟩, by decide +kernel⟩

/-- The NEXT forms behind a key, and the lookups that find nothing. -/
theorem witness_reads_not_found :
    let r := fun (k : Nat) (b : Bytes) => ask (visiting visit883) k b
    let res := fun (c : Instr) (k : Nat) (b : Bytes) => (answerOf (after c (r k b))).map (·.1)
    (RequestAt (r 34 (f1 (string1 (ascii "A")))) 34 readVehicleNextLayout 9 [some (.text (ascii "A"))]
      ∧ RequestAt (r 39 (f1 (u32 12))) 39 readAccountNextLayout 9 [some (.num 12)]
      ∧ RequestAt (r 44 (f1 [0] ++ f1 [3])) 44 readTariffRowNextLayout 9 [some (.num 0), some (.num 3)]
      ∧ RequestAt (r 53 (f1 (u16 883))) 53 readVisitNextLayout 9 [some (.num 883)])
    ∧ [res .readVehicleNext 34 (f1 (string1 (ascii "A"))), res .readAccountNext 39 (f1 (u32 11)), res .readTariffRowNext 44 (f1 [0] ++ f1 [2]),
        res .readVisitNext 53 (f1 (u16 882))] = List.replicate 4 (some 0)
    ∧ [res .readVehicleNext 34 (f1 (string1 (ascii "L"))), res .readAccount 38 (f1 (u32 13)), res .readAccountNext 39 (f1 (u32 12)),
        res .readTariffRow 43 (f1 [1] ++ f1 [3]), res .readTariffRowNext 44 (f1 [0] ++ f1 [3]), res .readVisit 51 (f1 (u16 884)),
        res .readVisitByVehicle 52 (f1 (string1 (ascii "L")))] = List.replicate 7 (some 3)
    ∧ answerOf (after .readVisitNext (r 53 (f1 (u16 883)))) = some (3, u8 1 ++ u16 884 ++ u8 5) :=
  ⟨⟨requestAt_of (by decide +kernel), requestAt_of (by decide +kernel), requestAt_of (by decide +kernel),
    requestAt_of (by decide +kernel)⟩, by decide +kernel⟩

/-- READ BUS and READ STATUS clear the counts they return; step 13 of section 11.5 with a dropped count of 7. -/
theorem witness_counting_reads :
    let bus := ask (modScan (fun x => { x with overrun := 300 }) yard) 19 []
    let status := ask (modPort (fun p => { p with dropped := 7 }) yard) 63 []
    (RequestAt bus 19 readBusLayout 9 [] ∧ RequestAt status 63 readStatusLayout 9 [])
    ∧ (answerOf (after .readBus bus)).map (fun x => (x.2.drop 1).take 2) = some (u16 300) ∧ (after .readBus bus).bus.scan.overrun = 0
    ∧ (answerOf (after .readStatus status)).map (fun x => x.2.head?) = some (some 1) ∧ (after .readStatus status).port.dropped = 0 :=
  ⟨⟨requestAt_of (by decide +kernel), requestAt_of (by decide +kernel)⟩, by decide +kernel⟩

/-- The hypotheses of the last three statements: a stored tare under a set clock, a clock not set, and a number of k bytes. -/
theorem witness_values :
    (kc0071.tare ≠ none ∧ yard.tables.clock.set = true ∧ (∀ d ∈ kc0071.expiry, yard.tables.clock.secs / 86400 ≤ d)
      ∧ tareStatus yard.tables.clock kc0071 = .current ∧ tareStatus { yard.tables.clock with set := false } kc0071 = .expired)
    ∧ (65535 < 256 ^ 2 ∧ beNat (beBytes 2 65535) = 65535) ∧ beSigned (weight4 (-2147483648)) = -2147483648
    ∧ beSigned (money8 (-1)) = -1 ∧ (yard.visits.table.length ≤ 64 ∧ 1 ≤ yard.visits.next ∧ yard.visits.next ≤ 65535) := by
  decide +kernel

end Sys2Proof.Tests
end

/-! ## Closure under the operations of lane work -/
namespace Sys2Proof.Machine

/-- A property of states that the operations lane work is made of keep. What each may change is said by its side condition:
of an engine the capture request, of a lane neither its configuration nor its open flag nor its stations. -/
structure LaneOps (P : State → Prop) : Prop where
  capture : ∀ {b f s}, (∀ e : Engine, f e = { e with capture := (f e).capture }) → P s → P (modEngine b f s)
  lane : ∀ {l f s}, (∀ x : Lane, (f x).config = x.config ∧ (f x).isOpen = x.isOpen ∧ (f x).entry = x.entry
    ∧ (f x).exit = x.exit) → P s → P (modLane l f s)
  station : ∀ {l e f s}, P s → P (modStation l e f s)
  bridge : ∀ {b f s}, P s → P (modBridge b f s)
  offer : ∀ {a f o s}, f.isReset = false → P s → P (offer a f o s).1
  record : ∀ {body s}, P s → P (queueRecord body s)

namespace LaneOps
variable {P : State → Prop} {s : State}

/-- A fold of operations that keep a property keeps it. -/
theorem foldl {α : Type} {f : State → α → State} (h : ∀ s x, P s → P (f s x)) (xs : List α) (hs : P s) :
    P (xs.foldl f s) := by
  induction xs generalizing s with
  | nil => exact hs
  | cons x xs ih => exact ih (h s x hs)

variable (h : LaneOps P)
include h

/-! ### Offers -/

theorem offerDisplay {l d} (hs : P s) : P (offerDisplay l d s) := by
  unfold Machine.offerDisplay
  split
  · exact h.offer rfl hs
  · exact hs

theorem offerDriveOff {l e a} (hs : P s) : P (offerDriveOff l e a s) := by
  unfold Machine.offerDriveOff
  have ho := h.offer (a := a) (f := .driveOff) (o := .station l e) rfl hs
  split <;> simp_all only [h.station]

theorem offerDriveOn {l e a} (hs : P s) : P (offerDriveOn l e a s) := by
  unfold Machine.offerDriveOn
  have ho := h.offer (a := a) (f := .driveOn) (o := .station l e) rfl hs
  split <;> simp_all only [h.station]

theorem offerDrive {l e a} (hs : P s) : P (offerDrive l e a s) := by
  unfold Machine.offerDrive
  dsimp only
  split_ifs <;> simp only [hs, h.offerDriveOff, h.offerDriveOn]

theorem offerSignal {l e a} (hs : P s) : P (offerSignal l e a s) := by
  unfold Machine.offerSignal
  have ho := h.offer (a := a) (f := .signal ((s.seq.lanes[l]).station e).wantSignal) (o := .station l e) rfl hs
  dsimp only
  split
  · exact hs
  · split <;> simp_all only [h.station]

theorem offerArm {l e a c} (hs : P s) : P (offerArm l e a c s).1 := by
  unfold Machine.offerArm
  have ho := h.offer (a := a) (f := .arm c) (o := .station l e) rfl hs
  split <;> simp_all only [h.station]

theorem offerArmDue {l e a} (hs : P s) : P (offerArmDue l e a s).1 := by
  unfold Machine.offerArmDue
  split
  · exact hs
  · rename_i c _
    have ho := h.offerArm (l := l) (e := e) (a := a) (c := c) hs
    split <;> simp_all only

theorem offerStation {l e} (hs : P s) : P (offerStation l e s).1 := by
  unfold Machine.offerStation
  split
  · exact hs
  · exact h.offerArmDue (h.offerSignal (h.offerDrive hs))

theorem showState {l} (hs : P s) : P (showState l s) := by
  unfold Machine.showState
  split
  · exact h.offerDisplay hs
  · exact hs

/-! ### Entering states -/

theorem wantStations {l a b x y} (hs : P s) : P (wantStations l a b x y s) := h.station (h.station hs)

theorem wantFor {l st} (hs : P s) : P (wantFor l st s) := by
  cases st <;> exact h.wantStations hs

theorem withdraw {l} (hs : P s) : P (withdraw l s) := by
  unfold Machine.withdraw
  split
  · refine h.capture (fun e => ?_) hs
    split
    · split <;> rfl
    · rfl
  · exact hs

theorem settleStill {l} (hs : P s) : P (settleStill l s) :=
  h.showState (h.offerStation (h.offerStation (h.station (h.station hs))))

theorem faultLane {l reason e} (hs : P s) : P (faultLane l reason e s) :=
  h.record (h.settleStill (h.lane (fun _ => ⟨rfl, rfl, rfl, rfl⟩) (h.withdraw hs)))

theorem placeCapture {l} (hs : P s) : P (placeCapture l s) := by
  unfold Machine.placeCapture
  split
  · split
    · exact h.capture (fun _ => rfl) hs
    · exact hs
  · exact hs

theorem joinQueue {l} (hs : P s) : P (joinQueue l s) := by
  unfold Machine.joinQueue
  split
  · exact h.bridge hs
  · exact hs

theorem leaveQueue {l} (hs : P s) : P (leaveQueue l s) := by
  unfold Machine.leaveQueue
  split
  · exact h.bridge hs
  · exact hs

theorem enterPlain {l st} (hs : P s) : P (enterPlain l st s) := by
  unfold Machine.enterPlain
  extract_lets u v w lane x
  have hv : P v := h.lane (fun _ => ⟨rfl, rfl, rfl, rfl⟩) (h.withdraw hs)
  have hw : P w := by
    unfold w
    split
    · exact h.joinQueue hv
    · exact h.leaveQueue hv
  have hx : P x := by
    unfold x
    split
    · exact h.placeCapture hw
    · exact hw
  clear_value x w
  split
  · exact h.faultLane hw
  · split
    rename_i t lostEntry entryOffers
    have ht := h.offerStation (l := l) (e := .entry) (h.wantFor (l := l) (st := st) hx)
    rw [entryOffers] at ht
    split
    rename_i t' lostExit exitOffers
    have ht' := h.offerStation (l := l) (e := .exit) ht
    rw [exitOffers] at ht'
    split
    · exact h.faultLane ht'
    · exact h.showState ht'

theorem grantTest {b} (hs : P s) : P (grantTest b s) := by
  unfold Machine.grantTest
  dsimp only
  split
  · split
    · exact h.enterPlain (h.lane (fun _ => ⟨rfl, rfl, rfl, rfl⟩) (h.bridge hs))
    · exact hs
  · exact hs

theorem releaseGrant {l} (hs : P s) : P (releaseGrant l s) := by
  unfold Machine.releaseGrant
  split
  · split
    · exact h.grantTest (h.bridge hs)
    · exact hs
  · exact hs

theorem bridgeStateTold {b} (hs : P s) : P (bridgeStateTold b s) := by
  refine h.grantTest (foldl (fun s l hs => ?_) _ hs)
  split
  · split
    · exact hs
    · exact h.enterPlain hs
  · split
    · exact h.enterPlain hs
    · exact hs
  · exact hs

theorem pauseUpdate {b} (hs : P s) : P (pauseUpdate b s) := h.bridge hs

theorem intrusion {b beam former now} (hs : P s) : P (intrusion b beam former now s) := by
  unfold Machine.intrusion
  dsimp only
  split
  · exact h.record (h.bridge hs)
  · exact hs

theorem afterOffers {l e r} (hs : P r.1) : P (afterOffers l e r) := by
  unfold Machine.afterOffers
  split
  · split
    · exact h.faultLane hs
    · exact hs
  · exact hs

theorem stationOffers {l e} (hs : P s) : P (stationOffers l e s) := h.afterOffers (h.offerStation hs)

theorem driveArmOffers {l e} (hs : P s) : P (driveArmOffers l e s) := by
  unfold Machine.driveArmOffers
  split
  · exact hs
  · exact h.afterOffers (h.offerArmDue (h.offerDrive hs))

theorem armFault {l e reason} (hs : P s) : P (armFault l e reason s) := by
  unfold Machine.armFault
  dsimp only
  split
  · exact h.faultLane (h.station hs)
  · exact h.station hs

theorem stationUndelivered {l e f} (hs : P s) : P (stationUndelivered l e f s) := by
  unfold Machine.stationUndelivered
  split
  · dsimp only
    split
    · exact h.faultLane (h.station hs)
    · exact h.station hs
  all_goals first | exact h.station hs | exact hs

theorem stationAck {l e f} (hs : P s) : P (stationAck l e f s) := by
  cases f
  all_goals first | exact h.stationOffers (h.station hs) | exact hs

theorem stationNak {l e f} (hs : P s) : P (stationNak l e f s) := by
  unfold Machine.stationNak
  split
  · refine h.stationOffers ?_
    split
    · exact h.station hs
    · exact h.armFault (h.station hs)
  all_goals first | exact h.driveArmOffers (h.station hs) | exact h.stationOffers (h.station hs) | exact hs

theorem motionExpiry {l e} (hs : P s) : P (motionExpiry l e s) := by
  unfold Machine.motionExpiry
  split
  · exact h.stationOffers (h.armFault (h.station hs))
  · exact hs

theorem stationRetryExpiry {l e} (hs : P s) : P (stationRetryExpiry l e s) := by
  unfold Machine.stationRetryExpiry
  split
  · exact h.stationOffers (h.station hs)
  · exact hs

theorem driveRetryExpiry {l e} (hs : P s) : P (driveRetryExpiry l e s) := by
  unfold Machine.driveRetryExpiry
  dsimp only
  split
  · exact hs
  · exact h.stationOffers (h.station hs)
  · exact h.stationOffers (h.station hs)
  · split <;> exact h.stationOffers (h.station hs)

theorem stopDrive {l e} (hs : P s) : P (stopDrive l e s) := by
  unfold Machine.stopDrive
  split
  · split
    · exact hs
    · exact h.offerDriveOff hs
  · exact hs

theorem restoreDrive {l e} (hs : P s) : P (restoreDrive l e s) := by
  unfold Machine.restoreDrive
  split
  · split
    · exact h.offerDrive hs
    · exact hs
  · exact hs

theorem stationEmptied {l e} (hs : P s) : P (stationEmptied l e s) := by
  unfold Machine.stationEmptied
  dsimp only
  split
  · exact h.faultLane (h.station hs)
  · exact h.station hs

theorem stationFilled {l e} (hs : P s) : P (stationFilled l e s) := by
  refine h.stationOffers ?_
  split
  · split_ifs <;> simp only [hs, h.offerDriveOff, h.offerDriveOn]
  · exact hs

theorem beamsUnknown {b} (hs : P s) : P (beamsUnknown b s) := h.bridge hs

theorem clearanceExpiry {l} (hs : P s) : P (clearanceExpiry l s) := by
  unfold Machine.clearanceExpiry
  split
  · exact h.faultLane hs
  · exact hs

theorem pauseExpiry {b} (hs : P s) : P (pauseExpiry b s) := by
  unfold Machine.pauseExpiry
  split
  · exact h.grantTest (h.bridge hs)
  · exact hs

end LaneOps
end Sys2Proof.Machine

namespace Sys2Proof.Machine

/-- A property of states that the work of lanes, visits and tickets keeps. A visit keeps its number; a visit that opens and a
ticket that joins find room; a printer's queue grows by joining only. -/
structure WorkOps (P : State → Prop) : Prop extends LaneOps P where
  account : ∀ {n f s}, P s → P (modAccount n f s)
  refBank : ∀ {b s}, P s → P (refBank b s)
  unrefBank : ∀ {b s}, P s → P (unrefBank b s)
  visit : ∀ {n f s}, (∀ v : Visit, (f v).number = v.number) → P s → P (modVisit n f s)
  removeVisit : ∀ {n s}, P s → P (removeVisit n s)
  nextVisit : ∀ {n s}, P s → P (modVisits (fun t => { t with next := n }) s)
  visitOpens : ∀ {v s}, s.visits.table.length < Config.visitSlots → P s → P (insertVisit v s)
  takeClaims : ∀ {k s}, P s → P (takeClaims k s)
  releaseClaims : ∀ {k s}, P s → P (releaseClaims k s)
  spendClaim : ∀ {body s}, P s → P (spendClaim body s)
  printer : ∀ {l f s}, (∀ p : Printer, (f p).queue.length ≤ p.queue.length) → P s → P (modPrinter l f s)
  ticketJoins : ∀ {l t s}, (s.tickets.printers[l]).queue.length < Config.ticketSlots → P s →
    P (modPrinter l (fun p => { p with queue := p.queue ++ [t] }) s)
  tickets : ∀ {f s}, (∀ t : Tickets, (f t).printers = t.printers) → P s → P (modTickets f s)
  ticketWrite : ∀ {k s}, P s → P (askWriteBehindReset (.ticket k) s)

namespace WorkOps
variable {P : State → Prop} {s : State} (h : WorkOps P)
include h

/-! ### Accounts, visits and numbering -/

theorem evaluateOverLimit {n} (hs : P s) : P (evaluateOverLimit n s) := by
  unfold Machine.evaluateOverLimit
  split
  · exact hs
  · dsimp only
    split
    · exact h.record (h.account hs)
    · exact h.account hs

theorem reserve {n k} (hs : P s) : P (reserve n k s) := h.account hs

theorem post {n k t} (hs : P s) : P (post n k t s) := h.evaluateOverLimit (h.account hs)

theorem release {n k p} (hs : P s) : P (release n k p s) := h.account hs

theorem spendVisitClaim {n body} (hs : P s) : P (spendVisitClaim n body s) := h.spendClaim (h.visit (fun _ => rfl) hs)

theorem modOriginal {l n f} (hs : P s) : P (modOriginal l n f s) := h.printer (fun p => by simp) hs

theorem startNumbering {s} (hs : P s) : P (startNumbering s) := by
  unfold Machine.startNumbering
  split
  · split
    · exact h.ticketWrite (h.modOriginal (h.tickets (fun _ => rfl) hs))
    · exact hs
  · exact hs

theorem ticketTaken {n} (hs : P s) : P (ticketTaken n s) := by
  refine h.visit (fun v => ?_) hs
  split <;> rfl

theorem handOver {n l} (hs : P s) : P (handOver n l s) := by
  unfold Machine.handOver
  split
  · exact hs
  · split
    · rename_i room
      exact h.startNumbering (h.ticketTaken (h.tickets (fun _ => rfl) (h.ticketJoins room hs)))
    · exact h.tickets (fun _ => rfl) hs

theorem openVisit {build} (room : s.visits.table.length < Config.visitSlots) (hs : P s) : P (openVisit build s) := by
  unfold Machine.openVisit
  extract_lets n v u w x
  have hu : P u := h.nextVisit hs
  have hw : P w ∧ w.visits.table = s.visits.table := by
    unfold w
    split
    · exact ⟨hu, rfl⟩
    · exact ⟨h.reserve hu, rfl⟩
  have hx : P x := by
    refine h.visitOpens ?_ (h.takeClaims hw.1)
    have : (Machine.takeClaims 4 w).visits = w.visits := by
      unfold Machine.takeClaims
      split <;> rfl
    rw [this, hw.2]
    exact room
  exact h.spendVisitClaim hx

theorem admitKnown {v l m} (hs : P s) : P (admitKnown v l m s).1 := by
  unfold Machine.admitKnown
  dsimp only
  split
  · exact hs
  · split
    · exact hs
    · rename_i room
      split
      · exact hs
      · split
        · exact hs
        · split
          · exact hs
          · split_ifs
            · exact hs
            · exact hs
            · exact hs
            · dsimp only
              exact h.openVisit (by omega) hs

theorem askAdmission {id l m} (hs : P s) : P (askAdmission id l m s).1 := by
  unfold Machine.askAdmission
  split
  · exact h.visit (fun _ => rfl) hs
  · split
    · exact hs
    · exact h.admitKnown hs

theorem findForExit {id l} (hs : P s) : P (findForExit id l s).1 := by
  unfold Machine.findForExit
  split
  · exact h.visit (fun _ => rfl) hs
  · exact hs

theorem visitHold {n r} (hs : P s) : P (visitHold n r s) := by
  unfold Machine.visitHold
  split
  · exact hs
  · exact h.record (h.visit (fun _ => rfl) hs)

theorem holdTold {n r} (hs : P s) : P (holdTold n r s) := by
  unfold Machine.holdTold
  split
  · split
    · exact hs
    · exact h.visitHold hs
  · exact hs

theorem releaseTold {n r} (hs : P s) : P (releaseTold n r s) := by
  refine h.visit (fun v => ?_) hs
  split
  · split <;> rfl
  · rfl

theorem voidVisit {n r} (hs : P s) : P (voidVisit n r s) := by
  unfold Machine.voidVisit
  split
  · exact hs
  · rename_i v _
    refine h.removeVisit (h.spendClaim (h.releaseClaims ?_))
    have hr : P (if v.account = 0 then s else Machine.release v.account v.reserve false s) := by
      split
      · exact hs
      · exact h.release hs
    split
    · exact h.unrefBank hr
    · exact hr

theorem closeVisit {n k f} (hs : P s) : P (closeVisit n k f s) := by
  unfold Machine.closeVisit
  split
  · exact hs
  · extract_lets u w x
    have hu : P u := by
      unfold u
      split
      · exact h.spendVisitClaim hs
      · exact hs
    have hw : P w := by
      unfold w
      split
      · exact hu
      · exact h.release hu
    refine h.removeVisit ?_
    unfold x
    split
    · exact h.unrefBank hw
    · exact hw

theorem visitLetOff {n g} (hs : P s) : P (visitLetOff n g s).1 := by
  unfold Machine.visitLetOff
  split
  · exact hs
  · have back : ∀ m, P (modVisit m (fun v => { v with state := v.underlying, hold := none, held := none }) s) :=
      fun m => h.visit (fun _ => rfl) hs
    dsimp only
    split
    · split
      · exact h.voidVisit (back _)
      · exact back _
    all_goals first | exact back _ | exact h.visit (fun _ => rfl) (back _)

theorem laneDrops {n l} (hs : P s) : P (laneDrops n l s) := by
  refine h.visit (fun v => ?_) hs
  split <;> rfl

/-! ### Captures -/

theorem captureHold {n k w r} (hs : P s) : P (captureHold n k w r s).1 := h.visitHold (h.visit (fun _ => rfl) hs)

theorem acceptFirst {n w k} (hs : P s) : P (acceptFirst n w k s) := by
  unfold Machine.acceptFirst
  dsimp only
  split
  · exact h.spendVisitClaim (h.visit (fun _ => rfl) hs)
  · exact h.visit (fun _ => rfl) hs

theorem firstCapture {v w} (hs : P s) : P (firstCapture v w s).1 := by
  unfold Machine.firstCapture
  extract_lets bank u gross x
  have hu : P u := by
    unfold u
    split
    · exact h.refBank hs
    · exact hs
  have hx : P x := h.visit (fun _ => rfl) hu
  split
  · exact h.captureHold hx
  · split
    · exact h.captureHold hx
    · exact h.acceptFirst hx

theorem complete {v a b row tare} (hs : P s) : P (complete v a b row tare s) := by
  unfold Machine.complete
  extract_lets net charge heavy saturated s1 s2 s3 s4 s5
  have h1 : P s1 := h.visit (fun _ => rfl) hs
  have h2 : P s2 := by
    unfold s2
    split
    · exact h1
    · exact h.post h1
  have h5 : P s5 := h.visit (fun _ => rfl) (h.spendVisitClaim (h.visit (fun _ => rfl) h2))
  split
  · exact h.handOver h5
  · exact h5

theorem secondCapture {v w} (hs : P s) : P (secondCapture v w s).1 := by
  unfold Machine.secondCapture
  split
  · exact h.captureHold hs
  · exact hs
  · dsimp only
    split_ifs
    · exact h.captureHold hs
    · exact h.captureHold hs
    · exact h.captureHold hs
    · exact h.complete hs

theorem captureVisit {n w} (hs : P s) : P (captureVisit n w s).1 := by
  unfold Machine.captureVisit
  split
  · exact hs
  · split
    · exact h.firstCapture hs
    · exact h.secondCapture hs
    · exact hs

/-! ### Lanes -/

theorem holdLane {l r st} (hs : P s) : P (holdLane l r st s) := by
  unfold Machine.holdLane
  extract_lets u v w
  have hw : P w := h.settleStill (h.lane (fun _ => ⟨rfl, rfl, rfl, rfl⟩) (h.withdraw hs))
  split
  · split
    · exact h.holdTold hw
    · exact hw
  · exact hw

theorem dropVisit {l} (hs : P s) : P (dropVisit l s) := by
  unfold Machine.dropVisit
  split
  · exact h.laneDrops (h.lane (fun _ => ⟨rfl, rfl, rfl, rfl⟩) hs)
  · exact hs

theorem goRest {l} (hs : P s) : P (goRest l s) := by
  unfold Machine.goRest
  have hd := h.lane (l := l) (f := fun x => { x with asking := none }) (fun _ => ⟨rfl, rfl, rfl, rfl⟩) (h.dropVisit (l := l) hs)
  dsimp only
  split <;> exact h.enterPlain hd

theorem actOutcome {l o} (hs : P s) : P (actOutcome l o s) := by
  unfold Machine.actOutcome
  dsimp only
  split
  · exact h.enterPlain (h.dropVisit hs)
  · exact h.holdLane (h.dropVisit hs)

theorem enterState {l st} (hs : P s) : P (enterState l st s) := by
  unfold Machine.enterState
  have he := h.enterPlain (l := l) (st := st) hs
  dsimp only
  split
  · split
    · exact h.grantTest he
    · exact he
  · split
    · exact h.actOutcome (h.lane (fun _ => ⟨rfl, rfl, rfl, rfl⟩) he)
    · exact he
  · exact he

theorem letOff {l} (hs : P s) : P (letOff l s) := by
  unfold Machine.letOff
  extract_lets grant told
  have ht : P told.1 := by
    unfold told
    split
    · exact h.visitLetOff hs
    · exact hs
  clear_value told
  have hrest : ∀ {u}, P u → P (if grant then Machine.enterPlain l .releasing u else Machine.goRest l u) := by
    intro u hu
    split
    · exact h.enterPlain hu
    · exact h.goRest hu
  split
  · exact h.enterState ht
  · exact hrest ht
  · exact hrest (h.lane (fun _ => ⟨rfl, rfl, rfl, rfl⟩) ht)

theorem resumeInto {l st} (hs : P s) : P (resumeInto l st s) := by
  unfold Machine.resumeInto
  have hr : P (modLane l (fun x => { x with reweigh := false }) s) := h.lane (fun _ => ⟨rfl, rfl, rfl, rfl⟩) hs
  cases st <;> dsimp only
  case idle | closed => exact h.goRest hr
  case asking | ticketing | releasing => exact h.enterState hr
  case held | fault => exact hr
  case waitBridge | weighing =>
    split
    · exact h.letOff hr
    · exact h.enterState hr
  case entering =>
    split
    · exact h.letOff hr
    · exact h.enterState (h.lane (fun _ => ⟨rfl, rfl, rfl, rfl⟩) hr)

theorem resume {l} (hs : P s) : P (resume l s) := by
  unfold Machine.resume
  dsimp only
  split
  · refine h.resumeInto ?_
    split
    · split
      · exact h.releaseTold hs
      · exact hs
    · exact hs
  · exact h.resumeInto hs
  · exact hs

theorem reweighTest {l} (hs : P s) : P (reweighTest l s) := by
  unfold Machine.reweighTest
  dsimp only
  split
  · exact h.resumeInto hs
  · exact hs

theorem startReweigh {l} (hs : P s) : P (startReweigh l s) :=
  h.reweighTest (h.offerDisplay (h.offerStation (h.station (h.lane (fun _ => ⟨rfl, rfl, rfl, rfl⟩) hs))))

theorem actResolution {l r} (hs : P s) : P (actResolution l r s) := by
  unfold Machine.actResolution
  split
  · exact hs
  · cases r
    · exact h.enterState hs
    · exact h.enterState hs
    · exact h.startReweigh hs
    · exact h.letOff (h.dropVisit hs)

theorem resolveLane {l r} (hs : P s) : P (resolveLane l r s) := by
  unfold Machine.resolveLane
  split_ifs
  · exact hs
  · exact h.lane (fun _ => ⟨rfl, rfl, rfl, rfl⟩) hs
  · exact h.actResolution hs

theorem voidTold {l} (hs : P s) : P (voidTold l s) := by
  unfold Machine.voidTold
  have hd : P (modLane l (fun x => { x with visit := none }) s) := h.lane (fun _ => ⟨rfl, rfl, rfl, rfl⟩) hs
  split
  · exact h.resolveLane hs
  · exact h.goRest (h.leaveQueue hd)
  · exact hd
  · exact hd
  · exact hs

theorem ticketTold {l o} (hs : P s) : P (ticketTold l o s) := by
  unfold Machine.ticketTold
  split
  · exact h.actOutcome hs
  · exact h.lane (fun _ => ⟨rfl, rfl, rfl, rfl⟩) hs
  · exact h.lane (fun _ => ⟨rfl, rfl, rfl, rfl⟩) hs
  · exact hs

theorem deliverCapture {l w} (hs : P s) : P (deliverCapture l w s) := by
  unfold Machine.deliverCapture
  have hl : P (modLane l (fun x => { x with timer := none }) s) := h.lane (fun _ => ⟨rfl, rfl, rfl, rfl⟩) hs
  split
  · exact hs
  · dsimp only
    split
    · exact hl
    · rename_i n _
      have hc := h.captureVisit (n := n) (w := w) (h.offerDisplay (l := l) (d := .weight w.weight n) hl)
      split <;> rename_i captured <;> rw [captured] at hc
      · exact h.enterState hc
      · exact h.enterState hc
      · exact h.holdLane hc
      · exact hc

theorem completionTest {l} (hs : P s) : P (completionTest l s) := by
  unfold Machine.completionTest
  split
  · exact h.goRest (h.releaseGrant (h.dropVisit (h.lane (fun _ => ⟨rfl, rfl, rfl, rfl⟩) hs)))
  · exact hs

theorem sampleTests {l} (hs : P s) : P (sampleTests l s) := by
  unfold Machine.sampleTests
  split
  · split
    · exact h.enterState hs
    · exact hs
  · exact h.completionTest hs
  · exact hs

theorem beamTests {l} (hs : P s) : P (beamTests l s) := by
  unfold Machine.beamTests
  split
  · exact hs
  · split
    · refine h.sampleTests ?_
      split
      · exact h.lane (fun _ => ⟨rfl, rfl, rfl, rfl⟩) hs
      · exact hs
    · split_ifs
      · exact h.offerDisplay (h.lane (fun _ => ⟨rfl, rfl, rfl, rfl⟩) hs)
      · exact h.offerDisplay (h.lane (fun _ => ⟨rfl, rfl, rfl, rfl⟩) hs)
      · exact hs
    · exact h.completionTest hs
    · exact hs

theorem beamReport {b x y} (hs : P s) : P (beamReport b x y s) := by
  unfold Machine.beamReport
  extract_lets x s1 s2 s3 s4 s5
  have h4 : P s4 := h.pauseUpdate (h.intrusion (h.intrusion (h.bridge hs)))
  refine h.grantTest ?_
  unfold s5
  split
  · exact h.beamTests h4
  · exact h4

theorem sampleReport {b} (hs : P s) : P (sampleReport b s) := by
  unfold Machine.sampleReport
  extract_lets s1 s2
  have h1 : P s1 := LaneOps.foldl (fun _ _ hu => h.reweighTest hu) _ hs
  refine h.grantTest (h.pauseUpdate ?_)
  unfold s2
  split
  · exact h.sampleTests h1
  · exact h1

theorem identifyInbound {l id} (hs : P s) : P (identifyInbound l id s) := by
  unfold Machine.identifyInbound
  have ha := h.askAdmission (id := id) (l := l) (m := none) hs
  split <;> rename_i asked <;> rw [asked] at ha
  · exact h.enterState (h.lane (fun _ => ⟨rfl, rfl, rfl, rfl⟩) ha)
  · exact h.enterState (h.lane (fun _ => ⟨rfl, rfl, rfl, rfl⟩) ha)
  · exact h.offerDisplay ha

theorem identifyOutbound {l id} (hs : P s) : P (identifyOutbound l id s) := by
  unfold Machine.identifyOutbound
  have hf := h.findForExit (id := id) (l := l) hs
  split <;> rename_i found <;> rw [found] at hf
  · exact h.enterState (h.lane (fun _ => ⟨rfl, rfl, rfl, rfl⟩) hf)
  · exact h.offerDisplay hf

theorem identifyReport {l id} (hs : P s) : P (identifyReport l id s) := by
  unfold Machine.identifyReport
  split
  · split
    · exact h.offerDisplay hs
    · split
      · split
        · exact h.identifyInbound hs
        · exact h.identifyOutbound hs
      · exact hs
  · exact h.offerDisplay hs
  · exact hs

theorem endAsking {l} (hs : P s) : P (endAsking l s) := h.goRest (h.lane (fun _ => ⟨rfl, rfl, rfl, rfl⟩) hs)

theorem materialEntered {l m} (hs : P s) : P (materialEntered l m s) := by
  unfold Machine.materialEntered
  split
  · exact h.endAsking hs
  · rename_i id _
    have ha := h.askAdmission (id := id) (l := l) (m := some m) hs
    split <;> rename_i asked <;> rw [asked] at ha
    · exact h.enterState (h.lane (fun _ => ⟨rfl, rfl, rfl, rfl⟩) ha)
    · exact h.endAsking (h.offerDisplay ha)
    · exact h.endAsking (h.offerDisplay ha)

theorem keyReport {l k} (hs : P s) : P (keyReport l k s) := by
  unfold Machine.keyReport
  split
  · exact hs
  · split
    · split
      · exact h.offerDisplay hs
      · exact h.materialEntered hs
    · exact h.endAsking hs

theorem attendantReport {l} (hs : P s) : P (attendantReport l s) := by
  unfold Machine.attendantReport
  split
  · split
    · exact h.resume hs
    · exact hs
  · exact hs

theorem entryExpiry {l} (hs : P s) : P (entryExpiry l s) := by
  unfold Machine.entryExpiry
  split
  · refine h.goRest (h.releaseGrant (h.lane (fun _ => ⟨rfl, rfl, rfl, rfl⟩) ?_))
    split
    · exact h.voidVisit hs
    · exact hs
  · exact hs

theorem askExpiry {l} (hs : P s) : P (askExpiry l s) := by
  unfold Machine.askExpiry
  split
  · exact h.endAsking hs
  · exact hs

theorem stabilityExpiry {l} (hs : P s) : P (stabilityExpiry l s) := by
  unfold Machine.stabilityExpiry
  split
  · exact h.holdLane hs
  · exact hs

/-! ### Stations and the yard stop line -/

theorem stationReport {l e a b c d} (hs : P s) : P (stationReport l e a b c d s) := by
  unfold Machine.stationReport
  extract_lets s1 s2 s3
  have h1 : P s1 := h.station hs
  have h2 : P s2 := by
    unfold s2
    split
    · exact h.armFault h1
    · exact h1
  refine h.stationOffers ?_
  unfold s3
  split
  · exact h.completionTest h2
  · exact h2

theorem assertStop {s} (hs : P s) : P (assertStop s) := by
  unfold Machine.assertStop
  extract_lets s1 s2 s3
  have h1 : P s1 := h.record hs
  have h2 : P s2 := LaneOps.foldl (fun _ _ hu => h.station hu) _ h1
  have h3 : P s3 := LaneOps.foldl (fun _ _ hu => h.stopDrive hu) _ h2
  refine LaneOps.foldl (fun u l hu => ?_) _ h3
  dsimp only
  split
  · exact h.holdLane hu
  · exact hu

theorem actKept {l} (hs : P s) : P (actKept l s) := by
  unfold Machine.actKept
  refine h.reweighTest ?_
  split
  · exact h.actResolution (h.lane (fun _ => ⟨rfl, rfl, rfl, rfl⟩) hs)
  · exact hs

theorem deassertStop {s} (hs : P s) : P (deassertStop s) := by
  unfold Machine.deassertStop
  extract_lets s1 s2
  have h1 : P s1 := h.record hs
  have h2 : P s2 := LaneOps.foldl (fun _ _ hu => h.restoreDrive hu) _ h1
  exact LaneOps.foldl (fun _ _ hu => h.actKept hu) _ h2

theorem stationChanged {l e} (hs : P s) : P (stationChanged l e s) := h.stationOffers (h.station hs)

/-! ### Printing -/

theorem modHead {l f} (hs : P s) : P (modHead l f s) := by
  refine h.printer (fun p => ?_) hs
  cases hq : p.queue <;> simp

theorem offerPart {l} (hs : P s) : P (offerPart l s).1 := by
  unfold Machine.offerPart
  split
  · rename_i t _ a _ _ _
    have ho := h.offer (a := a) (f := t.command) (o := .ticket l (t.jobTag.getD 0))
      (by unfold Ticket.command; split <;> rfl) hs
    split <;> rename_i offered <;> rw [offered] at ho
    · exact h.printer (fun _ => le_rfl) ho
    · exact h.printer (fun _ => le_rfl) ho
    · exact ho
    · exact ho
  · exact hs
  · exact hs

theorem startPrinting {l} (hs : P s) : P (startPrinting l s).1 :=
  h.offerPart (h.modHead (h.printer (fun _ => le_rfl) hs))

theorem fillPlace {l} (hs : P s) : P (fillPlace l s) := by
  unfold Machine.fillPlace
  split
  · exact h.handOver (h.tickets (fun _ => rfl) hs)
  · exact hs

theorem endTicket {l f} (hs : P s) : P (endTicket l f s) := by
  unfold Machine.endTicket
  split
  · exact hs
  · extract_lets s1 lane s2 s3
    have h1 : P s1 := h.printer (fun p => by simp) hs
    refine h.fillPlace ?_
    unfold s3
    split
    · exact h1
    · have h2 : P s2 := h.closeVisit h1
      cases lane
      · exact h2
      · exact h.ticketTold h2

theorem runHead {fuel l} (hs : P s) : P (runHead fuel l s) := by
  induction fuel generalizing s with
  | zero => exact hs
  | succ fuel ih =>
    unfold Machine.runHead
    split
    · exact hs
    · split
      · exact hs
      · split
        · exact hs
        · exact ih (h.endTicket hs)
        · have hp := h.startPrinting (l := l) hs
          split <;> rename_i started <;> rw [started] at hp
          · exact hp
          · exact ih (h.endTicket hp)

theorem startHead {l} (hs : P s) : P (startHead l s) := h.runHead hs

theorem ticketEnd {l f} (hs : P s) : P (ticketEnd l f s) := h.startHead (h.endTicket hs)

theorem offerOrEnd {l} (hs : P s) : P (offerOrEnd l s) := by
  unfold Machine.offerOrEnd
  have hp := h.offerPart (l := l) hs
  split <;> rename_i offered <;> rw [offered] at hp
  · exact hp
  · exact h.ticketEnd hp

theorem printAck {l k f} (hs : P s) : P (printAck l k f s) := by
  unfold Machine.printAck
  have hp : P (modPrinter l (fun p => { p with outstanding := false }) s) := h.printer (fun _ => le_rfl) hs
  split
  · dsimp only
    split
    · exact h.modHead hp
    · exact h.offerOrEnd (h.modHead hp)
  · exact hs

theorem printFail {l k f} (hs : P s) : P (printFail l k f s) := by
  unfold Machine.printFail
  split
  · exact h.ticketEnd hs
  · exact hs

theorem printRetry {l} (hs : P s) : P (printRetry l s) := by
  unfold Machine.printRetry
  split
  · exact h.offerOrEnd (h.printer (fun _ => le_rfl) hs)
  · exact hs

theorem printTimeout {l} (hs : P s) : P (printTimeout l s) := by
  unfold Machine.printTimeout
  split
  · exact h.ticketEnd hs
  · exact hs

theorem doneReport {l k} (hs : P s) : P (doneReport l k s) := by
  unfold Machine.doneReport
  split
  · split
    · exact h.ticketEnd hs
    · exact hs
  · exact hs

theorem printerTrouble {l f} (hs : P s) : P (printerTrouble l f s) := by
  unfold Machine.printerTrouble
  split
  · exact h.ticketEnd hs
  · exact hs

theorem printerEmptied {l} (hs : P s) : P (printerEmptied l s) := by
  unfold Machine.printerEmptied
  split
  · exact h.ticketEnd hs
  · exact h.startHead hs

theorem printerChanged {l} (hs : P s) : P (printerChanged l s) := by
  unfold Machine.printerChanged
  split
  · exact h.ticketEnd hs
  · exact h.startHead hs

end WorkOps
end Sys2Proof.Machine

namespace Sys2Proof.Machine

/-- A change of the command queue and the held resets that leaves the rest of the bus controller and keeps the queue's size. -/
def QueueChange (f : Bus → Bus) : Prop :=
  ∀ x : Bus, f x = { x with queue := (f x).queue, heldResets := (f x).heldResets }
    ∧ (x.queue.length ≤ Config.commandSlots → (f x).queue.length ≤ Config.commandSlots)

/-- A property of states that the work of the bus controller, the site plan and the bridges' states keeps too. A report joins a
queue with room, and the list of pass-through commands only shrinks. -/
structure PartOps (P : State → Prop) : Prop extends WorkOps P where
  status : ∀ {b s}, P s → P (setBridgeState b s)
  judge : ∀ {b s}, P s → P (judge b s)
  samples : ∀ {b f s}, (∀ e : Engine, f e = { e with samples := (f e).samples }) → P s → P (modEngine b f s)
  planNode : ∀ {a f s}, P s → P (modPlanNode a f s)
  role : ∀ {x r s}, P s → P (setRole x r s)
  ready : ∀ {f s}, P s → P (makeReady f s)
  passLeaves : ∀ {left s}, left.length ≤ s.port.pass.length → P s → P (modPort (fun p => { p with pass := left }) s)
  node : ∀ {a f s}, P s → P (modNode a f s)
  queue : ∀ {f s}, QueueChange f → P s → P (modBus f s)
  reports : ∀ {f s}, (∀ x : Bus, f x = { x with reports := (f x).reports } ∧ (f x).reports.length ≤ x.reports.length) →
    P s → P (modBus f s)
  reportJoins : ∀ {r s}, s.bus.reports.length < Config.reportSlots → P s →
    P (modBus (fun x => { x with reports := x.reports ++ [r] }) s)
  scan : ∀ {f s}, P s → P (modScan f s)
  enumeration : ∀ {f s}, P s → P (modEnum f s)
  sendBus : ∀ {a k p s}, P s → P (sendBus a k p s)

/-! ### What the operations on the command queue are -/

theorem QueueChange.placeHeld {f : Bus → Bus} (hf : QueueChange f) (k : Bus → Nat) :
    QueueChange (fun x => placeHeld (k x) (f x)) := by
  intro x
  obtain ⟨hx, hlen⟩ := hf x
  refine ⟨?_, fun h => placeHeld_length _ _ (hlen h)⟩
  dsimp only [Machine.placeHeld]
  rw [hx]

theorem queueChange_of_le {f : Bus → Bus}
    (h : ∀ x : Bus, f x = { x with queue := (f x).queue, heldResets := (f x).heldResets }
      ∧ (f x).queue.length ≤ x.queue.length) : QueueChange f :=
  fun x => ⟨(h x).1, le_trans (h x).2⟩

namespace PartOps
variable {P : State → Prop} {s : State} (h : PartOps P)
include h

theorem queueReset {a k} (hs : P s) : P (queueReset a k s) := by
  unfold Machine.queueReset
  dsimp only
  refine h.queue (fun x => ?_) hs
  split
  · rename_i room
    exact ⟨rfl, fun _ => by simpa using room⟩
  · exact ⟨rfl, id⟩

theorem removeCommands {p} (hs : P s) : P (removeCommands p s) := by
  refine h.queue ?_ hs
  exact (queueChange_of_le (fun x => ⟨rfl, List.length_filter_le _ x.queue⟩)).placeHeld _

theorem dropOwnResets {a} (hs : P s) : P (dropOwnResets a s) :=
  h.removeCommands (h.queue (queueChange_of_le (fun _ => ⟨rfl, le_rfl⟩)) hs)

theorem popCommand {s} (hs : P s) : P (popCommand s) := by
  refine h.queue ?_ hs
  exact (queueChange_of_le (f := fun x => { x with queue := x.queue.tail }) (fun x => ⟨rfl, by simp⟩)).placeHeld (fun _ => 1)

theorem passEnds {e left body} (hl : left.length ≤ s.port.pass.length) (hs : P s) : P (passEnds e left body s) :=
  h.ready (h.passLeaves hl hs)

theorem passOutcome {e body} (hs : P s) : P (passOutcome e body s) := h.passEnds (List.length_erase_le) hs

theorem answer {tag r body} (hs : P s) : P (answer tag r body s) := h.ready hs

/-! ### The site plan -/

theorem deriveBridge {b} (hs : P s) : P (deriveBridge b s) := by
  unfold Machine.deriveBridge
  dsimp only
  split
  · exact hs
  · exact h.bridgeStateTold (h.record (h.status hs))

theorem tellCell {b p old new} (hs : P s) : P (tellCell b p old new s) := by
  unfold Machine.tellCell
  refine h.deriveBridge (h.judge ?_)
  split
  · exact h.samples (fun _ => rfl) hs
  · exact hs

theorem tellBeams {b old new} (hs : P s) : P (tellBeams b old new s) := by
  unfold Machine.tellBeams
  refine h.grantTest (h.pauseUpdate (h.deriveBridge ?_))
  split
  · exact h.beamsUnknown hs
  · exact hs

theorem tellStation {l e old new} (hs : P s) : P (tellStation l e old new s) := by
  have hu : P (unknownStation l e s) := h.station hs
  unfold Machine.tellStation
  dsimp only
  split
  · split
    · exact hu
    · exact h.stationEmptied hs
  · split_ifs
    · exact h.stationOffers hu
    · exact hs
    · exact h.stationFilled hu
    · exact h.stationFilled hs
  · split
    · exact hu
    · exact hs

theorem tellOwners {x old new} (hs : P s) : P (tellOwners x old new s) := by
  cases x
  · exact h.tellCell hs
  · exact h.tellBeams hs
  · exact h.tellStation hs
  · show P (tellTerminal _ old new s)
    unfold tellTerminal
    split
    · exact h.showState hs
    · exact hs
  · show P (tellPrinter _ old new s)
    unfold tellPrinter
    split
    · split
      · exact hs
      · exact h.printerEmptied hs
    · split
      · exact h.printerChanged hs
      · exact h.startHead hs

theorem compareAttention {a} (hs : P s) : P (compareAttention a s) := by
  unfold Machine.compareAttention
  dsimp only
  split
  · exact hs
  · split
    · exact h.planNode hs
    · split
      · exact hs
      · have ho := h.offer (a := a) (f := if attentionWanted s a then .attentionOn else .attentionOff) (o := .plan)
          (by split <;> rfl) hs
        split <;> rename_i offered <;> rw [offered] at ho <;> exact h.planNode ho

theorem attentionRetry {a} (hs : P s) : P (attentionRetry a s) := by
  unfold Machine.attentionRetry
  split
  · exact h.compareAttention (h.planNode hs)
  · exact hs

theorem deriveRoles {places} (hs : P s) : P (deriveRoles places s) := by
  unfold Machine.deriveRoles
  extract_lets changed t
  have ht : P t := LaneOps.foldl (fun _ _ hu => h.role hu) _ hs
  exact LaneOps.foldl (fun _ _ hu => h.tellOwners hu) _ ht

theorem recordMisfit {a p} (hs : P s) : P (recordMisfit a p s) := by
  unfold Machine.recordMisfit
  dsimp only
  split
  · exact h.record hs
  · exact hs

theorem deriveBinding {a extra} (hs : P s) : P (deriveBinding a extra s) := by
  unfold Machine.deriveBinding
  extract_lets former new s1 s2 s3
  have h1 : P s1 := h.planNode hs
  have h2 : P s2 := by
    unfold s2
    clear_value s1 new
    split
    · split
      · exact h1
      · exact h.recordMisfit h1
    · exact h1
  exact h.deriveRoles (h.compareAttention h2)

theorem rebind {former new} (hs : P s) : P (rebind former new s) := by
  unfold Machine.rebind
  extract_lets extra t
  have ht : P t := by
    unfold t
    split
    · exact h.deriveBinding hs
    · exact hs
  split
  · split
    · exact ht
    · split
      · exact h.deriveBinding ht
      · exact ht
  · exact ht

/-! ### Nodes and the outcomes of commands -/

theorem tellAnswered {c o} (hs : P s) : P (tellAnswered c o s) := by
  unfold Machine.tellAnswered
  split
  · exact hs
  · exact hs
  · exact hs
  · split
    · exact h.compareAttention (h.planNode hs)
    · exact h.planNode hs
  · split
    · exact h.stationAck hs
    · exact h.stationNak hs
  · split
    · exact h.printAck hs
    · exact h.printFail hs
  · split <;> exact h.passOutcome hs

theorem tellUndelivered {c} (hs : P s) : P (tellUndelivered c s) := by
  unfold Machine.tellUndelivered
  split
  · exact hs
  · exact hs
  · exact hs
  · exact h.planNode hs
  · exact h.stationUndelivered hs
  · exact h.printFail hs
  · exact h.passOutcome hs

theorem reportChange {a former} (hs : P s) : P (reportChange a former s) := h.deriveBinding (h.record hs)

theorem goSilent {a} (hs : P s) : P (goSilent a s) := by
  unfold Machine.goSilent
  extract_lets s1 mine gone s2
  have h1 : P s1 := h.node hs
  have h2 : P s2 := LaneOps.foldl (fun _ _ hu => h.tellUndelivered hu) _ (h.removeCommands h1)
  exact h.reportChange (h.queueReset h2)

theorem countError {a} (hs : P s) : P (countError a s) := by
  unfold Machine.countError
  dsimp only
  split
  · exact h.goSilent (h.node hs)
  · exact h.node hs

theorem countGood {a} (hs : P s) : P (countGood a s) := by
  unfold Machine.countGood
  dsimp only
  split
  · exact h.reportChange (h.dropOwnResets (h.node (h.node hs)))
  · exact h.node hs

theorem level1Expiry {a} (hs : P s) : P (level1Expiry a s) := by
  unfold Machine.level1Expiry
  split
  · exact h.queueReset (h.node hs)
  · exact hs

theorem level2Expiry {a} (hs : P s) : P (level2Expiry a s) := by
  unfold Machine.level2Expiry
  split
  · exact h.reportChange (h.node hs)
  · exact hs

theorem startRound {s} (hs : P s) : P (startRound s) := h.enumeration hs

theorem endHoldOff {s} (hs : P s) : P (endHoldOff s) := by
  unfold Machine.endHoldOff
  dsimp only
  split
  · exact h.startRound (h.enumeration hs)
  · exact h.enumeration hs

theorem joinRequest {s} (hs : P s) : P (joinRequest s) := by
  unfold Machine.joinRequest
  split_ifs
  · exact hs
  · exact h.enumeration hs
  · exact h.startRound hs

theorem entryAssigned {a x d} (hs : P s) : P (entryAssigned a x d s) := by
  unfold Machine.entryAssigned
  dsimp only
  split
  · exact h.deriveBinding (h.dropOwnResets (h.node hs))
  · exact h.reportChange (h.dropOwnResets (h.node hs))

/-! ### The parts of a scan cycle behind the bridge samples -/

theorem openExchange {a k p part x} (hs : P s) : P (openExchange a k p part x s) := h.scan (h.sendBus hs)

theorem sendReset {c k} (hs : P s) : P (sendReset c k s) := by
  unfold Machine.sendReset
  dsimp only
  split
  · exact h.node (h.popCommand (h.sendBus hs))
  · exact h.popCommand (h.sendBus hs)

theorem commandPart {fuel done} (hs : P s) : P (commandPart fuel done s) := by
  induction fuel generalizing done s with
  | zero => exact h.openExchange hs
  | succ fuel ih =>
    unfold Machine.commandPart
    split
    · exact h.openExchange hs
    · split
      · exact h.openExchange hs
      · rename_i c rest front
        split
        · exact ih (h.sendReset hs)
        · split
          · exact ih (h.tellUndelivered (h.popCommand hs))
          · have hq : modBus (fun x => { x with queue := { c with sent := true } :: rest }) s
                = modBus (fun x => { x with queue := x.queue.modifyHead (fun c => { c with sent := true }) }) s := by
              simp only [modBus, front, List.modifyHead_cons]
            rw [hq]
            exact h.openExchange (h.queue (queueChange_of_le (fun x => ⟨rfl, by simp⟩)) hs)

theorem runCommands {done} (hs : P s) : P (runCommands done s) := h.commandPart hs

theorem slowPart {next} (hs : P s) : P (slowPart next s) := by
  unfold Machine.slowPart
  split
  · split <;> exact h.openExchange hs
  · exact h.runCommands (h.scan hs)

theorem settleReports {s} (hs : P s) : P (settleReports s) :=
  h.reports (fun _ => ⟨rfl, List.length_dropWhile_le _ _⟩) hs

theorem takeReport {a r} (hs : P s) : P (takeReport a r s) := by
  unfold Machine.takeReport
  split
  · exact h.sendBus hs
  · split
    · exact h.sendBus hs
    · exact h.sendBus (h.settleReports (h.reportJoins (by omega) hs))

/-- The report at the head leaves the queue, its owner having acted on it. -/
theorem takeHead {pick} (hp : ∀ r act a x u, pick r = some act → P u → P (act a x u)) (hs : P s) : P (takeHead pick s) := by
  unfold Machine.takeHead
  split
  · exact hs
  · split
    · exact hs
    · rename_i r _ _ act picked
      have ht : P (modBus (fun x => { x with reports := x.reports.tail }) s) :=
        h.reports (fun _ => ⟨rfl, by simp⟩) hs
      refine h.settleReports ?_
      split
      · exact hp _ _ _ _ _ picked ht
      · exact ht

theorem handSample {a ans} (hs : P s) : P (handSample a ans s) := by
  unfold Machine.handSample
  split
  · exact h.samples (fun _ => rfl) hs
  · exact hs

theorem mirrorAttention {a f o} (hs : P s) : P (mirrorAttention a f o s) := by
  unfold Machine.mirrorAttention
  split
  · exact h.node hs
  · exact h.node hs
  · exact hs

theorem commandAnswered {o} (hs : P s) : P (commandAnswered o s) := by
  unfold Machine.commandAnswered
  split
  · rename_i c _
    refine h.tellAnswered (h.queue ?_ hs)
    exact (queueChange_of_le (f := fun x => { x with queue := x.queue.erase c })
      (fun x => ⟨rfl, List.length_erase_le⟩)).placeHeld (fun _ => 1)
  · exact hs

theorem commandFailed {s} (hs : P s) : P (commandFailed s) := h.queue (queueChange_of_le (fun _ => ⟨rfl, by simp⟩)) hs

theorem closeExchange {s} (hs : P s) : P (closeExchange s) := h.scan hs

theorem setMissed {s} (hs : P s) : P (setMissed s) :=
  LaneOps.foldl (fun _ _ hu => h.samples (fun _ => rfl) hu) _ hs

theorem slotFailed {a x w} (hs : P s) : P (slotFailed a x w s) := by
  unfold Machine.slotFailed
  refine h.enumeration (h.sendBus ?_)
  split
  · exact hs
  · exact h.countError hs

end PartOps

/-- A property of states that bridge samples keep too: every scan cycle keeps it. -/
structure CycleOps (P : State → Prop) : Prop extends PartOps P where
  bridgeSample : ∀ {b s}, P s → P (bridgeSample b s)

namespace CycleOps
variable {P : State → Prop} {s : State} (h : CycleOps P)
include h

theorem endCellPolls {s} (hs : P s) : P (endCellPolls s) :=
  LaneOps.foldl (fun _ _ hu => h.bridgeSample hu) _ (LaneOps.foldl (fun _ _ hu => h.samples (fun _ => rfl) hu) _ hs)

theorem cellPart {next} (hs : P s) : P (cellPart next s) := by
  unfold Machine.cellPart
  split
  · exact h.openExchange (h.scan hs)
  · exact h.slowPart (h.endCellPolls hs)

theorem startCycle {s} (hs : P s) : P (startCycle s) := by
  unfold Machine.startCycle
  refine h.cellPart (h.setMissed ?_)
  split
  · exact h.startRound (h.sendBus (h.scan hs))
  · exact h.scan hs

theorem endCycle {s} (hs : P s) : P (endCycle s) := by
  unfold Machine.endCycle
  dsimp only
  split
  · exact h.startCycle (h.scan hs)
  · exact h.scan hs

theorem slotPart {s} (hs : P s) : P (slotPart s) := by
  unfold Machine.slotPart
  split
  · exact h.openExchange hs
  · exact h.endCycle hs

theorem nextWindow {s} (hs : P s) : P (nextWindow s) := by
  unfold Machine.nextWindow
  split
  · split
    · exact h.openExchange hs
    · exact h.slotPart hs
  · exact h.slotPart hs

theorem cycleDue {s} (hs : P s) : P (cycleDue s) := by
  unfold Machine.cycleDue
  split_ifs
  · exact h.startCycle hs
  · exact hs
  · exact h.scan hs

theorem nextPoll {s} (hs : P s) : P (nextPoll s) := by
  unfold Machine.nextPoll
  split
  · exact h.cellPart hs
  · exact h.slowPart hs
  · exact hs

theorem exchangeGood {x ans} (hs : P s) : P (exchangeGood x ans s) := by
  unfold Machine.exchangeGood
  have hc : P (Machine.closeExchange s) := h.closeExchange hs
  dsimp only
  split
  · exact h.nextPoll (h.handSample (h.countGood hc))
  · exact h.nextPoll (h.handSample (h.countGood hc))
  · exact h.nextPoll (h.countGood hc)
  · exact h.runCommands (h.commandAnswered (h.mirrorAttention (h.countGood hc)))
  · split
    · exact h.nextWindow (h.takeReport (h.countGood hc))
    · exact h.nextWindow hc
  · split
    · exact h.endCycle (h.entryAssigned hc)
    · exact h.endCycle hc
  · exact hc
  · exact hc

theorem exchangeFailed {x} (hs : P s) : P (exchangeFailed x s) := by
  unfold Machine.exchangeFailed
  have hc : P (Machine.closeExchange s) := h.closeExchange hs
  dsimp only
  split
  · exact h.nextPoll (h.countError hc)
  · exact h.nextPoll (h.countError hc)
  · exact h.nextPoll (h.countError hc)
  · exact h.openExchange (h.commandFailed (h.countError hc))
  · exact h.nextWindow (h.countError hc)
  · exact h.endCycle (h.slotFailed hc)
  · exact hc
  · exact hc

theorem answerArrives {k f} (hs : P s) : P (answerArrives k f s) := by
  unfold Machine.answerArrives
  split
  · exact hs
  · split
    · exact hs
    · split
      · exact h.exchangeGood hs
      · exact h.exchangeFailed hs

theorem errorArrives {k f} (hs : P s) : P (errorArrives k f s) := by
  unfold Machine.errorArrives
  split
  · exact hs
  · split
    · exact hs
    · split
      · exact hs
      · exact h.exchangeFailed hs

theorem noAnswer {s} (hs : P s) : P (noAnswer s) := by
  unfold Machine.noAnswer
  split
  · exact hs
  · split
    · exact h.exchangeFailed hs
    · exact hs

theorem windowRead {v} (hs : P s) : P (windowRead v s) := by
  unfold Machine.windowRead
  have hc : P (Machine.closeExchange s) := h.closeExchange hs
  split
  · exact hs
  · dsimp only
    split
    · exact h.slotPart hc
    · split
      · exact h.nextWindow (h.joinRequest (h.sendBus hc))
      · split
        · exact h.nextWindow hc
        · split
          · split
            · exact h.openExchange hc
            · exact hc
          · exact h.nextWindow (h.sendBus hc)

theorem slotRead {v} (hs : P s) : P (slotRead v s) := by
  unfold Machine.slotRead
  have hc : P (Machine.closeExchange s) := h.closeExchange hs
  have none_ : ∀ {u}, P u → P (assignNone v u) := fun hu => h.endCycle (h.enumeration (h.sendBus hu))
  split
  · exact hs
  · dsimp only
    split
    · exact h.endCycle (h.enumeration hc)
    · split
      · exact none_ hc
      · split
        · exact none_ (h.record hc)
        · exact h.scan (h.sendBus hc)

end CycleOps
end Sys2Proof.Machine

namespace Sys2Proof.Machine

/-- A property of states that the port, the settings and the requests of the tables keep too. Neither records nor claims nor the
port's lists grow but by joining with room; an engine's settings leave its zero. The requests that write the tables are taken
whole, since what keeps the tables within their sizes is their own tests. -/
structure RequestOps (P : State → Prop) : Prop extends CycleOps P where
  port : ∀ {f s}, (∀ p : Port, (f p).records.length ≤ p.records.length ∧ (f p).claims = p.claims
    ∧ (f p).buffer.length ≤ p.buffer.length ∧ (f p).pass.length ≤ p.pass.length) → P s → P (modPort f s)
  bufferJoins : ∀ {r s}, s.port.buffer.length < Config.requestSlots → P s →
    P (modPort (fun p => { p with buffer := p.buffer ++ [r] }) s)
  passJoins : ∀ {e s}, s.port.pass.length < Config.passSlots → P s →
    P (modPort (fun p => { p with pass := p.pass ++ [e] }) s)
  resetOffered : ∀ {a k o s}, P s → P (Machine.offer a (.nodeReset k) o s).1
  settings : ∀ {b f s}, (∀ e : Engine, (f e).zero = e.zero) → P s → P (modEngine b f s)
  laneSettings : ∀ {l f s}, P s → P (modLane l f s)
  planEntries : ∀ {e s}, P s → P { s with plan := { s.plan with entries := e } }
  clock : ∀ {f s}, (∀ t : Tables, (f t).vehicles = t.vehicles ∧ (f t).accounts = t.accounts ∧ (f t).banks = t.banks) →
    P s → P (modTables f s)
  tolerance : ∀ {k s}, P s → P (modVisits (fun t => { t with tolerance := k }) s)
  numberWrite : ∀ {n tag s}, P s → P (askWrite (.setTicket n tag) s)
  putVehicle : ∀ {tag vs s}, P s → P (putVehicle tag vs s).1
  dropVehicle : ∀ {tag vs s}, P s → P (dropVehicle tag vs s).1
  putAccount : ∀ {tag vs s}, P s → P (putAccount tag vs s).1
  dropAccount : ∀ {tag vs s}, P s → P (dropAccount tag vs s).1
  putTariffRow : ∀ {tag vs s}, P s → P (putTariffRow tag vs s).1
  dropTariffRow : ∀ {tag vs s}, P s → P (dropTariffRow tag vs s).1

@[simp] theorem reply_fst (r : Result) (s : State) : (reply r s).1 = s := rfl

@[simp] theorem replyWith_fst (r : Result) (body : Bytes) (s : State) : (replyWith r body s).1 = s := rfl

/-- Only a DRIVE OFF pushes commands out of the queue: any other offer leaves the port alone. -/
theorem offer_port {a : NodeId} {f : CommandFrame} {o : Origin} {s : State} (hf : f ≠ .driveOff) :
    (offer a f o s).1.port = s.port := by
  unfold offer
  dsimp only
  rw [if_neg hf]
  split_ifs <;> rfl

namespace RequestOps
variable {P : State → Prop} {s : State} (h : RequestOps P)
include h

/-! ### The port -/

theorem popRequest {s} (hs : P s) : P (popRequest s) := h.port (fun p => by simp) hs

/-- A request whose owner keeps the property keeps it. -/
theorem takeRequest {code layout owner} (ho : ∀ tag vs u, P u → P (owner tag vs u).1) (hs : P s) :
    P (takeRequest code layout owner s) := by
  unfold Machine.takeRequest
  split
  · exact hs
  · split
    · exact hs
    · split
      · exact h.popRequest (h.answer hs)
      · rename_i r _ _ _ _ vs _
        have hr := ho r.tag vs s hs
        split <;> rename_i replied <;> rw [replied] at hr
        · exact h.popRequest (h.answer hr)
        · exact h.popRequest hr

theorem takeUnknown {s} (hs : P s) : P (takeUnknown s) := by
  unfold Machine.takeUnknown
  split
  · exact hs
  · split
    · exact hs
    · exact h.popRequest (h.answer hs)

theorem linkUp {s} (hs : P s) : P (linkUp s) := by
  have hp : ∀ {f : Port → Port}, (∀ p, (f p).records = p.records ∧ (f p).claims = p.claims ∧ (f p).buffer = p.buffer
      ∧ (f p).pass = p.pass) → P (modPort f s) := fun {f} hf => h.port (fun p => by simp [hf p]) hs
  unfold Machine.linkUp
  dsimp only
  split
  · exact hp (fun _ => ⟨rfl, rfl, rfl, rfl⟩)
  · split
    · exact hp (fun _ => ⟨rfl, rfl, rfl, rfl⟩)
    · exact h.ready (hp (fun _ => ⟨rfl, rfl, rfl, rfl⟩))

theorem receiveFrame {f} (hs : P s) : P (receiveFrame f s) := by
  unfold Machine.receiveFrame bufferFrame
  split
  · split
    · rename_i room
      exact h.bufferJoins room (h.linkUp hs)
    · exact h.answer (h.linkUp hs)
  · exact hs

theorem sendNext {s} (hs : P s) : P (sendNext s) := by
  unfold Machine.sendNext
  split
  · exact h.port (fun _ => ⟨le_rfl, rfl, le_rfl, le_rfl⟩) (h.port (fun _ => ⟨le_rfl, rfl, le_rfl, le_rfl⟩) hs)
  · exact hs

theorem liveExpiry {s} (hs : P s) : P (liveExpiry s) := by
  unfold Machine.liveExpiry
  have hl : ∀ x, P (modPort (fun p => { p with live := x }) s) := fun _ => h.port (fun _ => ⟨le_rfl, rfl, le_rfl, le_rfl⟩) hs
  split
  · exact hs
  · dsimp only
    split
    · exact hl _
    · exact h.ready (hl _)

theorem setSilenceTimeout {tag vs} (hs : P s) : P (setSilenceTimeout tag vs s).1 := by
  unfold Machine.setSilenceTimeout
  split
  · rw [reply_fst]
    exact h.port (fun _ => ⟨le_rfl, rfl, le_rfl, le_rfl⟩) hs
  · exact hs

theorem releaseRecords {tag vs} (hs : P s) : P (releaseRecords tag vs s).1 := by
  unfold Machine.releaseRecords
  split
  · rename_i n
    have hd : modPort (fun p => { p with records := s.port.records.dropWhile (fun r => decide (r.number ≤ n)) }) s
        = modPort (fun p => { p with records := p.records.dropWhile (fun r => decide (r.number ≤ n)) }) s := rfl
    dsimp only [replyWith]
    rw [hd]
    exact h.port (fun _ => ⟨List.length_dropWhile_le _ _, rfl, le_rfl, le_rfl⟩) hs
  · exact hs

theorem subscribeLive {tag vs} (hs : P s) : P (subscribeLive tag vs s).1 := by
  unfold Machine.subscribeLive
  split
  · split
    · exact hs
    · split
      · rw [reply_fst]
        exact h.port (fun _ => ⟨le_rfl, rfl, le_rfl, le_rfl⟩) hs
      · split
        · exact hs
        · dsimp only [reply_fst]
          exact h.port (fun _ => ⟨le_rfl, rfl, le_rfl, le_rfl⟩) hs
  · exact hs

theorem sendToNode {tag vs} (hs : P s) : P (sendToNode tag vs s).1 := by
  unfold Machine.sendToNode
  split
  · split
    · exact hs
    · split
      · exact hs
      · split
        · exact hs
        · exact hs
        · exact hs
        · rename_i role message _ room _ _ a x _ _
          dsimp only
          have ho := h.offer (a := a) (f := .message message)
            (o := .pass { tag := tag, role := role, node := a, serial := some x }) rfl hs
          have hp := offer_port (a := a) (f := .message message)
            (o := .pass { tag := tag, role := role, node := a, serial := some x }) (s := s) nofun
          split <;> rename_i offered <;> try exact hs
          rw [offered] at ho hp
          exact h.passJoins (by rw [hp]; omega) ho
  · exact hs

theorem readStatus {tag vs} (hs : P s) : P (readStatus tag vs s).1 := by
  unfold Machine.readStatus
  rw [replyWith_fst]
  exact h.port (fun _ => ⟨le_rfl, rfl, le_rfl, le_rfl⟩) hs

/-! ### Engines, nodes and the plan -/

theorem setParams {b p} (hs : P s) : P (modEngine b (fun e => e.setParams p) s) := by
  refine h.settings (fun e => ?_) hs
  unfold Engine.setParams
  split <;> rfl

theorem setBridgeParameters {tag vs} (hs : P s) : P (setBridgeParameters tag vs s).1 := by
  unfold Machine.setBridgeParameters
  split
  · split
    · exact hs
    · extract_lets given p same
      clear_value p
      split
      · exact hs
      · exact h.setParams hs
  · exact hs

theorem setBridgeService {tag vs} (hs : P s) : P (setBridgeService tag vs s).1 := by
  unfold Machine.setBridgeService
  split
  · split
    · exact hs
    · split
      · split
        · exact hs
        · exact h.deriveBridge (h.settings (fun _ => rfl) hs)
      · exact h.deriveBridge (h.settings (fun _ => rfl) hs)
  · exact hs

theorem setScanPeriod {tag vs} (hs : P s) : P (setScanPeriod tag vs s).1 := by
  unfold Machine.setScanPeriod
  split
  · rw [reply_fst]
    exact h.scan hs
  · exact hs

theorem enumerate {tag vs} (hs : P s) : P (enumerate tag vs s).1 := h.startRound (h.enumeration hs)

theorem resetNode {tag vs} (hs : P s) : P (resetNode tag vs s).1 := by
  unfold Machine.resetNode
  split
  · rename_i level
    split
    · exact hs
    · rename_i a _
      split_ifs
      · exact hs
      · exact hs
      · have ho := h.resetOffered (a := a) (k := level) (o := .office) hs
        split <;> rename_i offered <;> rw [offered] at ho <;> exact ho
  · exact hs

theorem releaseNode {tag vs} (hs : P s) : P (releaseNode tag vs s).1 := by
  unfold Machine.releaseNode
  split
  · split
    · exact hs
    · split
      · exact hs
      · exact h.endHoldOff (h.reportChange (h.node hs))
  · exact hs

theorem readBus {tag vs} (hs : P s) : P (readBus tag vs s).1 := by
  unfold Machine.readBus
  rw [replyWith_fst]
  exact h.scan hs

theorem putPlanEntry {tag vs} (hs : P s) : P (putPlanEntry tag vs s).1 := by
  unfold Machine.putPlanEntry
  split
  · split
    · exact hs
    · dsimp only
      split_ifs
      all_goals first | exact hs | exact h.rebind (h.planEntries hs)
  · exact hs

theorem dropPlanEntry {tag vs} (hs : P s) : P (dropPlanEntry tag vs s).1 := by
  unfold Machine.dropPlanEntry
  split
  · split
    · exact hs
    · split
      · exact hs
      · split
        · exact hs
        · dsimp only [reply]
          split
          · exact h.deriveBinding (h.planEntries hs)
          · exact h.planEntries hs
  · exact hs

/-! ### Lanes -/

theorem putLane {tag vs} (hs : P s) : P (putLane tag vs s).1 := by
  unfold Machine.putLane
  split
  · split
    · split
      · exact hs
      · extract_lets release c inRanges t
        have ht : P t := h.laneSettings hs
        clear_value t
        rw [reply_fst]
        split
        · exact h.enterPlain ht
        · exact ht
    · exact hs
  · exact hs

theorem openLane {tag vs} (hs : P s) : P (openLane tag vs s).1 := by
  unfold Machine.openLane
  split
  · split
    · exact hs
    · split
      · exact hs
      · dsimp only [reply]
        split
        · exact h.enterPlain (h.laneSettings hs)
        · exact h.laneSettings hs
  · exact hs

theorem closeLane {tag vs} (hs : P s) : P (closeLane tag vs s).1 := by
  unfold Machine.closeLane
  split
  · split
    · exact hs
    · dsimp only [reply]
      split
      · exact h.enterPlain (h.laneSettings hs)
      · exact h.enterPlain (h.laneSettings (h.laneSettings hs))
      · exact h.laneSettings hs
  · exact hs

theorem holdRequest {tag vs} (hs : P s) : P (holdRequest tag vs s).1 := by
  unfold Machine.holdRequest
  split
  · split
    · exact hs
    · dsimp only
      split
      · exact h.holdLane hs
      · exact hs
  · exact hs

theorem releaseLane {tag vs} (hs : P s) : P (releaseLane tag vs s).1 := by
  unfold Machine.releaseLane
  split
  · split
    · exact hs
    · split_ifs
      · exact hs
      · exact hs
      · exact h.resume hs
      · exact h.letOff (h.laneSettings hs)
  · exact hs

theorem barrierOverride {tag vs} (hs : P s) : P (barrierOverride tag vs s).1 := by
  unfold Machine.barrierOverride
  split
  · split
    · exact hs
    · rename_i action _ l _
      extract_lets e x want settle
      have hsettle : ∀ {u}, P u → P (settle u) := fun hu => h.stationOffers (h.station hu)
      clear_value settle want
      split
      · exact hs
      · rename_i a _
        split
        · exact hs
        · split
          · exact hsettle hs
          · have ho := h.offerArm (l := l) (e := e) (a := a) (c := if action = 1 then .raise else .lower) hs
            split <;> rename_i offered
            · rw [offered] at ho
              exact hsettle ho
            · exact hs
            · exact hs
  · exact hs

/-! ### Tables and visits -/

theorem switchTest {s} (hs : P s) : P (switchTest s) := by
  unfold Machine.switchTest
  split
  · split
    · exact h.record (h.clock (fun _ => ⟨rfl, rfl, rfl⟩) hs)
    · exact hs
  · exact hs

theorem tickSecond {s} (hs : P s) : P (tickSecond s) := by
  unfold Machine.tickSecond
  split
  · exact h.clock (fun _ => ⟨rfl, rfl, rfl⟩) hs
  · exact h.switchTest (h.clock (fun _ => ⟨rfl, rfl, rfl⟩) hs)

theorem setClock {tag vs} (hs : P s) : P (setClock tag vs s).1 := by
  unfold Machine.setClock
  split
  · exact h.switchTest (h.clock (fun _ => ⟨rfl, rfl, rfl⟩) hs)
  · exact hs

theorem setTariffSwitch {tag vs} (hs : P s) : P (setTariffSwitch tag vs s).1 := by
  unfold Machine.setTariffSwitch
  split <;> rw [reply_fst]
  · exact h.switchTest (h.clock (fun _ => ⟨rfl, rfl, rfl⟩) hs)
  · exact h.clock (fun _ => ⟨rfl, rfl, rfl⟩) hs

theorem setBalance {tag vs} (hs : P s) : P (setBalance tag vs s).1 := by
  unfold Machine.setBalance
  split
  · split
    · exact hs
    · split
      · exact hs
      · split
        · exact hs
        · exact h.evaluateOverLimit (h.account hs)
  · exact hs

theorem openWalkIn {tag vs} (hs : P s) : P (openWalkIn tag vs s).1 := by
  unfold Machine.openWalkIn
  split
  · split
    · exact hs
    · split
      · exact hs
      · split
        · exact hs
        · split
          · exact hs
          · rename_i room
            split
            · exact hs
            · split_ifs
              · exact hs
              · exact hs
              · rw [replyWith_fst]
                exact h.openVisit (by omega) hs
  · exact hs

theorem voidByOffice {v} (hs : P s) : P (voidByOffice v s) := by
  unfold Machine.voidByOffice
  dsimp only
  split
  · exact h.voidTold (h.voidVisit hs)
  · exact h.voidVisit hs

theorem voidRequest {tag vs} (hs : P s) : P (voidRequest tag vs s).1 := by
  unfold Machine.voidRequest
  split
  · split
    · exact hs
    · split
      · exact hs
      · split_ifs
        · exact hs
        · exact hs
        · exact h.voidByOffice hs
  · exact hs

theorem tellResolution {v r} (hs : P s) : P (tellResolution v r s) := by
  unfold Machine.tellResolution
  split
  · exact h.resolveLane hs
  · exact hs

theorem refixBank {v} (hs : P s) : P (refixBank v s) := by
  unfold Machine.refixBank
  refine h.visit (fun _ => rfl) (h.refBank ?_)
  split
  · exact h.unrefBank hs
  · exact hs

theorem acceptHeld {n u} (hu : P u) (hs : P s) : P (acceptHeld n u s).1 := by
  unfold Machine.acceptHeld
  split
  · exact hs
  · split
    · exact h.tellResolution (h.acceptFirst hs)
    · split
      · split
        · exact hu
        · exact h.tellResolution (h.complete hs)
      · exact hs
    · exact hs

theorem resolveVisit {tag vs} (hs : P s) : P (resolveVisit tag vs s).1 := by
  have tare : ∀ v k, P (resolveTare v k s).1 := by
    intro v k
    unfold resolveTare
    split
    · split
      · exact hs
      · exact h.tellResolution (h.complete hs)
    · exact hs
  unfold Machine.resolveVisit
  split
  · split
    · exact hs
    · split
      · exact hs
      · split
        · exact hs
        · split
          · exact hs
          · split
            · exact hs
            · split
              · unfold resolveAccept
                split
                · exact h.acceptHeld hs (h.refixBank hs)
                · exact h.acceptHeld hs hs
              · exact tare _ _
              · exact h.tellResolution (h.visit (fun _ => rfl) hs)
              · exact h.voidByOffice hs
  · exact hs

theorem restoreInto {v} (room : s.visits.table.length < Config.visitSlots) (hs : P s) : P (restoreInto v s) := by
  unfold Machine.restoreInto
  extract_lets s1 s2 s3 s4
  have h1 : P s1 ∧ s1.visits = s.visits := by
    unfold s1
    split
    · exact ⟨hs, rfl⟩
    · exact ⟨h.reserve hs, rfl⟩
  have h2 : P s2 ∧ s2.visits = s.visits := by
    unfold s2
    split
    · exact ⟨h.refBank h1.1, h1.2⟩
    · exact h1
  have h3 : P s3 := by
    refine h.visitOpens ?_ (h.takeClaims h2.1)
    have : (Machine.takeClaims 4 s2).visits = s2.visits := by
      unfold Machine.takeClaims
      split <;> rfl
    rw [this, h2.2]
    exact room
  have h4 : P s4 := h.spendVisitClaim h3
  split
  · exact h4
  · exact h.releaseClaims (h.visit (fun _ => rfl) h4)

theorem restoreVisit {tag vs} (hs : P s) : P (restoreVisit tag vs s).1 := by
  unfold Machine.restoreVisit
  split
  · dsimp only
    split
    · split_ifs
      all_goals first | exact hs | skip
      dsimp only [reply]
      exact h.restoreInto (by omega) hs
    · exact hs
  · exact hs

theorem setTareTolerance {tag vs} (hs : P s) : P (setTareTolerance tag vs s).1 := by
  unfold Machine.setTareTolerance
  split
  · split
    · exact hs
    · exact h.tolerance hs
  · exact hs

/-! ### Tickets -/

theorem setTicketNumber {tag vs} (hs : P s) : P (setTicketNumber tag vs s).1 := by
  unfold Machine.setTicketNumber
  split
  · split_ifs
    · exact hs
    · exact hs
    · exact hs
    · exact h.numberWrite hs
  · exact hs

theorem reprintTicket {tag vs} (hs : P s) : P (reprintTicket tag vs s).1 := by
  unfold Machine.reprintTicket
  split
  · split
    · exact hs
    · split
      · exact hs
      · split
        · exact hs
        · split_ifs
          · exact hs
          · exact hs
          · exact h.startHead (h.ticketJoins (by omega) hs)
  · exact hs

theorem setTicketHeader {tag vs} (hs : P s) : P (setTicketHeader tag vs s).1 := by
  unfold Machine.setTicketHeader
  split
  · split
    · exact hs
    · split
      · exact hs
      · rw [reply_fst]
        exact h.tickets (fun _ => rfl) hs
  · exact hs

end RequestOps
end Sys2Proof.Machine

namespace Sys2Proof.Machine

/-- The owners of the requests that only read. -/
def readers : List (Byte → List (Option Value) → State → Reply) :=
  [readBridge, readCalibration, readNode, readPlanEntry, readLane, readVehicle, readVehicleNext, readAccount,
    readAccountNext, readTariffRow, readTariffRowNext, readTables, readVisit, readVisitByVehicle, readVisitNext,
    readTickets, readRecords]

/-- A reading request hands the state back as it was. -/
theorem readers_state {owner} (ho : owner ∈ readers) (tag : Byte) (vs : List (Option Value)) (s : State) :
    (owner tag vs s).1 = s := by
  simp only [readers, List.mem_cons, List.not_mem_nil, or_false] at ho
  rcases ho with rfl | rfl | rfl | rfl | rfl | rfl | rfl | rfl | rfl | rfl | rfl | rfl | rfl | rfl | rfl | rfl | rfl
  all_goals
    simp only [readBridge, readCalibration, readNode, readPlanEntry, readLane, readVehicle, readVehicleNext, readAccount,
      readAccountNext, readTariffRow, readTariffRowNext, readTables, readVisit, readVisitByVehicle, readVisitNext,
      readTickets, readRecords, replyWith_fst]
    repeat' split
  all_goals rfl

/-- A property of states that every command keeps: the commands of the engine's zero, of a calibration session, of the
store's writes, of the lines and of the resets are taken whole. -/
structure ExecOps (P : State → Prop) : Prop extends RequestOps P where
  fresh : ∀ {s}, P s → P (fresh s)
  pending : ∀ {q s}, P s → P { s with pending := q }
  idleTick : ∀ {s}, s.powered = true → P s → P (idleTick s)
  coldValues : ∀ {s}, P s → P (coldValues s)
  warmValues : ∀ {kind s}, s.cal.store.inFlight = none → P s → P (warmValues kind s)
  calEnable : ∀ {level s}, P s → P (setCalEnable level s)
  stopLevel : ∀ {level s}, P s → P { s with yardStop := level }
  losePower : ∀ {s}, P s → P (losePower s)
  trackExpiry : ∀ {b s}, P s → P (trackExpiry b s)
  stepTimeout : ∀ {s}, P s → P (stepTimeout s)
  recordWritten : ∀ {s}, P s → P (recordWritten s)
  counterWritten : ∀ {s}, P s → P (counterWritten s)
  ticketNumbered : ∀ {s}, P s → P (ticketNumbered s)
  numberSet : ∀ {s}, P s → P (numberSet s)
  zeroBridge : ∀ {tag vs s}, P s → P (zeroBridge tag vs s).1
  calBegin : ∀ {tag vs s}, P s → P (calBegin tag vs s).1
  calZero : ∀ {tag vs s}, P s → P (calZero tag vs s).1
  calSpan : ∀ {tag vs s}, P s → P (calSpan tag vs s).1
  calCorner : ∀ {tag vs s}, P s → P (calCorner tag vs s).1
  calTrim : ∀ {tag vs s}, P s → P (calTrim tag vs s).1
  calSetLimits : ∀ {tag vs s}, P s → P (calSetLimits tag vs s).1
  calCommit : ∀ {tag vs s}, P s → P (calCommit tag vs s).1
  calAbort : ∀ {tag vs s}, P s → P (calAbort tag vs s).1

namespace ExecOps
variable {P : State → Prop} {s t : State} (h : ExecOps P)
include h

/-! ### Resets, lines and the frames of the port -/

theorem warmReset {kind} (idle : s.cal.store.inFlight = none) (hs : P s) : P (warmReset kind s) :=
  h.startCycle (h.warmValues idle hs)

theorem askReset {kind} (hs : P s) : P (askReset kind s) := by
  unfold Machine.askReset
  split
  · exact hs
  · split
    · exact h.port (fun _ => ⟨le_rfl, rfl, le_rfl, le_rfl⟩) hs
    · rename_i idle
      exact h.warmReset (by simpa using idle) hs

theorem settleWrite {s} (hs : P s) : P (settleWrite s) := by
  unfold Machine.settleWrite
  split
  · rename_i idle _
    exact h.warmReset idle hs
  · exact hs

theorem onWrite {kind f} (hf : ∀ u, P u → P (f u)) (hs : P s) : P (onWrite kind f s) := by
  unfold Machine.onWrite
  split
  · exact h.settleWrite (hf s hs)
  · exact hs

theorem setYardStop {level} (hs : P s) : P (setYardStop level s) := by
  unfold Machine.setYardStop
  dsimp only
  split_ifs
  · exact h.stopLevel hs
  · exact h.assertStop (h.stopLevel hs)
  · exact h.deassertStop (h.stopLevel hs)

theorem frameGone {s} (hs : P s) : P (frameGone s) := by
  have hp : P (modPort (fun p => { p with sending := none }) s) := h.port (fun _ => ⟨le_rfl, rfl, le_rfl, le_rfl⟩) hs
  unfold Machine.frameGone
  split
  · exact hs
  · dsimp only
    split
    · exact h.sendNext (h.askReset hp)
    · exact h.sendNext hp

theorem silenceExpiry {s} (hs : P s) : P (silenceExpiry s) := by
  have hp : P (modPort (fun p => { p with up := false, silence := none, live := none, waiting := [] }) s) :=
    h.port (fun _ => ⟨le_rfl, rfl, le_rfl, le_rfl⟩) hs
  unfold Machine.silenceExpiry linkDown
  split
  · dsimp only
    split
    · exact h.askReset hp
    · exact hp
  · exact hs

theorem restart {tag vs} (hs : P s) : P (restart tag vs s).1 := by
  have hp : P (modPort (fun p => { p with restarting := true }) s) := h.port (fun _ => ⟨le_rfl, rfl, le_rfl, le_rfl⟩) hs
  unfold Machine.restart
  dsimp only
  split
  · exact h.ready hp
  · exact h.askReset hp

theorem holdOffEnds {s} (hs : P s) : P (holdOffEnds s) := by
  unfold Machine.holdOffEnds
  split
  · exact h.endHoldOff hs
  · exact hs

/-- A picked report's owner keeps the property. -/
theorem picked {pick : Report → Option (NodeId → Attach → State → State)}
    (hp : pick ∈ [pickBeam, pickStation, pickIdentify, pickKey, pickAttendant, pickHelp, pickDone, pickPaperOut, pickJam])
    (r : Report) (act) (a : NodeId) (x : Attach) (u : State) (hr : pick r = some act) (hu : P u) : P (act a x u) := by
  simp only [List.mem_cons, List.not_mem_nil, or_false] at hp
  rcases hp with rfl | rfl | rfl | rfl | rfl | rfl | rfl | rfl | rfl
  all_goals
    cases r <;> cases hr
    cases x <;> try exact hu
  · exact h.beamReport hu
  · exact h.stationReport hu
  · exact h.identifyReport hu
  · exact h.keyReport hu
  · exact h.attendantReport hu
  · exact h.record hu
  · exact h.doneReport hu
  · exact h.printerTrouble hu
  · exact h.printerTrouble hu

/-! ### Commands -/

omit h in
/-- A command that always completes leads to the state it gives. -/
theorem completes {u : State} (hu : P u) (he : (Host.Outcome.next u : Host.Outcome State Fault Refusal) = .next t) : P t :=
  Host.Outcome.next.inj he ▸ hu

/-- A command that acts by an operation that keeps the property keeps it, with and without supply. -/
theorem act {f : State → State} (hf : ∀ u, P u → P (f u)) (hs : P s) (he : act f s = .next t) : P t := by
  unfold Machine.act at he
  split at he <;> cases he
  · exact hf _ (h.fresh hs)
  · exact hs

theorem request {code layout owner} (ho : ∀ {tag vs u}, P u → P (owner tag vs u).1) (hs : P s)
    (he : Machine.act (Machine.takeRequest code layout owner) s = .next t) : P t :=
  h.act (fun _ hu => h.takeRequest (fun _ _ _ hv => ho hv) hu) hs he

theorem read {code layout owner} (ho : owner ∈ readers) (hs : P s)
    (he : Machine.act (Machine.takeRequest code layout owner) s = .next t) : P t :=
  h.request (fun {tag vs u} hu => by rw [readers_state ho tag vs u]; exact hu) hs he

theorem report {pick} (hp : pick ∈ [pickBeam, pickStation, pickIdentify, pickKey, pickAttendant, pickHelp, pickDone,
    pickPaperOut, pickJam]) (hs : P s) (he : Machine.act (Machine.takeHead pick) s = .next t) : P t :=
  h.act (fun _ hu => h.takeHead (h.picked hp) hu) hs he

/-- Every command keeps the property. -/
theorem exec {c : Instr} (hs : P s) (he : exec c s = .next t) : P t := by
  cases c
  case coldReset => exact completes (h.startCycle (h.coldValues hs)) he
  case warmReset => exact h.act (fun _ hu => h.askReset hu) hs he
  case calEnableAssert | calEnableDeassert => exact completes (h.calEnable (h.fresh hs)) he
  case yardStopAssert | yardStopDeassert => exact completes (h.setYardStop (h.fresh hs)) he
  case powerLoss => exact completes (h.losePower (h.fresh hs)) he
  case scanCycleStart => exact h.act (fun _ hu => h.cycleDue hu) hs he
  case sample | present | ack | nakRefused | reply | report | descriptor =>
    exact h.act (fun _ hu => h.answerArrives hu) hs he
  case noResponse => exact h.act (fun _ hu => h.noAnswer hu) hs he
  case responseError => exact h.act (fun _ hu => h.errorArrives hu) hs he
  case attentionWindow => exact h.act (fun _ hu => h.windowRead hu) hs he
  case enumerationSlot => exact h.act (fun _ hu => h.slotRead hu) hs he
  case beam | station | identify | key | attendant | help | done | paperOut | jam =>
    exact h.report (by simp) hs he
  case zeroTrackingExpiry => exact h.act (fun _ hu => h.trackExpiry hu) hs he
  case level1Expiry => exact h.act (fun _ hu => h.level1Expiry hu) hs he
  case level2Expiry => exact h.act (fun _ hu => h.level2Expiry hu) hs he
  case holdOffExpiry => exact h.act (fun _ hu => h.holdOffEnds hu) hs he
  case attentionRetryExpiry => exact h.act (fun _ hu => h.attentionRetry hu) hs he
  case calStepTimeout => exact h.act (fun _ hu => h.stepTimeout hu) hs he
  case intrusionEmptyExpiry => exact h.act (fun _ hu => h.pauseExpiry hu) hs he
  case entryTimerExpiry => exact h.act (fun _ hu => h.entryExpiry hu) hs he
  case askTimerExpiry => exact h.act (fun _ hu => h.askExpiry hu) hs he
  case stabilityTimerExpiry => exact h.act (fun _ hu => h.stabilityExpiry hu) hs he
  case clearanceTimerExpiry => exact h.act (fun _ hu => h.clearanceExpiry hu) hs he
  case motionTimerExpiry => exact h.act (fun _ hu => h.motionExpiry hu) hs he
  case stationRetryExpiry => exact h.act (fun _ hu => h.stationRetryExpiry hu) hs he
  case driveRetryExpiry => exact h.act (fun _ hu => h.driveRetryExpiry hu) hs he
  case printTimerExpiry => exact h.act (fun _ hu => h.printTimeout hu) hs he
  case printRetryExpiry => exact h.act (fun _ hu => h.printRetry hu) hs he
  case silenceTimerExpiry => exact h.act (fun _ hu => h.silenceExpiry hu) hs he
  case liveIntervalExpiry => exact h.act (fun _ hu => h.liveExpiry hu) hs he
  case frameGapTimeout | frameDiscard => exact h.act (fun _ hu => hu) hs he
  case secondsTick => exact h.act (fun _ hu => h.tickSecond hu) hs he
  case commitRecordWriteDone => exact h.act (fun _ hu => h.onWrite (fun _ hv => h.recordWritten hv) hu) hs he
  case commitCounterWriteDone => exact h.act (fun _ hu => h.onWrite (fun _ hv => h.counterWritten hv) hu) hs he
  case ticketNumberWriteDone => exact h.act (fun _ hu => h.onWrite (fun _ hv => h.ticketNumbered hv) hu) hs he
  case setTicketNumberWriteDone => exact h.act (fun _ hu => h.onWrite (fun _ hv => h.numberSet hv) hu) hs he
  case officeFrame => exact h.act (fun _ hu => h.receiveFrame hu) hs he
  case frameSent => exact h.act (fun _ hu => h.frameGone hu) hs he
  case unknownRequest => exact h.act (fun _ hu => h.takeUnknown hu) hs he
  case zeroBridge => exact h.request h.zeroBridge hs he
  case setBridgeParameters => exact h.request h.setBridgeParameters hs he
  case setBridgeService => exact h.request h.setBridgeService hs he
  case calBegin => exact h.request h.calBegin hs he
  case calZero => exact h.request h.calZero hs he
  case calSpan => exact h.request h.calSpan hs he
  case calCorner => exact h.request h.calCorner hs he
  case calTrim => exact h.request h.calTrim hs he
  case calSetLimits => exact h.request h.calSetLimits hs he
  case calCommit => exact h.request h.calCommit hs he
  case calAbort => exact h.request h.calAbort hs he
  case setScanPeriod => exact h.request h.setScanPeriod hs he
  case enumerate => exact h.request h.enumerate hs he
  case resetNode => exact h.request h.resetNode hs he
  case releaseNode => exact h.request h.releaseNode hs he
  case readBus => exact h.request h.readBus hs he
  case putPlanEntry => exact h.request h.putPlanEntry hs he
  case dropPlanEntry => exact h.request h.dropPlanEntry hs he
  case putLane => exact h.request h.putLane hs he
  case openLane => exact h.request h.openLane hs he
  case closeLane => exact h.request h.closeLane hs he
  case holdLane => exact h.request h.holdRequest hs he
  case releaseLane => exact h.request h.releaseLane hs he
  case barrierOverride => exact h.request h.barrierOverride hs he
  case setClock => exact h.request h.setClock hs he
  case putVehicle => exact h.request h.putVehicle hs he
  case dropVehicle => exact h.request h.dropVehicle hs he
  case putAccount => exact h.request h.putAccount hs he
  case dropAccount => exact h.request h.dropAccount hs he
  case setBalance => exact h.request h.setBalance hs he
  case putTariffRow => exact h.request h.putTariffRow hs he
  case dropTariffRow => exact h.request h.dropTariffRow hs he
  case setTariffSwitch => exact h.request h.setTariffSwitch hs he
  case openVisit => exact h.request h.openWalkIn hs he
  case voidVisit => exact h.request h.voidRequest hs he
  case resolveVisit => exact h.request h.resolveVisit hs he
  case restoreVisit => exact h.request h.restoreVisit hs he
  case setTareTolerance => exact h.request h.setTareTolerance hs he
  case setTicketNumber => exact h.request h.setTicketNumber hs he
  case reprintTicket => exact h.request h.reprintTicket hs he
  case setTicketHeader => exact h.request h.setTicketHeader hs he
  case setSilenceTimeout => exact h.request h.setSilenceTimeout hs he
  case releaseRecords => exact h.request h.releaseRecords hs he
  case subscribeLive => exact h.request h.subscribeLive hs he
  case sendToNode => exact h.request h.sendToNode hs he
  case readStatus => exact h.request h.readStatus hs he
  case restart => exact h.request h.restart hs he
  case readBridge | readCalibration | readNode | readPlanEntry | readLane | readVehicle | readVehicleNext | readAccount
    | readAccountNext | readTariffRow | readTariffRowNext | readTables | readVisit | readVisitByVehicle | readVisitNext
    | readTickets | readRecords =>
    exact h.read (by simp [readers]) hs he

/-- Every step keeps the property. -/
theorem step (hs : P s) (he : step s = .next t) : P t := by
  unfold Machine.step at he
  split at he
  · exact h.exec (h.pending hs) he
  · cases he
    unfold idle
    split
    · rename_i powered
      exact h.idleTick powered hs
    · exact hs

end ExecOps
end Sys2Proof.Machine

namespace Sys2Proof.Machine

/-! ### What the law of the working zero reads -/

/-- A session with the time of its step put away. -/
def Session.still (x : Session) : Session := { x with step := x.step.map (fun r => { r with timer := 0 }) }

/-- The writes of a commit, in flight or asked for. -/
def commitWrites (s : State) : List StoreWrite :=
  (s.cal.store.inFlight.toList ++ s.cal.store.asked).filter StoreWrite.ofCommit

theorem source_eq (s : State) (b : BridgeId) : source s b =
    if s.cal.session.any (fun x => x.bridge == b) then s.cal.session.map (·.work)
    else if (s.cal.store.records[b]).valid then some (s.cal.store.records[b]).content.data else none := by
  unfold source
  rcases s.cal.session with _ | x
  · rfl
  · by_cases hb : x.bridge = b <;> simp [hb]

theorem session_any_still (o : Option Session) (p : Session → Bool) (hp : ∀ x : Session, p x.still = p x) :
    (o.map Session.still).any p = o.any p := by
  cases o <;> simp [hp]

theorem source_of_still {s t : State} (hr : t.cal.store.records = s.cal.store.records)
    (hx : t.cal.session.map Session.still = s.cal.session.map Session.still) (b : BridgeId) : source t b = source s b := by
  have hany : ∀ p : Session → Bool, (∀ x : Session, p x.still = p x) → t.cal.session.any p = s.cal.session.any p := by
    intro p hp
    rw [← session_any_still _ p hp, hx, session_any_still _ p hp]
  have hwork : t.cal.session.map (·.work) = s.cal.session.map (·.work) := by
    have := congrArg (Option.map Session.work) hx
    simpa [Option.map_map, Function.comp_def, Session.still] using this
  rw [source_eq, source_eq, hany _ (fun _ => rfl), hwork, hr]

theorem sessionCommits_of_still {s t : State} (hx : t.cal.session.map Session.still = s.cal.session.map Session.still)
    (b : BridgeId) (d : CalData) : sessionCommits t b d = sessionCommits s b d := by
  have hp : ∀ x : Session, (x.still.bridge == b && x.still.commit.isSome && x.still.step.isNone && x.still.work == d)
      = (x.bridge == b && x.commit.isSome && x.step.isNone && x.work == d) := by
    intro x
    simp [Session.still]
  unfold sessionCommits
  rw [← session_any_still _ _ hp, hx, session_any_still _ _ hp]

/-- The law, with its clauses on the writes read on the writes of a commit alone. -/
theorem zeroLaw_iff (s : State) : ZeroLaw s ↔ (s.powered = true →
    (∀ b : BridgeId, ∀ z ∈ (s.engine[b]).zero, ∃ d ∈ source s b, z.within d)
    ∧ (∀ x ∈ s.cal.session, counterWriting s x.bridge = false →
        ∀ z ∈ x.savedZero, (s.cal.store.records[x.bridge]).valid = true
          ∧ z.within (s.cal.store.records[x.bridge]).content.data)
    ∧ (∀ w ∈ commitWrites s, w.backed s = true)
    ∧ (commitWrites s).length ≤ 1
    ∧ (∀ b : BridgeId, (s.cal.store.records[b]).valid = true →
        (s.cal.store.records[b]).check = crc16 (CalRecord.bytes (s.cal.store.records[b]).content))) := by
  have hbacked : ∀ l : List StoreWrite, (∀ w ∈ l, w.backed s = true)
      ↔ ∀ w ∈ l.filter StoreWrite.ofCommit, w.backed s = true := by
    intro l
    refine ⟨fun h w hw => h w (List.mem_of_mem_filter hw), fun h w hw => ?_⟩
    by_cases hc : w.ofCommit = true
    · exact h w (List.mem_filter.2 ⟨hw, hc⟩)
    · cases w <;> first | exact absurd rfl hc | rfl
  unfold ZeroLaw commitWrites
  rw [hbacked, List.countP_eq_length_filter]

/-! ### Operations that leave what the law reads -/

/-- All that the law of the working zero reads is as it was; a counter write in flight still is. -/
structure ZeroKept (s t : State) : Prop where
  powered : t.powered = s.powered
  zero : ∀ b : BridgeId, (t.engine[b]).zero = (s.engine[b]).zero
  records : t.cal.store.records = s.cal.store.records
  session : t.cal.session.map Session.still = s.cal.session.map Session.still
  writes : commitWrites t = commitWrites s
  counter : ∀ b, counterWriting s b = true → counterWriting t b = true

theorem ZeroKept.refl (s : State) : ZeroKept s s := ⟨rfl, fun _ => rfl, rfl, rfl, rfl, fun _ => id⟩

theorem ZeroKept.trans {s t u : State} (h : ZeroKept s t) (k : ZeroKept t u) : ZeroKept s u where
  powered := k.powered.trans h.powered
  zero b := (k.zero b).trans (h.zero b)
  records := k.records.trans h.records
  session := k.session.trans h.session
  writes := k.writes.trans h.writes
  counter b hb := k.counter b (h.counter b hb)

theorem ZeroKept.law {s t : State} (k : ZeroKept s t) (h : ZeroLaw s) : ZeroLaw t := by
  rw [zeroLaw_iff] at h ⊢
  intro hp
  obtain ⟨hzero, hsaved, hbacked, hone, hcheck⟩ := h (k.powered ▸ hp)
  have hsource := source_of_still k.records k.session
  have hcommits := sessionCommits_of_still k.session
  refine ⟨fun b z hz => ?_, fun x hx hw z hz => ?_, fun w hw => ?_, ?_, fun b hb => ?_⟩
  · rw [k.zero b] at hz
    rw [hsource]
    exact hzero b z hz
  · obtain ⟨y, hy, hyx⟩ : ∃ y ∈ s.cal.session, y.still = x.still := by
      have := k.session
      rw [Option.mem_def.1 hx] at this
      simpa [Option.map_eq_some_iff] using this.symm
    have hb : y.bridge = x.bridge := show y.still.bridge = x.still.bridge by rw [hyx]
    have hz' : y.savedZero = x.savedZero := show y.still.savedZero = x.still.savedZero by rw [hyx]
    have := hsaved y hy (by
      rw [hb]
      by_contra hc
      rw [k.counter _ (by simpa using hc)] at hw
      exact absurd hw (by simp)) z (hz' ▸ hz)
    simp only [hb] at this
    rw [k.records]
    exact this
  · have := hbacked w (k.writes ▸ hw)
    cases w <;> simp only [StoreWrite.backed, hcommits, k.records] at this ⊢ <;> exact this
  · rw [k.writes]
    exact hone
  · rw [k.records] at hb ⊢
    exact hcheck b hb

theorem ZeroKept.of_eq {s t : State} (hp : t.powered = s.powered) (he : t.engine = s.engine) (hc : t.cal = s.cal) :
    ZeroKept s t :=
  ⟨hp, fun b => by rw [he], by rw [hc], by rw [hc], by unfold commitWrites; rw [hc],
    fun b hb => by unfold counterWriting at hb ⊢; rw [hc]; exact hb⟩

theorem ZeroKept.offered {s t : State} (k : OfferFrame s t) : ZeroKept s t := .of_eq k.powered k.engine k.cal

theorem ZeroKept.recorded {s t : State} (k : RecordFrame s t) : ZeroKept s t := by
  refine .of_eq ?_ ?_ ?_ <;> rw [k.rest]

theorem ZeroKept.modEngine {b f} (s : State) (hf : (f (s.engine[b])).zero = (s.engine[b]).zero) :
    ZeroKept s (modEngine b f s) := by
  refine ⟨rfl, fun k => ?_, rfl, rfl, rfl, fun _ => id⟩
  simp only [Fin.getElem_fin, modEngine_engine, getElem_alter]
  split
  · rename_i hk
    subst hk
    exact hf
  · rfl

/-- A write of a ticket number joins the writes: those of a commit are as they were. -/
theorem ZeroKept.modStore_joins {s : State} {f : Store → Store} (hr : (f s.cal.store).records = s.cal.store.records)
    (hw : commitWrites (modStore f s) = commitWrites s)
    (hc : ∀ b, counterWriting s b = true → counterWriting (modStore f s) b = true) : ZeroKept s (modStore f s) :=
  ⟨rfl, fun _ => rfl, hr, rfl, hw, hc⟩

theorem counterWriting_false {s : State} (h : s.cal.store.inFlight = none) (b : BridgeId) : counterWriting s b = false := by
  unfold counterWriting
  rw [h]

theorem ZeroKept.asked {s : State} {w : StoreWrite} (hw : w.ofCommit = false) :
    ZeroKept s (modStore (fun st => { st with asked := st.asked ++ [w] }) s) :=
  .modStore_joins rfl (by simp [commitWrites, hw]) (fun _ => id)

theorem ZeroKept.begun {s : State} {w : StoreWrite} (hw : w.ofCommit = false) (h : s.cal.store.inFlight = none) :
    ZeroKept s (modStore (fun st => { st with inFlight := some w }) s) :=
  .modStore_joins rfl (by simp [commitWrites, h, hw]) (fun b hb => by rw [counterWriting_false h] at hb; cases hb)

theorem ZeroKept.askWriteBehindReset (s : State) {w : StoreWrite} (hw : w.ofCommit = false) :
    ZeroKept s (askWriteBehindReset w s) := by
  rcases askWriteBehindReset_cases w s with ⟨-, h, hq⟩ | ⟨-, hq⟩ <;> rw [hq]
  · exact .begun hw h
  · exact .asked hw

theorem ZeroKept.askWrite (s : State) {w : StoreWrite} (hw : w.ofCommit = false) : ZeroKept s (askWrite w s) := by
  by_cases h : s.cal.store.inFlight = none
  · rw [askWrite_idle w h]
    exact .begun hw h
  · rw [askWrite_busy w h]
    exact .asked hw

/-- At the end of a write the writes asked for stay in their order, the oldest in flight or none. -/
theorem writeEnds_eq (s : State) : ∃ w asked, w.toList ++ asked = s.cal.store.asked
    ∧ writeEnds s = modStore (fun st => { st with inFlight := w, asked := asked }) s := by
  unfold writeEnds nextWrite
  split
  · exact ⟨none, s.cal.store.asked, rfl, rfl⟩
  · rcases ha : s.cal.store.asked with _ | ⟨w, rest⟩
    · exact ⟨none, [], rfl, by simp only [modStore, ha]⟩
    · exact ⟨some w, rest, rfl, by simp only [modStore, ha]⟩

theorem commitWrites_writeEnds (s : State) : commitWrites (writeEnds s) = s.cal.store.asked.filter StoreWrite.ofCommit := by
  obtain ⟨w, asked, hl, he⟩ := writeEnds_eq s
  rw [he, ← hl]
  rfl

/-- The end of a ticket number's write, whatever it wrote, leaves the writes of a commit. -/
theorem ZeroKept.writeEnds {s : State} {w : StoreWrite} (h : s.cal.store.inFlight = some w) (hw : w.ofCommit = false)
    (i : StoreItem Nat) : ZeroKept s (writeEnds (modStore (fun st => { st with ticket := i }) s)) := by
  have hno : ∀ b, counterWriting s b ≠ true := by
    intro b hb
    unfold counterWriting at hb
    rw [h] at hb
    cases w <;> simp_all [StoreWrite.ofCommit]
  have hlist : commitWrites s = s.cal.store.asked.filter StoreWrite.ofCommit := by simp [commitWrites, h, hw]
  have hwrites := commitWrites_writeEnds (modStore (fun st => { st with ticket := i }) s)
  obtain ⟨v, asked, -, he⟩ := writeEnds_eq (modStore (fun st => { st with ticket := i }) s)
  rw [he] at hwrites ⊢
  exact ⟨rfl, fun _ => rfl, rfl, rfl, hwrites.trans hlist.symm, fun b hb => absurd hb (hno b)⟩

/-! ### The closure -/

/-- What is kept as long as some frame holds is kept by every operation whose frame it is. -/
theorem PartOps.ofFrame {K : State → State → Prop} {I : State → Prop} (hrefl : ∀ s, K s s)
    (hK : ∀ {s t}, K s t → I s → I t) (h : ∀ s, PartOps (K s)) : PartOps I where
  capture hf hs := hK ((h _).capture hf (hrefl _)) hs
  lane hf hs := hK ((h _).lane hf (hrefl _)) hs
  station hs := hK ((h _).station (hrefl _)) hs
  bridge hs := hK ((h _).bridge (hrefl _)) hs
  offer hf hs := hK ((h _).offer hf (hrefl _)) hs
  record hs := hK ((h _).record (hrefl _)) hs
  account hs := hK ((h _).account (hrefl _)) hs
  refBank hs := hK ((h _).refBank (hrefl _)) hs
  unrefBank hs := hK ((h _).unrefBank (hrefl _)) hs
  visit hf hs := hK ((h _).visit hf (hrefl _)) hs
  removeVisit hs := hK ((h _).removeVisit (hrefl _)) hs
  nextVisit hs := hK ((h _).nextVisit (hrefl _)) hs
  visitOpens room hs := hK ((h _).visitOpens room (hrefl _)) hs
  takeClaims hs := hK ((h _).takeClaims (hrefl _)) hs
  releaseClaims hs := hK ((h _).releaseClaims (hrefl _)) hs
  spendClaim hs := hK ((h _).spendClaim (hrefl _)) hs
  printer hf hs := hK ((h _).printer hf (hrefl _)) hs
  ticketJoins room hs := hK ((h _).ticketJoins room (hrefl _)) hs
  tickets hf hs := hK ((h _).tickets hf (hrefl _)) hs
  ticketWrite hs := hK ((h _).ticketWrite (hrefl _)) hs
  status hs := hK ((h _).status (hrefl _)) hs
  judge hs := hK ((h _).judge (hrefl _)) hs
  samples hf hs := hK ((h _).samples hf (hrefl _)) hs
  planNode hs := hK ((h _).planNode (hrefl _)) hs
  role hs := hK ((h _).role (hrefl _)) hs
  ready hs := hK ((h _).ready (hrefl _)) hs
  passLeaves hl hs := hK ((h _).passLeaves hl (hrefl _)) hs
  node hs := hK ((h _).node (hrefl _)) hs
  queue hf hs := hK ((h _).queue hf (hrefl _)) hs
  reports hf hs := hK ((h _).reports hf (hrefl _)) hs
  reportJoins room hs := hK ((h _).reportJoins room (hrefl _)) hs
  scan hs := hK ((h _).scan (hrefl _)) hs
  enumeration hs := hK ((h _).enumeration (hrefl _)) hs
  sendBus hs := hK ((h _).sendBus (hrefl _)) hs

theorem takeClaims_frame (k : Nat) (s : State) : RecordFrame s (takeClaims k s) := by
  unfold takeClaims
  split
  · exact ⟨rfl, rfl⟩
  · exact RecordFrame.refl s

theorem spendClaim_frame (body : RecordBody) (s : State) : RecordFrame s (spendClaim body s) := by
  by_cases h : 1 ≤ s.port.claims
  · exact (spendClaim_spec body s h).1
  · unfold spendClaim
    rw [if_neg h]
    exact (queueRecord_spec body s).1

theorem judge_kept (b : BridgeId) (s : State) : ZeroKept s (judge b s) := by
  unfold judge
  split
  · exact ⟨rfl, fun _ => rfl, rfl, rfl, rfl, fun _ => id⟩
  · exact .refl s

/-- The work of lanes, visits, tickets, the bus controller, the plan and the bridges' states leaves the working zeros and the
calibration unit's sessions, records and commits. -/
theorem zeroKept_partOps (s : State) : PartOps (ZeroKept s) where
  capture hf hs := hs.trans (.modEngine _ (by rw [hf]))
  lane _ hs := hs.trans (.of_eq rfl rfl rfl)
  station hs := hs.trans (.of_eq rfl rfl rfl)
  bridge hs := hs.trans (.of_eq rfl rfl rfl)
  offer _ hs := hs.trans (.offered (offer_frame _ _ _ _))
  record hs := hs.trans (.recorded (queueRecord_spec _ _).1)
  account hs := hs.trans (.of_eq rfl rfl rfl)
  refBank hs := hs.trans (.of_eq rfl rfl rfl)
  unrefBank hs := hs.trans (.of_eq rfl rfl rfl)
  visit _ hs := hs.trans (.of_eq rfl rfl rfl)
  removeVisit hs := hs.trans (.of_eq rfl rfl rfl)
  nextVisit hs := hs.trans (.of_eq rfl rfl rfl)
  visitOpens _ hs := hs.trans (.of_eq rfl rfl rfl)
  takeClaims hs := hs.trans (.recorded (takeClaims_frame _ _))
  releaseClaims hs := hs.trans (.of_eq rfl rfl rfl)
  spendClaim hs := hs.trans (.recorded (spendClaim_frame _ _))
  printer _ hs := hs.trans (.of_eq rfl rfl rfl)
  ticketJoins _ hs := hs.trans (.of_eq rfl rfl rfl)
  tickets _ hs := hs.trans (.of_eq rfl rfl rfl)
  ticketWrite hs := hs.trans (.askWriteBehindReset _ rfl)
  status hs := hs.trans (.modEngine _ rfl)
  judge hs := hs.trans (judge_kept _ _)
  samples hf hs := hs.trans (.modEngine _ (by rw [hf]))
  planNode hs := hs.trans (.of_eq rfl rfl rfl)
  role hs := hs.trans (.of_eq rfl rfl rfl)
  ready hs := hs.trans (.offered (makeReady_frame _ _))
  passLeaves _ hs := hs.trans (.of_eq rfl rfl rfl)
  node hs := hs.trans (.of_eq rfl rfl rfl)
  queue _ hs := hs.trans (.of_eq rfl rfl rfl)
  reports _ hs := hs.trans (.of_eq rfl rfl rfl)
  reportJoins _ hs := hs.trans (.of_eq rfl rfl rfl)
  scan hs := hs.trans (.of_eq rfl rfl rfl)
  enumeration hs := hs.trans (.of_eq rfl rfl rfl)
  sendBus hs := hs.trans (.of_eq rfl rfl rfl)

theorem zeroLaw_partOps : PartOps ZeroLaw := .ofFrame ZeroKept.refl ZeroKept.law zeroKept_partOps

end Sys2Proof.Machine

namespace Sys2Proof.Machine

/-! ### Changes of a zero -/

theorem Zero.within_self (w : Int) (d : CalData) (h : |w - d.zCal| ≤ (d.max : Int)) : Zero.within ⟨w, w⟩ d :=
  ⟨by simp, h⟩

/-- A zero that keeps the bounds against the source may replace the one that stands. -/
theorem ZeroLaw.modEngine {s : State} (h : ZeroLaw s) {b : BridgeId} {f : Engine → Engine}
    (hf : s.powered = true → ∀ z ∈ (f (s.engine[b])).zero, ∃ d ∈ source s b, z.within d) :
    ZeroLaw (modEngine b f s) := by
  intro hp
  obtain ⟨hzero, hrest⟩ := h hp
  refine ⟨fun k z hz => ?_, hrest⟩
  simp only [Fin.getElem_fin, modEngine_engine, getElem_alter] at hz
  split at hz
  · rename_i hk
    subst hk
    exact hf hp z hz
  · exact hzero k z hz

theorem ZeroLaw.settings {s : State} (h : ZeroLaw s) {b : BridgeId} {f : Engine → Engine}
    (hf : (f (s.engine[b])).zero = (s.engine[b]).zero) : ZeroLaw (Machine.modEngine b f s) :=
  (ZeroKept.modEngine s hf).law h

/-- The initial zero is tried against the source (R14). -/
theorem ZeroLaw.establishZero {s : State} (h : ZeroLaw s) {b : BridgeId} {d : CalData} (hd : source s b = some d) :
    ZeroLaw (establishZero b d s) := by
  unfold Machine.establishZero
  dsimp only
  split
  · split
    · rename_i near
      exact h.modEngine (fun _ z hz => ⟨d, hd, by cases hz; exact Zero.within_self _ d near⟩)
    · split
      · exact h
      · exact zeroLaw_partOps.record (h.settings rfl)
  · split
    · exact h
    · exact h.settings rfl

theorem ZeroLaw.validSample {s : State} (h : ZeroLaw s) {b : BridgeId} {d : CalData} (hd : source s b = some d) :
    ZeroLaw (validSample b d s) := by
  unfold Machine.validSample
  extract_lets e w over_ under s1 s2
  have h1 : ZeroLaw s1 := h.settings rfl
  have h2 : ZeroLaw s2 := h1.establishZero (d := d) hd
  exact zeroLaw_partOps.deriveBridge (h2.settings rfl)

theorem ZeroLaw.trackExpiry {s : State} (h : ZeroLaw s) {b : BridgeId} : ZeroLaw (trackExpiry b s) := by
  unfold Machine.trackExpiry
  extract_lets t e
  have ht : ZeroLaw t := h.settings rfl
  clear_value t
  split
  · rename_i z wAvg d hz _ hd
    split
    · extract_lets step
      split
      · exact ht
      · split
        · rename_i bound
          refine ht.modEngine (fun hp y hy => ⟨d, hd, ?_⟩)
          obtain ⟨d', hd', -, anchor⟩ := (ht hp).1 b z hz
          cases hd.symm.trans hd'
          cases hy
          exact ⟨bound, anchor⟩
        · split
          · exact ht
          · exact zeroLaw_partOps.record (ht.settings rfl)
    · exact ht
  · exact ht

theorem ZeroLaw.zeroBridge {s : State} (h : ZeroLaw s) {tag vs} : ZeroLaw (zeroBridge tag vs s).1 := by
  unfold Machine.zeroBridge
  split
  · split
    · exact h
    · rename_i b _
      extract_lets e
      split
      · exact h
      · split
        · exact h
        · rename_i z hz
          split_ifs
          · exact h
          · exact h
          · exact h
          · split
            · rename_i wAvg d _ hd
              split
              · exact h
              · rename_i bound
                refine h.modEngine (fun hp y hy => ⟨d, hd, ?_⟩)
                obtain ⟨d', hd', -, anchor⟩ := (h hp).1 b z hz
                cases hd.symm.trans hd'
                cases hy
                exact ⟨not_lt.1 bound, anchor⟩
            · exact h
  · exact h

/-! ### Sessions -/

/-- The session has no commit that could be written: none taken, or a step in progress. -/
def Session.uncommitted (x : Session) : Prop := x.commit = none ∨ x.step ≠ none

theorem sessionCommits_iff (s : State) (b : BridgeId) (d : CalData) : sessionCommits s b d = true ↔
    ∃ x, s.cal.session = some x ∧ x.bridge = b ∧ x.commit ≠ none ∧ x.step = none ∧ x.work = d := by
  unfold sessionCommits
  rcases s.cal.session with _ | x
  · simp
  · simp [and_assoc, Option.isSome_iff_ne_none]

theorem backed_commits {s : State} {w : StoreWrite} (hc : w.ofCommit = true) (h : w.backed s = true) :
    ∃ b d, sessionCommits s b d = true := by
  cases w <;> simp only [StoreWrite.ofCommit, Bool.false_eq_true] at hc
  · exact ⟨_, _, h⟩
  · exact ⟨_, _, (Bool.and_eq_true _ _ ▸ h : _ ∧ _).2⟩

/-- Without a session that has taken a commit, no write of a commit is in flight or asked for. -/
theorem ZeroLaw.commitWrites_nil {s : State} (h : ZeroLaw s) (hp : s.powered = true)
    (hx : ∀ x, s.cal.session = some x → x.uncommitted) : commitWrites s = [] := by
  obtain ⟨-, -, hbacked, -⟩ := (zeroLaw_iff s).1 h hp
  refine List.eq_nil_iff_forall_not_mem.2 (fun w hw => ?_)
  obtain ⟨b, d, hs⟩ := backed_commits (List.mem_filter.1 hw).2 (hbacked w hw)
  obtain ⟨x, hsx, -, hcommit, hstep, -⟩ := (sessionCommits_iff s b d).1 hs
  rcases hx x hsx with h0 | h0
  · exact hcommit h0
  · exact h0 hstep

theorem source_session {s : State} {x : Session} (hx : s.cal.session = some x) : source s x.bridge = some x.work := by
  simp [source_eq, hx]

theorem source_other {s : State} {b : BridgeId} (hx : ∀ x, s.cal.session = some x → x.bridge ≠ b) : source s b =
    if (s.cal.store.records[b]).valid then some (s.cal.store.records[b]).content.data else none := by
  rw [source_eq, if_neg]
  intro hany
  rw [Option.any_eq_true] at hany
  obtain ⟨x, hsx, hb⟩ := hany
  exact hx x hsx (by simpa using hb)

theorem source_sessionless {s : State} (hx : s.cal.session = none) (b : BridgeId) : source s b =
    if (s.cal.store.records[b]).valid then some (s.cal.store.records[b]).content.data else none :=
  source_other (fun _ h => absurd (hx.symm.trans h) nofun)

theorem source_record {s : State} {b : BridgeId} {d : CalData} (hx : ∀ x, s.cal.session = some x → x.bridge ≠ b)
    (hd : source s b = some d) :
    (s.cal.store.records[b]).valid = true ∧ (s.cal.store.records[b]).content.data = d := by
  rw [source_other hx] at hd
  split at hd
  · rename_i hv
    exact ⟨hv, Option.some.inj hd⟩
  · cases hd

/-- The session that is open, with no commit to be written, may be changed, with its bridge's zero against the new copy. -/
theorem ZeroLaw.changeSession {s t : State} (h : ZeroLaw s) {x y : Session} (hx : s.cal.session = some x)
    (idle : x.uncommitted) (hp : t.powered = s.powered) (hstore : t.cal.store = s.cal.store)
    (hy : t.cal.session = some y) (hb : y.bridge = x.bridge) (hsaved : y.savedZero = x.savedZero)
    (hother : ∀ b : BridgeId, b ≠ x.bridge → (t.engine[b]).zero = (s.engine[b]).zero)
    (hzero : s.powered = true → ∀ z ∈ (t.engine[x.bridge]).zero, z.within y.work) : ZeroLaw t := by
  rw [zeroLaw_iff]
  intro ht
  have hs : s.powered = true := hp ▸ ht
  have hnil : commitWrites t = [] := by
    have := h.commitWrites_nil hs (fun x' hx' => by cases hx.symm.trans hx'; exact idle)
    unfold commitWrites at this ⊢
    rw [hstore]
    exact this
  obtain ⟨hz, hsv, -, -, hcheck⟩ := h hs
  refine ⟨fun b z hbz => ?_, fun y' hy' hw z hz' => ?_, by simp [hnil], by simp [hnil], fun b hv => ?_⟩
  · by_cases hbx : b = x.bridge
    · subst hbx
      exact ⟨y.work, hb ▸ source_session hy, hzero hs z hbz⟩
    · rw [hother b hbx] at hbz
      obtain ⟨d, hd, hin⟩ := hz b z hbz
      have hd' := source_record (fun x' hx' => by cases hx.symm.trans hx'; exact Ne.symm hbx) hd
      refine ⟨d, ?_, hin⟩
      rw [Option.mem_def, source_other (fun y' hy' => by cases hy.symm.trans hy'; exact hb ▸ Ne.symm hbx), hstore,
        if_pos hd'.1, hd'.2]
  · cases hy.symm.trans hy'
    have hw' : counterWriting s x.bridge = false := by
      unfold counterWriting at hw ⊢
      rw [← hb, ← hstore]
      exact hw
    have := hsv x hx hw' z (hsaved ▸ hz')
    simp only [hb, hstore]
    exact this
  · rw [hstore] at hv ⊢
    exact hcheck b hv

theorem modSession_some {s : State} {x : Session} (hx : s.cal.session = some x) (f : Session → Session) :
    modSession f s = modCal (fun c => { c with session := some (f x) }) s := by
  simp only [modSession, modCal, hx, Option.map_some]

theorem modSession_none {s : State} (hx : s.cal.session = none) (f : Session → Session) : modSession f s = s := by
  simp only [modSession, modCal, hx, Option.map_none]
  rw [← hx]

/-- A change of the session that leaves its bridge, its working copy's zero and capacity and its saved zero. -/
theorem ZeroLaw.modSession {s : State} (h : ZeroLaw s) {f : Session → Session}
    (idle : ∀ x, s.cal.session = some x → x.uncommitted)
    (hf : ∀ x, (f x).bridge = x.bridge ∧ (f x).savedZero = x.savedZero ∧ (f x).work.max = x.work.max
      ∧ (f x).work.zCal = x.work.zCal) : ZeroLaw (modSession f s) := by
  rcases hx : s.cal.session with _ | x
  · rw [modSession_none hx]
    exact h
  · rw [modSession_some hx]
    obtain ⟨hb, hsaved, hmax, hcal⟩ := hf x
    refine h.changeSession hx (idle x hx) rfl rfl rfl hb hsaved (fun _ _ => rfl) (fun hp z hz => ?_)
    obtain ⟨d, hd, hin⟩ := (h hp).1 x.bridge z hz
    rw [source_session hx] at hd
    cases hd
    unfold Zero.within at hin ⊢
    rw [hmax, hcal]
    exact hin

theorem ZeroLaw.endStep {s : State} (h : ZeroLaw s) {r} : ZeroLaw (endStep r s) := by
  unfold Machine.endStep
  split
  · rename_i run hrun
    refine zeroLaw_partOps.answer (h.modSession (fun x hx => .inr ?_) (fun _ => ⟨rfl, rfl, rfl, rfl⟩))
    rw [hx] at hrun
    simp only [Option.bind_some] at hrun
    simp [hrun]
  · exact h

theorem sessionOf_eq {s : State} {b : BridgeId} {x : Session} (h : sessionOf s b = some x) :
    s.cal.session = some x ∧ x.bridge = b := by
  unfold sessionOf at h
  split at h
  · rename_i y hy
    split at h
    · cases h
      exact ⟨hy, ‹_›⟩
    · cases h
  · cases h

theorem freeSession_eq {s : State} {b : BridgeId} {x : Session} (h : freeSession s b = some x) :
    s.cal.session = some x ∧ x.bridge = b ∧ x.step = none ∧ x.commit = none := by
  unfold freeSession at h
  split at h
  · rename_i y hy
    split at h
    · rename_i free
      cases h
      obtain ⟨hx, hb⟩ := sessionOf_eq hy
      simpa [hx, hb, Session.free] using free
    · cases h
  · cases h

/-- The zero bound test leaves no zero out of bounds against the copy it tests (R42). -/
theorem zeroBoundTest_within {b : BridgeId} {d : CalData} {s : State} {z : Zero}
    (hz : z ∈ ((zeroBoundTest b d s).engine[b]).zero) : z.within d := by
  simp only [zeroBoundTest, Fin.getElem_fin, modEngine_engine, getElem_alter_self] at hz
  split at hz
  · rename_i y hy
    split at hz
    · rename_i bounds
      rw [hy] at hz
      cases hz
      exact ⟨bounds.2, bounds.1⟩
    · cases hz
  · rename_i hnone
    rw [hnone] at hz
    cases hz

theorem zeroBoundTest_other {b k : BridgeId} {d : CalData} {s : State} (h : k ≠ b) :
    (zeroBoundTest b d s).engine[k] = s.engine[k] := by
  simp only [zeroBoundTest, Fin.getElem_fin, modEngine_engine]
  rw [getElem_alter_ne _ (Ne.symm h)]

theorem ZeroLaw.calZeroDone {s : State} (h : ZeroLaw s) {x : Session} (hx : s.cal.session = some x)
    (idle : x.uncommitted) (w : Int) : ZeroLaw (calZeroDone x.bridge w s) := by
  unfold Machine.calZeroDone
  rw [modSession_some hx]
  refine h.changeSession hx idle rfl rfl rfl rfl rfl (fun b hb => ?_) (fun _ z hz => ?_)
  · simp only [Fin.getElem_fin, modEngine_engine]
    rw [getElem_alter_ne _ (Ne.symm hb)]
    rfl
  · simp only [Fin.getElem_fin, modEngine_engine, getElem_alter_self, Option.mem_def, Option.some.injEq] at hz
    subst hz
    exact Zero.within_self _ _ (by simp)

theorem ZeroLaw.calSpanDone {s : State} (h : ZeroLaw s) {x : Session} (hx : s.cal.session = some x)
    (idle : x.uncommitted) (g : Nat) : ZeroLaw (calSpanDone x.bridge g x s) := by
  unfold Machine.calSpanDone
  extract_lets scale work
  rw [modSession_some hx]
  refine h.changeSession hx idle rfl rfl rfl rfl rfl (fun b hb => ?_) (fun _ z hz => zeroBoundTest_within hz)
  rw [zeroBoundTest_other hb]
  simp only [Fin.getElem_fin, modEngine_engine]
  rw [getElem_alter_ne _ (Ne.symm hb)]
  rfl

theorem ZeroLaw.stepReading {s : State} (h : ZeroLaw s) {b : BridgeId} {w : Int} : ZeroLaw (stepReading b w s) := by
  unfold Machine.stepReading
  split
  · exact h
  · rename_i x hx
    obtain ⟨hsx, rfl⟩ := sessionOf_eq hx
    split
    · exact h
    · rename_i run hrun
      have idle : x.uncommitted := .inr (by simp [hrun])
      split
      · exact zeroLaw_partOps.deriveBridge (h.calZeroDone hsx idle w).endStep
      · unfold calCornerDone
        refine ZeroLaw.endStep (h.modSession ?_ ?_)
        · intro y hy
          cases hsx.symm.trans hy
          exact idle
        · exact fun _ => ⟨rfl, rfl, rfl, rfl⟩
      · split
        · exact h.endStep
        · exact zeroLaw_partOps.deriveBridge (h.calSpanDone hsx idle _).endStep

theorem ZeroLaw.bridgeSample {s : State} (h : ZeroLaw s) {b : BridgeId} : ZeroLaw (bridgeSample b s) := by
  unfold Machine.bridgeSample
  refine zeroLaw_partOps.sampleReport ?_
  split
  · rename_i d hd _
    have hv : ZeroLaw (Machine.validSample b d s) := h.validSample hd
    have ht : ZeroLaw (stepTest b (Machine.validSample b d s)) := by
      unfold stepTest
      dsimp only
      split
      · split
        · exact hv.stepReading
        · exact hv
      · exact hv
    unfold captureTest
    dsimp only
    split
    · split
      · exact zeroLaw_partOps.deliverCapture (ht.settings rfl)
      · exact ht
    · exact ht
  · refine h.settings ?_
    unfold Engine.invalidSample
    dsimp only
    split <;> rfl

theorem zeroLaw_cycleOps : CycleOps ZeroLaw := { zeroLaw_partOps with bridgeSample := fun h => h.bridgeSample }

/-! ### Requests of a session -/

theorem ZeroLaw.takeStep {s : State} (h : ZeroLaw s) {b step tag} : ZeroLaw (takeStep b step tag s).1 := by
  unfold Machine.takeStep
  split
  · exact h
  · rename_i x hx
    obtain ⟨hsx, -, -, hcommit⟩ := freeSession_eq hx
    refine h.modSession (fun y hy => .inl ?_) (fun _ => ⟨rfl, rfl, rfl, rfl⟩)
    cases hsx.symm.trans hy
    exact hcommit

theorem ZeroLaw.calZero {s : State} (h : ZeroLaw s) {tag vs} : ZeroLaw (calZero tag vs s).1 := by
  unfold Machine.calZero
  split
  · exact h
  · split
    · split
      · exact h
      · exact h.takeStep
    · exact h

theorem ZeroLaw.calSpan {s : State} (h : ZeroLaw s) {tag vs} : ZeroLaw (calSpan tag vs s).1 := by
  unfold Machine.calSpan
  split
  · exact h
  · split
    · split
      · exact h
      · split
        · exact h
        · exact h.takeStep
    · exact h

theorem ZeroLaw.calCorner {s : State} (h : ZeroLaw s) {tag vs} : ZeroLaw (calCorner tag vs s).1 := by
  unfold Machine.calCorner
  split
  · exact h
  · split
    · split
      · split
        · exact h
        · split
          · exact h
          · exact h.takeStep
      · exact h
    · exact h

theorem ZeroLaw.calTrim {s : State} (h : ZeroLaw s) {tag vs} : ZeroLaw (calTrim tag vs s).1 := by
  unfold Machine.calTrim
  split
  · exact h
  · split
    · split
      · exact h
      · split
        · exact h
        · rename_i x hx
          obtain ⟨hsx, -, -, hcommit⟩ := freeSession_eq hx
          dsimp only
          split_ifs
          · exact h
          · exact h
          · split
            · exact h
            · refine h.modSession (fun y hy => .inl ?_) (fun _ => ⟨rfl, rfl, rfl, rfl⟩)
              cases hsx.symm.trans hy
              exact hcommit
    · exact h

theorem ZeroLaw.calSetLimits {s : State} (h : ZeroLaw s) {tag vs} : ZeroLaw (calSetLimits tag vs s).1 := by
  unfold Machine.calSetLimits
  split
  · exact h
  · split
    · split
      · exact h
      · split
        · exact h
        · rename_i x hx
          obtain ⟨hsx, rfl, -, hcommit⟩ := freeSession_eq hx
          split
          · exact h
          · refine zeroLaw_partOps.deriveBridge ?_
            rw [modSession_some hsx]
            refine h.changeSession hsx (.inl hcommit) rfl rfl rfl rfl rfl (fun k hk => ?_)
              (fun _ z hz => zeroBoundTest_within hz)
            rw [zeroBoundTest_other hk]
            rfl
    · exact h

/-- CAL BEGIN's copy has the zero and the capacity of the VALID record. -/
theorem beginCopy_valid {i : StoreItem CalRecord} {count : Option Nat} {d : CalData} (h : beginCopy i count = some d)
    (hv : i.valid = true) : d.zCal = i.content.data.zCal ∧ d.max = i.content.data.max := by
  rcases count with _ | n <;> simp only [beginCopy, hv, Option.some.injEq] at h <;> subst h <;> exact ⟨rfl, rfl⟩

/-- A session opens with the zero of its bridge saved. -/
theorem ZeroLaw.openSession {s : State} (h : ZeroLaw s) (hnone : s.cal.session = none) {b : BridgeId} {count d x}
    (hd : beginCopy (s.cal.store.records[b]) count = some d) (hb : x.bridge = b) (hw : x.work = d)
    (hs : x.savedZero = (s.engine[b]).zero) : ZeroLaw (modCal (fun c => { c with session := some x }) s) := by
  rw [zeroLaw_iff]
  intro hp
  replace hp : s.powered = true := hp
  have hnil : commitWrites (modCal (fun c => { c with session := some x }) s) = [] :=
    h.commitWrites_nil hp (fun y hy => absurd (hnone.symm.trans hy) nofun)
  obtain ⟨hz, -, -, -, hcheck⟩ := h hp
  have hrecord : ∀ k : BridgeId, ∀ z ∈ (s.engine[k]).zero, (s.cal.store.records[k]).valid = true
      ∧ z.within (s.cal.store.records[k]).content.data := by
    intro k z hkz
    obtain ⟨e, he, hin⟩ := hz k z hkz
    obtain ⟨hv, rfl⟩ := source_record (fun y hy => absurd (hnone.symm.trans hy) nofun) he
    exact ⟨hv, hin⟩
  refine ⟨fun k z hkz => ?_, fun y hy _ z hyz => ?_, by simp [hnil], by simp [hnil], hcheck⟩
  · obtain ⟨hv, hin⟩ := hrecord k z hkz
    by_cases hk : x.bridge = k
    · subst hk
      refine ⟨x.work, source_session rfl, ?_⟩
      subst hw hb
      obtain ⟨hcal, hmax⟩ := beginCopy_valid hd hv
      unfold Zero.within at hin ⊢
      rw [hcal, hmax]
      exact hin
    · refine ⟨_, ?_, hin⟩
      rw [Option.mem_def, source_other (fun y hy => by cases hy; exact hk)]
      exact if_pos hv
  · cases hy
    subst hb
    exact hrecord _ z (hs ▸ hyz)

theorem ZeroLaw.calBegin {s : State} (h : ZeroLaw s) {tag vs} : ZeroLaw (calBegin tag vs s).1 := by
  unfold Machine.calBegin
  split
  · exact h
  · split
    · extract_lets count
      clear_value count
      split
      · exact h
      · rename_i b _
        split_ifs with _ hopen
        · exact h
        · exact h
        · exact h
        · exact h
        · split <;> exact h
        · split
          · exact h
          · rename_i d hd
            have hk := ZeroKept.recorded (takeClaims_frame 1 s)
            have hc : (takeClaims 1 s).cal = s.cal := by rw [(takeClaims_frame 1 s).rest]
            have he : (takeClaims 1 s).engine = s.engine := by rw [(takeClaims_frame 1 s).rest]
            refine zeroLaw_partOps.deriveBridge (ZeroLaw.openSession (hk.law h) ?_ (count := count) (d := d) ?_ rfl rfl ?_)
            · rw [hc]
              simpa using hopen
            · rw [hc]
              exact hd
            · rw [he]
    · exact h

theorem withSerials_zCal (s : State) (b : BridgeId) (d : CalData) : (withSerials s b d).zCal = d.zCal := rfl

theorem withSerials_max (s : State) (b : BridgeId) (d : CalData) : (withSerials s b d).max = d.max := rfl

/-- The record write of a commit is asked for by the session that has just taken the commit. -/
theorem ZeroLaw.askRecord {s : State} (h : ZeroLaw s) {x : Session} {r : CalRecord} (hx : s.cal.session = some x)
    (hstep : x.step = none) (hcommit : x.commit ≠ none) (hwork : x.work = r.data) (hnil : commitWrites s = []) :
    ZeroLaw (askWrite (.record x.bridge r) s) := by
  have hback : sessionCommits s x.bridge r.data = true :=
    (sessionCommits_iff s _ _).2 ⟨x, hx, rfl, hcommit, hstep, hwork⟩
  have key : ∀ f : Store → Store, (f s.cal.store).records = s.cal.store.records →
      commitWrites (modStore f s) = [.record x.bridge r] →
      (∀ b, counterWriting s b = true → counterWriting (modStore f s) b = true) → ZeroLaw (modStore f s) := by
    intro f hr hw hc
    rw [zeroLaw_iff]
    intro hp
    obtain ⟨hz, hsv, -, -, hcheck⟩ := h hp
    refine ⟨fun b z hbz => ?_, fun y hy hcw z hyz => ?_, fun w hmem => ?_, by simp [hw], fun b hv => ?_⟩
    · rw [source_of_still (s := s) (t := modStore f s) hr rfl]
      exact hz b z hbz
    · have hcw' : counterWriting s y.bridge = false := by
        by_contra hne
        rw [hc _ (by simpa using hne)] at hcw
        cases hcw
      have := hsv y hy hcw' z hyz
      simpa only [modStore_cal, hr] using this
    · rw [hw, List.mem_singleton] at hmem
      subst hmem
      exact hback
    · simp only [modStore_cal, hr] at hv ⊢
      exact hcheck b hv
  have hasked : ∀ l : List StoreWrite, commitWrites s = l.filter StoreWrite.ofCommit → l.filter StoreWrite.ofCommit = [] :=
    fun l hl => hl ▸ hnil
  by_cases hf : s.cal.store.inFlight = none
  · rw [askWrite_idle _ hf]
    refine key _ rfl ?_ (fun b hb => by rw [counterWriting_false hf] at hb; cases hb)
    have := hasked s.cal.store.asked (by simp [commitWrites, hf])
    show List.filter StoreWrite.ofCommit (.record x.bridge r :: s.cal.store.asked) = _
    rw [List.filter_cons_of_pos rfl, this]
  · rw [askWrite_busy _ hf]
    refine key _ rfl ?_ (fun _ => id)
    unfold commitWrites at hnil ⊢
    rw [List.filter_append] at hnil
    simp only [modStore_cal, List.filter_append, (List.append_eq_nil_iff.1 hnil).1, (List.append_eq_nil_iff.1 hnil).2]
    rfl

theorem ZeroLaw.calCommit {s : State} (h : ZeroLaw s) {tag vs} : ZeroLaw (calCommit tag vs s).1 := by
  unfold Machine.calCommit
  split
  · exact h
  · split
    · split
      · exact h
      · split
        · exact h
        · rename_i x hx
          obtain ⟨hsx, rfl, hstep, hcommit⟩ := freeSession_eq hx
          split_ifs
          · exact h
          · exact h
          · extract_lets work r
            have idle : ∀ y, s.cal.session = some y → y.uncommitted := by
              intro y hy
              cases hsx.symm.trans hy
              exact .inl hcommit
            rw [modSession_some hsx]
            by_cases hp : s.powered = true
            · have hc : ZeroLaw (modCal (fun c => { c with session := some { x with work := work, commit := some tag } }) s) := by
                refine h.changeSession hsx (.inl hcommit) rfl rfl rfl rfl rfl (fun _ _ => rfl) (fun hp z hz => ?_)
                obtain ⟨d, hd, hin⟩ := (h hp).1 x.bridge z hz
                rw [source_session hsx] at hd
                cases hd
                exact hin
              exact hc.askRecord (x := { x with work := work, commit := some tag }) rfl hstep nofun rfl
                (h.commitWrites_nil hp idle)
            · intro hp'
              exact absurd hp' hp
    · exact h

/-- A session is dropped with its saved zero put back, before a commit of it is written (R45). -/
theorem ZeroLaw.dropSession {s : State} (h : ZeroLaw s) {x : Session} (hx : s.cal.session = some x)
    (hw : commitWriting s = false) : ZeroLaw (dropSession x s) := by
  rw [zeroLaw_iff]
  intro hp
  replace hp : s.powered = true := hp
  obtain ⟨hz, hsv, -, -, hcheck⟩ := h hp
  have hnil : commitWrites (Machine.dropSession x s) = [] := by
    have hfl : (s.cal.store.inFlight.toList).filter StoreWrite.ofCommit = [] := by
      unfold commitWriting at hw
      rcases hf : s.cal.store.inFlight with _ | w
      · rfl
      · rw [hf] at hw
        cases w <;> simp_all [StoreWrite.ofCommit]
    unfold commitWrites
    rw [List.filter_append, List.append_eq_nil_iff]
    refine ⟨hfl, List.filter_eq_nil_iff.2 (fun w hmem => ?_)⟩
    simp only [Machine.dropSession, modCal_cal, modStore_cal, List.mem_filter] at hmem
    cases w <;> simp_all [StoreWrite.ofCommit]
  have hcw : counterWriting s x.bridge = false := by
    unfold counterWriting
    unfold commitWriting at hw
    split at hw <;> simp_all
  refine ⟨fun b z hbz => ?_, fun y hy => (by cases hy), by simp [hnil], by simp [hnil], hcheck⟩
  have hrecord : (s.cal.store.records[b]).valid = true ∧ z.within (s.cal.store.records[b]).content.data := by
    by_cases hb : x.bridge = b
    · subst hb
      simp only [Machine.dropSession, releaseClaims, Fin.getElem_fin, modCal_engine, modStore_engine, modPort_engine,
        modEngine_engine, getElem_alter_self] at hbz
      exact hsv x hx hcw z hbz
    · simp only [Machine.dropSession, releaseClaims, Fin.getElem_fin, modCal_engine, modStore_engine, modPort_engine,
        modEngine_engine, getElem_alter_ne _ hb] at hbz
      obtain ⟨d, hd, hin⟩ := hz b z hbz
      obtain ⟨hv, rfl⟩ := source_record (fun y hy => by cases hx.symm.trans hy; exact hb) hd
      exact ⟨hv, hin⟩
  refine ⟨_, ?_, hrecord.2⟩
  rw [Option.mem_def, source_sessionless rfl]
  exact if_pos hrecord.1

theorem endStep_session (r : Result) (s : State) :
    (endStep r s).cal.session = s.cal.session.map (fun x => { x with step := none }) := by
  have hanswer : ∀ (tag : Byte) (u : State), (answer tag r [] u).cal = u.cal := fun tag u => by
    rw [(answer_frame tag r [] u).rest]
  unfold endStep
  rcases hx : s.cal.session with _ | x
  · simp [hx]
  · rcases hs : x.step with _ | run
    · simp only [Option.bind_some, hs, hx, Option.map_some]
      rw [← hs]
    · simp only [Option.bind_some, hs, hanswer, modSession_some hx, modCal_cal, Option.map_some]

theorem endStep_store (r : Result) (s : State) : (endStep r s).cal.store = s.cal.store := by
  unfold endStep
  split
  · rw [(answer_frame _ _ _ _).rest]
    rfl
  · rfl

theorem commitWriting_of_store {s t : State} (h : t.cal.store = s.cal.store) : commitWriting t = commitWriting s := by
  unfold commitWriting
  rw [h]

/-- A step in progress is ended and the session dropped, before a commit of it is written (R45). -/
theorem ZeroLaw.endSession {s u : State} (hu : ZeroLaw u) {x : Session} {r : Result} (hx : s.cal.session = some x)
    (hw : commitWriting s = false) (hc : u.cal = (Machine.endStep r s).cal) : ZeroLaw (Machine.dropSession x u) := by
  have hx' : u.cal.session = some { x with step := none } := by rw [hc, endStep_session, hx, Option.map_some]
  have hw' : commitWriting u = false := by rw [commitWriting_of_store ((congrArg _ hc).trans (endStep_store r s)), hw]
  exact hu.dropSession (x := { x with step := none }) hx' hw'

/-- A session without a commit that could be written has no write of one in flight. -/
theorem ZeroLaw.not_writing {s : State} (h : ZeroLaw s) (hp : s.powered = true) {x : Session} (hx : s.cal.session = some x)
    (idle : x.uncommitted) : commitWriting s = false := by
  have hnil := h.commitWrites_nil hp (fun y hy => by cases hx.symm.trans hy; exact idle)
  have hno : ∀ w ∈ s.cal.store.inFlight, w.ofCommit = false := by
    intro w hw
    by_contra hc
    have hmem : w ∈ commitWrites s := List.mem_filter.2 ⟨by simp [Option.mem_def.1 hw], by simpa using hc⟩
    rw [hnil] at hmem
    cases hmem
  unfold commitWriting
  split
  · exact absurd (hno _ ‹_›) (by simp [StoreWrite.ofCommit])
  · exact absurd (hno _ ‹_›) (by simp [StoreWrite.ofCommit])
  · rfl

theorem endStep_powered (r : Result) (s : State) : (endStep r s).powered = s.powered := by
  unfold endStep
  split
  · rw [(answer_frame _ _ _ _).rest]
    rfl
  · rfl

theorem ZeroLaw.calAbort {s : State} (h : ZeroLaw s) {tag vs} : ZeroLaw (calAbort tag vs s).1 := by
  unfold Machine.calAbort
  split
  · exact h
  · split
    · split
      · exact h
      · split
        · exact h
        · rename_i x hx
          obtain ⟨hsx, rfl⟩ := sessionOf_eq hx
          split
          · exact h
          · rename_i hcommit
            refine zeroLaw_partOps.deriveBridge (zeroLaw_partOps.judge ?_)
            intro hp
            have hs : s.powered = true := (endStep_powered _ s).symm.trans hp
            exact h.endStep.endSession hsx (h.not_writing hs hsx (.inl (by simpa using hcommit))) rfl hp
    · exact h

end Sys2Proof.Machine

namespace Sys2Proof.Machine

/-! ### Lines and writes of the store -/

theorem ZeroLaw.lineAbort {s : State} (h : ZeroLaw s) : ZeroLaw (lineAbort s) := by
  unfold Machine.lineAbort
  split
  · exact h
  · rename_i x hx
    split
    · exact h
    · rename_i hw
      refine zeroLaw_partOps.deriveBridge (zeroLaw_partOps.judge (ZeroLaw.endSession (s := s) (r := .locked) ?_ hx (by simpa using hw) ?_))
      · split
        · exact zeroLaw_partOps.answer h.endStep
        · exact h.endStep
      · split
        · rw [(answer_frame _ _ _ _).rest]
        · rfl

theorem ZeroLaw.calEnable {s : State} (h : ZeroLaw s) {level : Bool} : ZeroLaw (setCalEnable level s) := by
  have ht : ZeroLaw { s with calEnable := level } := (ZeroKept.of_eq rfl rfl rfl).law h
  unfold setCalEnable
  dsimp only
  split
  · exact ht.lineAbort
  · exact ht

/-- With a write of a commit in flight none is asked for. -/
theorem commitWrites_inFlight {s : State} {w : StoreWrite} (hf : s.cal.store.inFlight = some w) (hw : w.ofCommit = true)
    (hone : (commitWrites s).length ≤ 1) :
    commitWrites s = [w] ∧ s.cal.store.asked.filter StoreWrite.ofCommit = [] := by
  have hlist : commitWrites s = w :: s.cal.store.asked.filter StoreWrite.ofCommit := by
    unfold commitWrites
    rw [hf]
    exact List.filter_cons_of_pos hw
  rw [hlist, List.length_cons] at hone
  have hrest := List.length_eq_zero_iff.1 (Nat.le_zero.1 (Nat.le_of_succ_le_succ hone))
  exact ⟨by rw [hlist, hrest], hrest⟩

/-- The record write of a commit completes: the record holds what the session's working copy holds. -/
theorem ZeroLaw.recordWritten {s : State} (h : ZeroLaw s) : ZeroLaw (recordWritten s) := by
  unfold Machine.recordWritten
  split
  · rename_i b r hf
    refine zeroLaw_partOps.deriveBridge ?_
    rw [zeroLaw_iff]
    intro hp
    obtain ⟨hz, -, hbacked, hone, hcheck⟩ := (zeroLaw_iff s).1 h hp
    obtain ⟨hlist, hrest⟩ := commitWrites_inFlight hf rfl hone
    have hback : sessionCommits s b r.data = true := hbacked (.record b r) (by simp [hlist])
    obtain ⟨x, hx, rfl, -⟩ := (sessionCommits_iff s b r.data).1 hback
    set t := modStore (fun st => { st with records := put st.records x.bridge (written CalRecord.bytes r),
                                           inFlight := some (.counter x.bridge r.audit) }) s with ht
    have hself : t.cal.store.records[x.bridge] = written CalRecord.bytes r := by
      simp [ht]
    have hother : ∀ k : BridgeId, x.bridge ≠ k → t.cal.store.records[k] = s.cal.store.records[k] := by
      intro k hk
      simp [ht, hk]
    have hsource : ∀ k, source t k = source s k := by
      intro k
      rw [source_eq, source_eq]
      by_cases hk : x.bridge = k
      · simp [ht, hx, hk]
      · rw [hother k hk]
        rfl
    have hw : commitWrites t = [.counter x.bridge r.audit] := by
      show List.filter StoreWrite.ofCommit (.counter x.bridge r.audit :: s.cal.store.asked) = _
      rw [List.filter_cons_of_pos rfl, hrest]
    refine ⟨fun k z hkz => ?_, fun y hy hcw => ?_, fun w hmem => ?_, by simp [hw], fun k hv => ?_⟩
    · rw [hsource]
      exact hz k z hkz
    · cases hx.symm.trans hy
      simp [counterWriting, ht] at hcw
    · rw [hw, List.mem_singleton] at hmem
      subst hmem
      simp only [StoreWrite.backed, hself, written, Bool.true_and]
      exact hback
    · by_cases hk : x.bridge = k
      · subst hk
        rw [hself]
        rfl
      · rw [hother k hk] at hv ⊢
        exact hcheck k hv
  · exact h

/-- A session closes once the record holds what its working copy holds, and no write of a commit is left. -/
theorem ZeroLaw.closeSession {s t : State} (h : ZeroLaw s) (hp : t.powered = s.powered)
    (hzero : ∀ b : BridgeId, (t.engine[b]).zero = (s.engine[b]).zero) (hr : t.cal.store.records = s.cal.store.records)
    (hnone : t.cal.session = none) (hw : commitWrites t = [])
    (hx : s.powered = true → ∀ x, s.cal.session = some x → (s.cal.store.records[x.bridge]).valid = true
      ∧ (s.cal.store.records[x.bridge]).content.data = x.work) : ZeroLaw t := by
  rw [zeroLaw_iff]
  intro ht
  have hs : s.powered = true := hp ▸ ht
  obtain ⟨hz, -, -, -, hcheck⟩ := h hs
  refine ⟨fun b z hbz => ?_, fun y hy => absurd (hnone.symm.trans hy) nofun, by simp [hw], by simp [hw], fun b hv => ?_⟩
  · rw [hzero] at hbz
    obtain ⟨d, hd, hin⟩ := hz b z hbz
    refine ⟨d, ?_, hin⟩
    rw [Option.mem_def, source_sessionless hnone, hr]
    by_cases hb : ∃ x, s.cal.session = some x ∧ x.bridge = b
    · obtain ⟨x, hsx, rfl⟩ := hb
      obtain ⟨hv, hwork⟩ := hx hs x hsx
      rw [if_pos hv, hwork, ← source_session hsx]
      exact hd
    · rw [← source_other (fun x hsx hxb => hb ⟨x, hsx, hxb⟩)]
      exact hd
  · rw [hr] at hv ⊢
    exact hcheck b hv

theorem ZeroLaw.counterWritten {s : State} (h : ZeroLaw s) : ZeroLaw (counterWritten s) := by
  unfold Machine.counterWritten
  split
  · rename_i b v hf
    extract_lets s1 r s2 s3 s4
    have h4 : ZeroLaw s4 := by
      intro hp
      obtain ⟨q, asked, -, he⟩ := writeEnds_eq (modStore (fun st => { st with counter := written u16 v }) s)
      have k2 : RecordFrame s1 s2 := spendClaim_frame _ _
      have k3 : RecordFrame s2 s3 := by
        unfold s3
        split
        · exact answer_frame _ _ _ _
        · exact RecordFrame.refl _
      have h3 : s3 = { s1 with port := s3.port } := (k2.trans k3).rest
      have h1 : s1 = modStore (fun st => { st with counter := written u16 v, inFlight := q, asked := asked }) s := he
      have hpow : s4.powered = s.powered := by show s3.powered = _; rw [h3, h1]; rfl
      have heng : s4.engine = s.engine := by show s3.engine = _; rw [h3, h1]; rfl
      have hrec : s4.cal.store.records = s.cal.store.records := by show s3.cal.store.records = _; rw [h3, h1]; rfl
      obtain ⟨-, -, hbacked, hone, -⟩ := (zeroLaw_iff s).1 h (hpow ▸ hp)
      obtain ⟨hlist, hrest⟩ := commitWrites_inFlight hf rfl hone
      have hback := hbacked (.counter b v) (by simp [hlist])
      simp only [StoreWrite.backed, Bool.and_eq_true] at hback
      obtain ⟨hv, hback⟩ := hback
      obtain ⟨x, hx, rfl, -, -, hwork⟩ := (sessionCommits_iff s b _).1 hback
      have hw : commitWrites s4 = [] := by
        have : commitWrites s4 = commitWrites s1 := by
          show List.filter _ (s3.cal.store.inFlight.toList ++ s3.cal.store.asked) = _
          rw [h3]
          rfl
        rw [this]
        exact (commitWrites_writeEnds _).trans hrest
      refine h.closeSession hpow (fun b => by rw [heng]) hrec rfl hw (fun _ y hy => ?_) hp
      cases hx.symm.trans hy
      exact ⟨hv, hwork.symm⟩
    exact LaneOps.foldl (fun _ _ hu => zeroLaw_partOps.deriveBridge hu) _
      (LaneOps.foldl (fun _ _ hu => zeroLaw_partOps.judge hu) _ h4)
  · exact h

theorem ZeroLaw.ticketNumbered {s : State} (h : ZeroLaw s) : ZeroLaw (ticketNumbered s) := by
  unfold Machine.ticketNumbered
  split
  · rename_i hf _
    exact zeroLaw_partOps.startHead (zeroLaw_partOps.startNumbering (zeroLaw_partOps.modOriginal
      (zeroLaw_partOps.tickets (fun _ => rfl) ((ZeroKept.writeEnds hf rfl _).law h))))
  · exact h

theorem ZeroLaw.numberSet {s : State} (h : ZeroLaw s) : ZeroLaw (numberSet s) := by
  unfold Machine.numberSet
  split
  · rename_i hf
    exact zeroLaw_partOps.startNumbering (zeroLaw_partOps.answer ((ZeroKept.writeEnds hf rfl _).law h))
  · exact h

theorem ZeroKept.idleTick (s : State) : ZeroKept s (idleTick s) := by
  refine ⟨rfl, fun b => ?_, rfl, ?_, rfl, fun _ => id⟩
  · simp [Machine.idleTick, Engine.tick]
  · simp only [Machine.idleTick, Option.map_map]
    congr 1
    funext x
    simp [Session.still, Session.tick, Function.comp_def]

/-! ### Resets -/

/-- A part without sessions and writes of a commit, whose zeros keep their bounds against the records. -/
theorem ZeroLaw.of_records {s : State} (hx : s.cal.session = none) (hw : commitWrites s = [])
    (hz : ∀ b : BridgeId, ∀ z ∈ (s.engine[b]).zero, (s.cal.store.records[b]).valid = true
      ∧ z.within (s.cal.store.records[b]).content.data)
    (hcheck : ∀ b : BridgeId, (s.cal.store.records[b]).valid = true →
        (s.cal.store.records[b]).check = crc16 (CalRecord.bytes (s.cal.store.records[b]).content)) : ZeroLaw s := by
  rw [zeroLaw_iff]
  refine fun _ => ⟨fun b z hbz => ⟨_, ?_, (hz b z hbz).2⟩, fun y hy => absurd (hx.symm.trans hy) nofun, by simp [hw],
    by simp [hw], hcheck⟩
  rw [Option.mem_def, source_sessionless hx]
  exact if_pos (hz b z hbz).1

theorem checkStore_valid (st : Store) (b : BridgeId) : ((checkStore st).records[b]).valid = true ↔
    (st.records[b]).check = crc16 (CalRecord.bytes (st.records[b]).content) := by
  simp [checkStore, checkItem]

theorem checkStore_content (st : Store) (b : BridgeId) :
    ((checkStore st).records[b]).content = (st.records[b]).content ∧ ((checkStore st).records[b]).check = (st.records[b]).check := by
  simp [checkStore, checkItem]

theorem deriveAtReset_zeroLaw {s : State} (h : ZeroLaw s) : ZeroLaw (deriveAtReset s) :=
  LaneOps.foldl (fun _ _ hu => zeroLaw_partOps.status hu) _ (LaneOps.foldl (fun _ _ hu => zeroLaw_partOps.judge hu) _ h)

theorem stopAtReset_zeroLaw {s : State} (h : ZeroLaw s) : ZeroLaw (stopAtReset s) := by
  unfold stopAtReset
  split
  · exact zeroLaw_partOps.assertStop h
  · exact h

theorem ZeroLaw.coldValues (s : State) : ZeroLaw (coldValues s) := by
  unfold Machine.coldValues
  refine stopAtReset_zeroLaw (zeroLaw_partOps.record (deriveAtReset_zeroLaw (ZeroLaw.of_records rfl ?_ ?_ ?_)))
  · simp [commitWrites, checkStore, cutWrite]
  · intro b z hz
    simp [Engine.cold] at hz
  · intro b hv
    obtain ⟨hc, hk⟩ := checkStore_content (cutWrite s.cal.store) b
    rw [hc, hk]
    exact (checkStore_valid _ b).1 hv

end Sys2Proof.Machine

namespace Sys2Proof.Machine.WorkOps
variable {P : State → Prop} {s : State} (h : WorkOps P)
include h

theorem endAtReset {l t} (hs : P s) : P (endAtReset l t s) := by
  unfold Machine.endAtReset
  split
  · exact hs
  · have hc := h.closeVisit (n := t.content.visit) (k := t.number) (f := some .reset)
      (h.printer (l := l) (f := fun p => { p with
        lastJob := some { kind := .original, number := t.number, jobTag := t.jobTag, failure := some .reset } })
        (fun _ => le_rfl) hs)
    dsimp only
    split
    · exact h.ticketTold hc
    · exact hc

/-- The tickets of the queues end and the hand-over list is handed again, once the queues are emptied (R192). -/
theorem resetTickets
    (hs : P (modTickets (fun t => { t with
      printers := t.printers.map (fun p => { p with queue := [], timer := none, outstanding := false, retry := none }),
      handOver := [], numbering := [], inFlight := none }) s)) : P (resetTickets s) := by
  unfold Machine.resetTickets
  refine LaneOps.foldl (fun _ _ hu => h.handOver hu) _ (LaneOps.foldl (fun u i hu => ?_) _ hs)
  refine LaneOps.foldl (fun u l hu => ?_) _ hu
  split
  · exact h.endAtReset hu
  · exact hu

end Sys2Proof.Machine.WorkOps

namespace Sys2Proof.Machine

theorem abortAtReset_zeroLaw {s : State} (h : ZeroLaw s) (hf : s.cal.store.inFlight = none) :
    ZeroLaw (abortAtReset s) ∧ (abortAtReset s).cal.session = none := by
  unfold abortAtReset
  split
  · rename_i x hx
    exact ⟨h.dropSession hx (by simp [commitWriting, hf]), rfl⟩
  · rename_i hx
    exact ⟨h, hx⟩

theorem resetTickets_zeroLaw {s : State} (h : ZeroLaw s) : ZeroLaw (resetTickets s) :=
  zeroLaw_partOps.resetTickets ((ZeroKept.of_eq rfl rfl rfl).law h)

theorem ZeroLaw.warmValues {s : State} (h : ZeroLaw s) (hf : s.cal.store.inFlight = none) {kind : ResetKind} :
    ZeroLaw (warmValues kind s) := by
  unfold Machine.warmValues
  extract_lets u kept v
  obtain ⟨hu, hx⟩ : ZeroLaw u ∧ u.cal.session = none := abortAtReset_zeroLaw h hf
  have hv : ZeroLaw v := by
    intro hp
    obtain ⟨hz, -, -, -, hcheck⟩ := hu hp
    refine ZeroLaw.of_records hx rfl (fun b z hbz => ?_) (fun b hb => ?_) hp
    · replace hbz : z ∈ (u.engine[b]).zero := by simpa [v, Engine.warm] using hbz
      obtain ⟨d, hd, hin⟩ := hz b z hbz
      obtain ⟨hb, rfl⟩ := source_record (fun y hy => absurd (hx.symm.trans hy) nofun) hd
      refine ⟨(checkStore_valid _ b).2 (hcheck b hb), ?_⟩
      show z.within ((checkStore _).records[b]).content.data
      rw [(checkStore_content _ b).1]
      exact hin
    · show ((checkStore _).records[b]).check = crc16 (CalRecord.bytes ((checkStore _).records[b]).content)
      rw [(checkStore_content _ b).1, (checkStore_content _ b).2]
      exact (checkStore_valid _ b).1 hb
  exact stopAtReset_zeroLaw (resetTickets_zeroLaw (zeroLaw_partOps.record (deriveAtReset_zeroLaw hv)))

/-! ### Every step keeps the law -/

/-- The table requests leave the engines and the calibration unit. -/
theorem zeroLaw_requestOps : RequestOps ZeroLaw where
  toCycleOps := zeroLaw_cycleOps
  port _ hs := (ZeroKept.of_eq rfl rfl rfl).law hs
  bufferJoins _ hs := (ZeroKept.of_eq rfl rfl rfl).law hs
  passJoins _ hs := (ZeroKept.of_eq rfl rfl rfl).law hs
  resetOffered hs := (ZeroKept.offered (offer_frame _ _ _ _)).law hs
  settings hf hs := hs.settings (hf _)
  laneSettings hs := (ZeroKept.of_eq rfl rfl rfl).law hs
  planEntries hs := (ZeroKept.of_eq rfl rfl rfl).law hs
  clock _ hs := (ZeroKept.of_eq rfl rfl rfl).law hs
  tolerance hs := (ZeroKept.of_eq rfl rfl rfl).law hs
  numberWrite hs := (ZeroKept.askWrite _ rfl).law hs
  putVehicle hs := by
    unfold putVehicle
    split
    · split_ifs
      · exact hs
      · exact hs
      · unfold writeVehicle
        rw [reply_fst]
        exact (ZeroKept.of_eq rfl rfl rfl).law hs
    · exact hs
  dropVehicle hs := by
    unfold dropVehicle
    split
    · split_ifs
      · exact hs
      · exact (ZeroKept.of_eq rfl rfl rfl).law hs
    · exact hs
  putAccount hs := by
    unfold putAccount
    split
    · dsimp only
      split_ifs
      · exact hs
      · exact hs
      · rw [reply_fst]
        refine zeroLaw_partOps.evaluateOverLimit ?_
        unfold writeAccount
        split
        · exact zeroLaw_partOps.account hs
        · exact (ZeroKept.of_eq rfl rfl rfl).law hs
    · exact hs
  dropAccount hs := by
    unfold dropAccount
    split
    · split
      · exact hs
      · split
        · exact hs
        · split_ifs
          · exact hs
          · exact (ZeroKept.of_eq rfl rfl rfl).law hs
    · exact hs
  putTariffRow hs := by
    unfold putTariffRow
    split
    · split
      · exact hs
      · split_ifs
        · exact hs
        · exact hs
        · exact hs
        · exact hs
        all_goals
          rw [reply_fst]
          exact (ZeroKept.of_eq rfl rfl rfl).law hs
    · exact hs
  dropTariffRow hs := by
    unfold dropTariffRow
    split
    · split
      · exact hs
      · split_ifs
        · exact hs
        · exact hs
        · exact hs
        · exact (ZeroKept.of_eq rfl rfl rfl).law hs
    · exact hs

theorem zeroLaw_execOps : ExecOps ZeroLaw where
  toRequestOps := zeroLaw_requestOps
  fresh hs := (ZeroKept.of_eq rfl rfl rfl).law hs
  pending hs := (ZeroKept.of_eq rfl rfl rfl).law hs
  idleTick _ hs := (ZeroKept.idleTick _).law hs
  coldValues _ := .coldValues _
  warmValues idle hs := hs.warmValues idle
  calEnable hs := hs.calEnable
  stopLevel hs := (ZeroKept.of_eq rfl rfl rfl).law hs
  losePower _ := fun hp => absurd hp nofun
  trackExpiry hs := hs.trackExpiry
  stepTimeout hs := hs.endStep
  recordWritten hs := hs.recordWritten
  counterWritten hs := hs.counterWritten
  ticketNumbered hs := hs.ticketNumbered
  numberSet hs := hs.numberSet
  zeroBridge hs := hs.zeroBridge
  calBegin hs := hs.calBegin
  calZero hs := hs.calZero
  calSpan hs := hs.calSpan
  calCorner hs := hs.calCorner
  calTrim hs := hs.calTrim
  calSetLimits hs := hs.calSetLimits
  calCommit hs := hs.calCommit
  calAbort hs := hs.calAbort

end Sys2Proof.Machine

namespace Sys2Proof.Certificates
open Sys2Proof.Machine

/-- Settles O8: every command is made of operations that keep the law, and a step is a command or a millisecond. -/
theorem zeroLawKept : Obligations.ZeroLawKept := by
  unfold Obligations.ZeroLawKept
  intro s t h he
  exact zeroLaw_execOps.step h he

end Sys2Proof.Certificates

namespace Sys2Proof.Machine

/-! ## Requests answered with what their owner gives -/

/-- A request whose owner answers is answered so, on the state the owner leaves. -/
theorem answers_of_owner {c : Instr} {s : State} {code : Nat} {layout : List Field}
    {owner : Byte → List (Option Value) → State → Reply} {tag : Byte} {vs : List (Option Value)} {r : Result} {body : Bytes}
    {t : State} (hc : exec c s = act (takeRequest code layout owner) s) (h : RequestAt s code layout tag vs)
    (ho : owner tag vs (fresh s) = replyWith r body t) : Answers c s tag r body t := by
  unfold Answers
  rw [hc, take_requestAt owner h, ho, finishRequest_replyWith]

/-! ## Live states, tare statuses and lookups (R11, R131) -/

theorem tareStatus_none {c : Clock} {v : Vehicle} (h : v.tare = none) : tareStatus c v = .none := by
  simp [tareStatus, h]

theorem tareStatus_current {c : Clock} {v : Vehicle} (h : v.tare ≠ none) (hc : c.set = true)
    (hd : ∀ d ∈ v.expiry, dayNumber c.secs ≤ d) : tareStatus c v = .current := by
  obtain ⟨k, hk⟩ := Option.ne_none_iff_exists'.1 h
  rcases he : v.expiry with _ | d
  · simp [tareStatus, hk, hc, he]
  · simp [tareStatus, hk, hc, he, hd d he]

theorem tareStatus_expired {c : Clock} {v : Vehicle} (h : v.tare ≠ none)
    (hd : c.set = false ∨ ∃ d ∈ v.expiry, d < dayNumber c.secs) : tareStatus c v = .expired := by
  obtain ⟨k, hk⟩ := Option.ne_none_iff_exists'.1 h
  rcases hc : c.set with _ | _
  · simp [tareStatus, hk, hc]
  · obtain ⟨d, he, hlt⟩ := hd.resolve_left (by simp [hc])
    simp [tareStatus, hk, hc, Option.mem_def.1 he, hlt]

theorem findVehicle_some {s : State} {id : Text} {v : Vehicle} (h : findVehicle s id = some v) :
    v ∈ s.tables.vehicles ∧ v.id = id :=
  ⟨List.mem_of_find?_eq_some h, by simpa using List.find?_some h⟩

theorem findVehicle_none {s : State} {id : Text} : findVehicle s id = none ↔ ∀ v ∈ s.tables.vehicles, v.id ≠ id := by
  simp [findVehicle]

/-! ## Zero tracking (R16) -/

theorem inRange_of_samples {s t : State} {b : BridgeId} (hd : source t b = source s b)
    (hs : (t.engine[b]).samples = (s.engine[b]).samples) : inRange t b = inRange s b := by
  unfold inRange calibrated
  rw [hd, hs]

/-- All that tracking asks for before a step is computed (R16). -/
def tracks (s : State) (b : BridgeId) (z : Zero) (w : Int) (d : CalData) : Prop :=
  (s.engine[b]).status ≠ .calibrating ∧ (s.engine[b]).stable = true ∧ inRange s b = true
    ∧ |w - z.zb| ≤ (5 * d.e : Int) ∧ granted s b = false ∧ beamsClear s b = true

/-- The timer of zero tracking restarts. -/
def trackRestarted (b : BridgeId) (s : State) : State := modEngine b (fun e => { e with trackTimer := 1000 }) s

theorem trackRestarted_engine (b : BridgeId) (s : State) :
    (trackRestarted b s).engine[b] = { s.engine[b] with trackTimer := 1000 } := by
  simp [trackRestarted]

theorem trackRestarted_inRange (b : BridgeId) (s : State) : inRange (trackRestarted b s) b = inRange s b :=
  inRange_of_samples rfl (by rw [trackRestarted_engine])

/-- An expiry with the conditions of tracking met. -/
theorem trackExpiry_tracks {s : State} {b : BridgeId} {z : Zero} {w : Int} {d : CalData} (hz : (s.engine[b]).zero = some z)
    (hw : (s.engine[b]).wAvg = some w) (hd : source s b = some d) (h : tracks s b z w d) :
    trackExpiry b s =
      if trackStep d.e w z.zb = 0 then trackRestarted b s
      else if 5 * |z.zb + trackStep d.e w z.zb - z.zinit| ≤ (d.max : Int) then
        modEngine b (fun e => { e with zero := some { z with zb := z.zb + trackStep d.e w z.zb }, zeroLimit := false })
          (trackRestarted b s)
      else if (s.engine[b]).zeroLimit then trackRestarted b s
      else queueRecord (.zeroLimit b z.zb z.zinit)
        (modEngine b (fun e => { e with zeroLimit := true }) (trackRestarted b s)) := by
  obtain ⟨hc, hst, hin, hdist, hg, hb⟩ := h
  have he := trackRestarted_engine b s
  have ready : (s.engine[b]).status ≠ .calibrating ∧ (s.engine[b]).stable = true ∧ inRange (trackRestarted b s) b = true
      ∧ |w - z.zb| ≤ (5 * d.e : Int) ∧ (!granted (trackRestarted b s) b) = true ∧ beamsClear (trackRestarted b s) b = true :=
    ⟨hc, hst, (trackRestarted_inRange b s).trans hin, hdist, by rw [← Bool.not_false, ← hg]; rfl, hb⟩
  unfold trackExpiry
  extract_lets t e
  change e = _ at he
  clear_value e
  subst he
  simp only [hz, hw, show source t b = some d from hd]
  exact if_pos ready

/-- An expiry with a condition of tracking not met. -/
theorem trackExpiry_rests {s : State} {b : BridgeId} (h : ∀ z w d, (s.engine[b]).zero = some z → (s.engine[b]).wAvg = some w →
    source s b = some d → ¬ tracks s b z w d) : trackExpiry b s = trackRestarted b s := by
  have he := trackRestarted_engine b s
  unfold trackExpiry
  extract_lets t e
  change t.engine[b] = _ at he
  split
  · rename_i z w d hz hw hd
    refine if_neg (fun ⟨hc, hst, hin, hdist, hg, hb⟩ => ?_)
    have hz' : (s.engine[b]).zero = some z := by rw [← hz]; simp only [e, he]
    have hw' : (s.engine[b]).wAvg = some w := by rw [← hw]; simp only [e, he]
    have hg' : granted t b = false := by simpa using hg
    simp only [e, he] at hc hst
    exact h z w d hz' hw' hd ⟨hc, hst, (trackRestarted_inRange b s).symm.trans hin, hdist, hg', hb⟩
  · rfl

/-! ## ZERO BRIDGE (R15) -/

/-- What ZERO BRIDGE tests on the state before the distance from the initial zero. -/
def zeroAllowed (s : State) (b : BridgeId) : Prop :=
  (s.engine[b]).status ≠ .calibrating ∧ (s.engine[b]).zero ≠ none ∧ (s.engine[b]).stable = true ∧ inRange s b = true
    ∧ granted s b = false ∧ beamsClear s b = true

theorem zeroBridge_refused {s : State} {b : BridgeId} {tag : Byte} (h : ¬ zeroAllowed s b) :
    zeroBridge tag [some (.num (b.val + 1))] s = reply .state s := by
  unfold zeroBridge
  simp only [bridgeOf_val]
  split
  · rfl
  · rename_i hc
    split
    · rfl
    · rename_i z hz
      split_ifs with hst hg hb
      · rfl
      · rfl
      · rfl
      · simp only [Bool.not_eq_true', not_or, Bool.not_eq_false] at hst hg hb
        have hz' : (s.engine[b]).zero ≠ none := hz ▸ Option.some_ne_none z
        exact absurd ⟨hc, hz', hst.1, hst.2, by simpa using hg, hb⟩ h

theorem zeroBridge_allowed {s : State} {b : BridgeId} {tag : Byte} {z : Zero} {w : Int} {d : CalData} (h : zeroAllowed s b)
    (hz : (s.engine[b]).zero = some z) (hw : (s.engine[b]).wAvg = some w) (hd : source s b = some d) :
    zeroBridge tag [some (.num (b.val + 1))] s =
      if (d.max : Int) < 5 * |w - z.zinit| then reply .range s
      else reply .done (modEngine b (fun e => { e with zero := some { z with zb := w }, zeroLimit := false }) s) := by
  obtain ⟨hc, -, hst, hin, hg, hb⟩ := h
  unfold zeroBridge
  simp only [bridgeOf_val, if_neg hc, hz, hst, hin, hg, hb, hw, hd, Bool.not_true, Bool.false_eq_true, or_self, if_false]

/-! ## READ requests (R27, R48, R79, R80, R93, R124, R134, R143, R149, R176, R191, R209) -/

theorem head?_opt {α : Type} (f : α → Bytes) (o : Option α) (rest : Bytes) :
    (opt f o ++ rest).head? = some (if o.isSome then 1 else 0) := by
  cases o <;> rfl

theorem head?_flag1 (x : Bool) (rest : Bytes) : (flag1 x ++ rest).head? = some (if x then 1 else 2) := by
  cases x <;> rfl

theorem head?_u8 (n : Nat) (rest : Bytes) : (u8 n ++ rest).head? = some (BitVec.ofNat 8 n) := by
  simp [u8, beBytes]

end Sys2Proof.Machine

namespace Sys2Proof.Certificates
open Sys2Proof.Machine

/-- Settles O58, by the lines of R11's table and the cases of R131. -/
theorem liveStateAndTareStatus : Obligations.LiveStateAndTareStatus := by
  unfold Obligations.LiveStateAndTareStatus
  refine ⟨fun e max w o u z st => ?_, fun s id => ⟨fun v => findVehicle_some, findVehicle_none⟩,
    fun c v => ⟨tareStatus_none, tareStatus_current, tareStatus_expired⟩⟩
  unfold liveState
  refine ⟨fun h => if_pos h, fun h hu => ?_, fun h hu hz => ?_, fun h hu hz hst => ?_, fun h hu hz hst => ?_⟩
  · rw [if_neg h, if_pos hu]
  all_goals rw [if_neg h, if_neg hu]
  · simp [hz]
  · simp [hz, hst]
  · simp [hz, hst]

/-- Settles O32: an expiry either finds every condition met and makes the step of R16, or does no more than restart the
timer. -/
theorem zeroTrackingStep : Obligations.ZeroTrackingStep := by
  unfold Obligations.ZeroTrackingStep
  intro s b hp u e
  have run : exec (.zeroTrackingExpiry b) s = .next (trackExpiry b (fresh s)) := act_of_powered hp
  rw [run]
  refine ⟨fun z w d step hz hw hd hc hst hin hdist hg hb hstep => ?_, fun h => ?_⟩
  · have hmove : step = trackStep d.e w z.zb := hstep
    have hlimit : ((fresh s).engine[b]).zeroLimit = e.zeroLimit := rfl
    rw [trackExpiry_tracks (s := fresh s) hz hw hd ⟨hc, hst, hin, hdist, hg, hb⟩, hlimit, ← hmove]
    refine ⟨fun h0 => ?_, fun h0 hin => ?_, fun h0 hout hl => ?_, fun h0 hout hl => ?_⟩
    · rw [if_pos h0]
      rfl
    · rw [if_neg h0, if_pos hin]
      rfl
    · rw [if_neg h0, if_neg (not_le.2 hout), hl]
      rfl
    · rw [if_neg h0, if_neg (not_le.2 hout), if_pos hl]
      rfl
  · refine congrArg _ (trackExpiry_rests (s := fresh s) fun z w d hz hw hd ⟨hc, hst, hin, hdist, hg, hb⟩ => ?_)
    rcases h with h | h | h | h | h | h | h | h | ⟨z', w', d', hz', hw', hd', hfar⟩
    · exact absurd (h.symm.trans hz) nofun
    · exact absurd (h.symm.trans hw) nofun
    · exact absurd (h.symm.trans hd) nofun
    · exact hc h
    · exact absurd (h.symm.trans hst) nofun
    · exact absurd (h.symm.trans hin) nofun
    · exact absurd (h.symm.trans hg) nofun
    · exact absurd (h.symm.trans hb) nofun
    · cases hz'.symm.trans hz
      cases hw'.symm.trans hw
      cases hd'.symm.trans hd
      omega

/-- Settles O40: the tests of R15 in the order of its table, each on the state the request finds. -/
theorem zeroBridgeInTheOrderOfItsTable : Obligations.ZeroBridgeInTheOrderOfItsTable := by
  unfold Obligations.ZeroBridgeInTheOrderOfItsTable
  intro s tag n h
  refine ⟨fun hn => ?_, fun b hn => ⟨fun hbad => ?_, fun z w d hc hz hst hin hg hb hw hd => ?_⟩⟩
  · refine answers_of_owner rfl h ?_
    simp only [zeroBridge, bridgeOf_none hn]
    rfl
  · subst hn
    refine answers_of_owner rfl h ((zeroBridge_refused ?_).trans rfl)
    rintro ⟨hc, hz, hst, hin, hg, hb⟩
    rcases hbad with h | h | h | h | h | h
    · exact hc h
    · exact hz h
    · exact absurd (h.symm.trans hst) nofun
    · exact absurd (h.symm.trans hin) nofun
    · exact absurd (hg.symm.trans h) nofun
    · exact absurd (h.symm.trans hb) nofun
  · subst hn
    have allowed : zeroAllowed (fresh s) b := ⟨hc, fun h0 => absurd (h0.symm.trans hz) nofun, hst, hin, hg, hb⟩
    have owner := zeroBridge_allowed (s := fresh s) (tag := tag) allowed hz hw hd
    refine ⟨fun hfar => answers_of_owner rfl h (owner.trans ?_), fun hnear => answers_of_owner rfl h (owner.trans ?_)⟩
    · rw [if_pos hfar]
      rfl
    · rw [if_neg (not_lt.2 hnear)]
      rfl

end Sys2Proof.Certificates

namespace Sys2Proof.Machine

/-- A request whose owner answers with some body that has a property. -/
theorem answers_body {c : Instr} {s : State} {code : Nat} {layout : List Field}
    {owner : Byte → List (Option Value) → State → Reply} {tag : Byte} {vs : List (Option Value)} {r : Result} {t : State}
    {p : Bytes → Prop} (hc : exec c s = act (takeRequest code layout owner) s) (h : RequestAt s code layout tag vs)
    (ho : ∃ body, owner tag vs (fresh s) = replyWith r body t ∧ p body) : ∃ body, Answers c s tag r body t ∧ p body := by
  obtain ⟨body, hb, hp⟩ := ho
  exact ⟨body, answers_of_owner hc h hb, hp⟩

theorem readBridge_head (tag : Byte) (b : BridgeId) (s : State) :
    ∃ body, readBridge tag [some (.num (b.val + 1))] s = replyWith .done body s
      ∧ body.head? = some (BitVec.ofNat 8 (s.engine[b]).status.code) := by
  simp only [readBridge, bridgeOf_val]
  exact ⟨_, rfl, by simp only [List.append_assoc, head?_u8]⟩

theorem readCalibration_head (tag : Byte) (b : BridgeId) (s : State) :
    ∃ body, readCalibration tag [some (.num (b.val + 1))] s = replyWith .done body s
      ∧ body.head? = some (if (s.cal.store.records[b]).valid then 1 else 2) := by
  simp only [readCalibration, bridgeOf_val]
  exact ⟨_, rfl, by simp only [List.append_assoc, head?_flag1]⟩

theorem readNode_head (tag : Byte) (a : NodeId) (s : State) :
    ∃ body, readNode tag [some (.num (a.val + 1))] s = replyWith .done body s
      ∧ body.head? = some (BitVec.ofNat 8 (s.bus.nodes[a]).state.code) := by
  simp only [readNode, nodeOf_val]
  exact ⟨_, rfl, by simp only [List.append_assoc, head?_u8]⟩

theorem readPlanEntry_head (tag : Byte) (p : PlanId) (s : State) :
    ∃ body, readPlanEntry tag [some (.num (p.val + 1))] s = replyWith .done body s
      ∧ body.head? = some (if (s.plan.entries[p]).isSome then 1 else 2) := by
  simp only [readPlanEntry, planOf_val]
  exact ⟨_, rfl, by simp only [List.append_assoc, head?_flag1]⟩

theorem readLane_head (tag : Byte) (l : LaneId) (s : State) :
    ∃ body, readLane tag [some (.num (l.val + 1))] s = replyWith .done body s
      ∧ body.head? = some (if (s.seq.lanes[l]).config.isSome then 1 else 0) := by
  simp only [readLane, laneOf_val]
  exact ⟨_, rfl, by simp only [List.append_assoc, head?_opt]⟩

theorem readTickets_head (tag : Byte) (l : LaneId) (s : State) :
    ∃ body, readTickets tag [some (.num (l.val + 1))] s = replyWith .done body s
      ∧ body.head? = some (BitVec.ofNat 8 (roleOf s (.printer l)).fill.code) := by
  simp only [readTickets, laneOf_val]
  exact ⟨_, rfl, by simp only [List.append_assoc, head?_u8]⟩

theorem readStatus_head (tag : Byte) (vs : List (Option Value)) (s : State) :
    ∃ body, readStatus tag vs s = replyWith .done body (modPort (fun p => { p with dropped := 0 }) s)
      ∧ body.head? = some (if s.port.up then 1 else 2) :=
  ⟨_, rfl, by simp only [List.append_assoc, head?_flag1]⟩

/-! ### Entries found by a key, and the first behind one -/

/-- The first entry behind a key, or the first of all with no key. -/
def entryBehind {α β : Type} (behind : β → α → Bool) (xs : List α) : Option β → Option α
  | some k => xs.find? (behind k)
  | none => xs.head?

/-- The answer of a request for one entry: the entry, or NOT_FOUND. -/
def answerFound {α : Type} (items : α → Bytes) (s : State) : Option α → Reply
  | some x => replyWith .done (items x) s
  | none => reply .notFound s

theorem answers_found {α : Type} {c : Instr} {s : State} {code : Nat} {layout : List Field}
    {owner : Byte → List (Option Value) → State → Reply} {tag : Byte} {vs : List (Option Value)} {items : α → Bytes}
    {found : Option α} (hc : exec c s = act (takeRequest code layout owner) s) (h : RequestAt s code layout tag vs)
    (ho : owner tag vs (fresh s) = answerFound items (fresh s) found) :
    (∀ x, found = some x → Answers c s tag .done (items x) (fresh s))
      ∧ (found = none → Answers c s tag .notFound [] (fresh s)) := by
  refine ⟨fun x hx => answers_of_owner hc h ?_, fun hx => answers_of_owner hc h ?_⟩ <;> rw [ho, hx] <;> rfl

theorem readVehicle_eq (tag : Byte) (id : Text) (s : State) :
    readVehicle tag [some (.text id)] s = answerFound (vehicleItems s) s (findVehicle s id) := by
  simp only [readVehicle]
  cases findVehicle s id <;> rfl

theorem readVehicleNext_eq (tag : Byte) (key : Option Text) (s : State) : readVehicleNext tag [key.map .text] s
    = answerFound (vehicleItems s) s (entryBehind (fun id v => idBefore id v.id) s.tables.vehicles key) := by
  cases key
  all_goals
    simp only [readVehicleNext, entryBehind, Option.map]
    split <;> simp only [answerFound, *]

theorem readAccount_eq (tag : Byte) {n : Nat} (s : State) (h1 : 1 ≤ n) (h2 : n ≤ 999999) :
    readAccount tag [some (.num n)] s = answerFound accountItems s (findAccount s n) := by
  simp only [readAccount, if_neg (show ¬ (n < 1 ∨ 999999 < n) by omega)]
  cases findAccount s n <;> rfl

theorem readAccountNext_eq (tag : Byte) (key : Option Nat) (s : State) : readAccountNext tag [key.map .num] s
    = answerFound accountItems s (entryBehind (fun n x => decide (n < x.number)) s.tables.accounts key) := by
  cases key
  all_goals
    simp only [readAccountNext, entryBehind, Option.map]
    split <;> simp only [answerFound, *]

theorem readTariffRow_eq (tag : Byte) (b : BankId) {m : Nat} (s : State) (h1 : 1 ≤ m) (h2 : m ≤ 255) :
    readTariffRow tag [some (.num b.val), some (.num m)] s = answerFound TariffRow.items s (rowIn s b m) := by
  simp only [readTariffRow, bankOf_val, if_neg (show ¬ (m < 1 ∨ 255 < m) by omega)]
  cases rowIn s b m <;> rfl

theorem readTariffRowNext_eq (tag : Byte) (b : BankId) (key : Option Nat) (s : State) :
    readTariffRowNext tag [some (.num b.val), key.map .num] s = answerFound TariffRow.items s
      (entryBehind (fun m r => decide (m < r.material)) (s.tables.banks[b]).rows key) := by
  cases key
  all_goals
    simp only [readTariffRowNext, bankOf_val, asNum, entryBehind, Option.map]
    split <;> simp only [answerFound, *]

theorem readVisit_eq (tag : Byte) {n : Nat} (s : State) (h1 : 1 ≤ n) :
    readVisit tag [some (.num n)] s = answerFound Visit.items s (findVisit s n) := by
  simp only [readVisit, if_neg (show ¬ n < 1 by omega)]
  cases findVisit s n <;> rfl

theorem readVisitByVehicle_eq (tag : Byte) (id : Text) (s : State) :
    readVisitByVehicle tag [some (.text id)] s = answerFound Visit.items s (visitOf s id) := by
  simp only [readVisitByVehicle]
  cases visitOf s id <;> rfl

theorem readVisitNext_some {tag : Byte} {key : Option Nat} {s : State} {v : Visit}
    (h : entryBehind (fun n v => decide (n < v.number)) s.visits.table key = some v) :
    readVisitNext tag [key.map .num] s
      = replyWith .done (v.items ++ (u8 s.visits.table.length ++ u16 s.visits.next ++ u8 s.visits.tolerance)) s := by
  cases key <;> simp only [entryBehind] at h <;> simp only [readVisitNext, Option.map, h]

theorem readVisitNext_none {tag : Byte} {key : Option Nat} {s : State}
    (h : entryBehind (fun n v => decide (n < v.number)) s.visits.table key = none) :
    readVisitNext tag [key.map .num] s
      = replyWith .notFound (u8 s.visits.table.length ++ u16 s.visits.next ++ u8 s.visits.tolerance) s := by
  cases key <;> simp only [entryBehind] at h <;> simp only [readVisitNext, Option.map, h]

end Sys2Proof.Machine

namespace Sys2Proof.Certificates
open Sys2Proof.Machine

/-- Settles O42: each owner of a reading request hands the state back with the entry found. -/
theorem readsChangeNothing : Obligations.ReadsChangeNothing := by
  unfold Obligations.ReadsChangeNothing
  intro s tag
  refine ⟨fun b h => answers_body rfl h (readBridge_head tag b (fresh s)),
    fun b h => answers_body rfl h (readCalibration_head tag b (fresh s)),
    fun a h => answers_body rfl h (readNode_head tag a (fresh s)),
    fun p h => answers_body rfl h (readPlanEntry_head tag p (fresh s)),
    fun l h => answers_body rfl h (readLane_head tag l (fresh s)),
    fun l h => answers_body rfl h (readTickets_head tag l (fresh s)),
    fun h => answers_body rfl h ⟨_, rfl, rfl⟩,
    fun id v h hv => (answers_found rfl h (readVehicle_eq tag id _)).1 v hv,
    fun id h hv => (answers_found rfl h (readVehicle_eq tag id _)).2 hv,
    fun key h => ?vehicles,
    fun n x h h1 h2 hx => (answers_found rfl h (readAccount_eq tag _ h1 h2)).1 x hx,
    fun n h h1 h2 hx => (answers_found rfl h (readAccount_eq tag _ h1 h2)).2 hx,
    fun key h => ?accounts,
    fun b m r h h1 h2 hr => (answers_found rfl h (readTariffRow_eq tag b _ h1 h2)).1 r hr,
    fun b m h h1 h2 hr => (answers_found rfl h (readTariffRow_eq tag b _ h1 h2)).2 hr,
    fun b key h => ?rows,
    fun n v h h1 hv => (answers_found rfl h (readVisit_eq tag _ h1)).1 v hv,
    fun n h h1 hv => (answers_found rfl h (readVisit_eq tag _ h1)).2 hv,
    fun id v h hv => (answers_found rfl h (readVisitByVehicle_eq tag id _)).1 v hv,
    fun id h hv => (answers_found rfl h (readVisitByVehicle_eq tag id _)).2 hv,
    fun key h => ?visits,
    fun h => answers_body rfl h ⟨_, rfl, rfl⟩,
    fun h => answers_body rfl h (readStatus_head tag _ (fresh s))⟩
  case vehicles =>
    have both := answers_found (c := .readVehicleNext) rfl h (readVehicleNext_eq tag key _)
    cases key <;> exact both
  case accounts =>
    have both := answers_found (c := .readAccountNext) rfl h (readAccountNext_eq tag key _)
    cases key <;> exact both
  case rows =>
    have both := answers_found (c := .readTariffRowNext) rfl h (readTariffRowNext_eq tag b key _)
    cases key <;> exact both
  case visits =>
    cases key <;> exact ⟨fun v hv => answers_of_owner rfl h (readVisitNext_some (s := fresh s) hv),
      fun hv => answers_of_owner rfl h (readVisitNext_none (s := fresh s) hv)⟩

end Sys2Proof.Certificates

/-! ## What lane work and visit work leave as they were -/
namespace Sys2Proof.Machine

/-- All that the work of lanes, visits and tickets leaves as it was: of an engine all but its capture request, of the store all
but the writes in flight and asked for, of the bus all but the command queue, of the plan all but its nodes' command state. -/
structure WorkFrame (s t : State) : Prop where
  powered : t.powered = s.powered
  calEnable : t.calEnable = s.calEnable
  yardStop : t.yardStop = s.yardStop
  engine : ∀ b : BridgeId, t.engine[b] = { s.engine[b] with capture := (t.engine[b]).capture }
  cal : t.cal = { s.cal with store := { s.cal.store with inFlight := t.cal.store.inFlight, asked := t.cal.store.asked } }
  bus : t.bus = { s.bus with queue := t.bus.queue, heldResets := t.bus.heldResets }
  plan : t.plan = { s.plan with nodes := t.plan.nodes }
  port : t.port = { s.port with
    records := t.port.records, nextRecord := t.port.nextRecord, claims := t.port.claims, dropped := t.port.dropped,
    pass := t.port.pass, sending := t.port.sending, waiting := t.port.waiting }
  configs : ∀ l : LaneId, (t.seq.lanes[l]).config = (s.seq.lanes[l]).config ∧ (t.seq.lanes[l]).isOpen = (s.seq.lanes[l]).isOpen

/-- All that lane work leaves as it was besides: the claims, the tables, the visits, the store, the records queued and the frames
owed. -/
structure LaneFrame (s t : State) : Prop extends WorkFrame s t where
  store : t.cal = s.cal
  claims : t.port.claims = s.port.claims
  tables : t.tables = s.tables
  visits : t.visits = s.visits
  records : ∀ r ∈ s.port.records, r ∈ t.port.records
  owed : ∀ f ∈ outgoing s.port, f ∈ outgoing t.port

theorem WorkFrame.refl (s : State) : WorkFrame s s := ⟨rfl, rfl, rfl, fun _ => rfl, rfl, rfl, rfl, rfl, fun _ => ⟨rfl, rfl⟩⟩

theorem WorkFrame.trans {s t u : State} (h : WorkFrame s t) (k : WorkFrame t u) : WorkFrame s u where
  powered := k.powered.trans h.powered
  calEnable := k.calEnable.trans h.calEnable
  yardStop := k.yardStop.trans h.yardStop
  engine b := by rw [k.engine b, h.engine b]
  cal := by rw [k.cal, h.cal]
  bus := by rw [k.bus, h.bus]
  plan := by rw [k.plan, h.plan]
  port := by rw [k.port, h.port]
  configs l := ⟨(k.configs l).1.trans (h.configs l).1, (k.configs l).2.trans (h.configs l).2⟩

theorem LaneFrame.refl (s : State) : LaneFrame s s := ⟨.refl s, rfl, rfl, rfl, rfl, fun _ => id, fun _ => id⟩

theorem LaneFrame.trans {s t u : State} (h : LaneFrame s t) (k : LaneFrame t u) : LaneFrame s u :=
  ⟨h.toWorkFrame.trans k.toWorkFrame, k.store.trans h.store, k.claims.trans h.claims, k.tables.trans h.tables,
    k.visits.trans h.visits, fun r hr => k.records r (h.records r hr), fun f hf => k.owed f (h.owed f hf)⟩

/-! ### Frames owed stay owed under an offer -/

theorem makeReady_owed (x f : OutFrame) (s : State) (h : f ∈ outgoing s.port) : f ∈ outgoing (makeReady x s).port :=
  mem_outgoing_makeReady h

theorem tellDropped_owed (c : Command) (s : State) (f : OutFrame) (h : f ∈ outgoing s.port) :
    f ∈ outgoing (tellDropped c s).port := by
  unfold tellDropped
  split
  · unfold holdReset
    split <;> exact h
  · exact h
  · exact h
  · exact h
  · unfold stationRetry
    split <;> exact h
  · split <;> exact h
  · unfold passDropped passEnds
    exact mem_outgoing_makeReady h

theorem offer_owed (a : NodeId) (x : CommandFrame) (o : Origin) (s : State) (f : OutFrame) (h : f ∈ outgoing s.port) :
    f ∈ outgoing (offer a x o s).1.port := by
  by_cases hx : x = .driveOff
  · have tellAll : ∀ (cs : List Command) (u : State), f ∈ outgoing u.port →
        f ∈ outgoing (cs.foldl (fun u c => tellDropped c u) u).port :=
      fun cs u hu => LaneOps.foldl (P := fun u => f ∈ outgoing u.port) (fun u c hu => tellDropped_owed c u f hu) cs hu
    unfold offer
    dsimp only
    split_ifs
    · exact h
    · exact h
    · exact h
    · exact tellAll _ _ (tellAll _ _ h)
  · rw [offer_port hx]
    exact h

/-! ### The generators -/

theorem WorkFrame.offered {s t : State} (k : OfferFrame s t) : WorkFrame s t where
  powered := k.powered
  calEnable := k.calEnable
  yardStop := k.yardStop
  engine b := by rw [k.engine]
  cal := by rw [k.cal]
  bus := k.bus
  plan := k.plan
  port := by rw [k.port]
  configs l := by
    have hc := congrArg Lane.config (k.lanes l)
    have ho := congrArg Lane.isOpen (k.lanes l)
    exact ⟨hc, ho⟩

theorem WorkFrame.recorded {s t : State} (k : RecordFrame s t) : WorkFrame s t where
  powered := by rw [k.rest]
  calEnable := by rw [k.rest]
  yardStop := by rw [k.rest]
  engine b := by rw [k.rest]
  cal := by rw [k.rest]
  bus := by rw [k.rest]
  plan := by rw [k.rest]
  port := by rw [k.port]
  configs l := by rw [k.rest]; exact ⟨rfl, rfl⟩

theorem WorkFrame.modEngine {b : BridgeId} {f : Engine → Engine} (s : State)
    (hf : ∀ e : Engine, f e = { e with capture := (f e).capture }) : WorkFrame s (modEngine b f s) := by
  refine ⟨rfl, rfl, rfl, fun k => ?_, rfl, rfl, rfl, rfl, fun _ => ⟨rfl, rfl⟩⟩
  simp only [Fin.getElem_fin, modEngine_engine, getElem_alter]
  split
  · rename_i hk
    subst hk
    exact hf _
  · rfl

theorem WorkFrame.modLane {l : LaneId} {f : Lane → Lane} (s : State)
    (hf : ∀ x : Lane, (f x).config = x.config ∧ (f x).isOpen = x.isOpen) : WorkFrame s (modLane l f s) := by
  refine ⟨rfl, rfl, rfl, fun _ => rfl, rfl, rfl, rfl, rfl, fun k => ?_⟩
  simp only [Fin.getElem_fin, modLane_seq, getElem_alter]
  split
  · rename_i hk
    subst hk
    exact hf _
  · exact ⟨rfl, rfl⟩

/-- A change of blocks that the frame does not read. -/
theorem WorkFrame.of_eq {s t : State} (hp : t.powered = s.powered) (hc : t.calEnable = s.calEnable)
    (hy : t.yardStop = s.yardStop) (he : t.engine = s.engine) (hcal : t.cal = s.cal) (hb : t.bus = s.bus)
    (hplan : t.plan = s.plan) (hport : t.port = s.port) (hl : t.seq.lanes = s.seq.lanes) : WorkFrame s t where
  powered := hp
  calEnable := hc
  yardStop := hy
  engine b := by rw [he]
  cal := by rw [hcal]
  bus := by rw [hb]
  plan := by rw [hplan]
  port := by rw [hport]
  configs l := by rw [hl]; exact ⟨rfl, rfl⟩

theorem WorkFrame.modBus {f : Bus → Bus} (s : State)
    (hf : f s.bus = { s.bus with queue := (f s.bus).queue, heldResets := (f s.bus).heldResets }) : WorkFrame s (modBus f s) :=
  ⟨rfl, rfl, rfl, fun _ => rfl, rfl, hf, rfl, rfl, fun _ => ⟨rfl, rfl⟩⟩

theorem WorkFrame.modClaims (s : State) (k : Nat) : WorkFrame s (modPort (fun p => { p with claims := k }) s) :=
  ⟨rfl, rfl, rfl, fun _ => rfl, rfl, rfl, rfl, rfl, fun _ => ⟨rfl, rfl⟩⟩

theorem WorkFrame.askWriteBehindReset (w : StoreWrite) (s : State) : WorkFrame s (askWriteBehindReset w s) := by
  rcases askWriteBehindReset_cases w s with ⟨-, -, hq⟩ | ⟨-, hq⟩ <;> rw [hq] <;>
    exact ⟨rfl, rfl, rfl, fun _ => rfl, rfl, rfl, rfl, rfl, fun _ => ⟨rfl, rfl⟩⟩

/-- The work of lanes, visits and tickets keeps the frame. -/
theorem workFrame_workOps (s : State) : WorkOps (WorkFrame s) where
  capture hf h := h.trans (.modEngine _ hf)
  lane hf h := h.trans (.modLane _ (fun x => ⟨(hf x).1, (hf x).2.1⟩))
  station {l e f u} h := h.trans (.modLane (l := l) u (fun x => by cases e <;> exact ⟨rfl, rfl⟩))
  bridge h := h.trans (.of_eq rfl rfl rfl rfl rfl rfl rfl rfl rfl)
  offer _ h := h.trans (.offered (offer_frame _ _ _ _))
  record h := h.trans (.recorded (queueRecord_spec _ _).1)
  account h := h.trans (.of_eq rfl rfl rfl rfl rfl rfl rfl rfl rfl)
  refBank h := h.trans (.of_eq rfl rfl rfl rfl rfl rfl rfl rfl rfl)
  unrefBank h := h.trans (.of_eq rfl rfl rfl rfl rfl rfl rfl rfl rfl)
  visit _ h := h.trans (.of_eq rfl rfl rfl rfl rfl rfl rfl rfl rfl)
  removeVisit h := h.trans (.of_eq rfl rfl rfl rfl rfl rfl rfl rfl rfl)
  nextVisit h := h.trans (.of_eq rfl rfl rfl rfl rfl rfl rfl rfl rfl)
  visitOpens _ h := h.trans (.of_eq rfl rfl rfl rfl rfl rfl rfl rfl rfl)
  takeClaims h := h.trans (.recorded (takeClaims_frame _ _))
  releaseClaims h := h.trans (.modClaims _ _)
  spendClaim h := h.trans (.recorded (spendClaim_frame _ _))
  printer _ h := h.trans (.of_eq rfl rfl rfl rfl rfl rfl rfl rfl rfl)
  ticketJoins _ h := h.trans (.of_eq rfl rfl rfl rfl rfl rfl rfl rfl rfl)
  tickets _ h := h.trans (.of_eq rfl rfl rfl rfl rfl rfl rfl rfl rfl)
  ticketWrite h := h.trans (.askWriteBehindReset _ _)

theorem queueRecord_owed (body : RecordBody) (s : State) (f : OutFrame) (h : f ∈ outgoing s.port) :
    f ∈ outgoing (queueRecord body s).port := by
  unfold queueRecord enqueueRecord
  split
  · dsimp only
    split
    · exact mem_outgoing_makeReady h
    · exact h
  · exact h

/-- Lane work keeps the lane frame. -/
theorem laneFrame_laneOps (s : State) : LaneOps (LaneFrame s) where
  capture hf h := h.trans ⟨.modEngine _ hf, rfl, rfl, rfl, rfl, fun _ => id, fun _ => id⟩
  lane hf h := h.trans ⟨.modLane _ (fun x => ⟨(hf x).1, (hf x).2.1⟩), rfl, rfl, rfl, rfl, fun _ => id, fun _ => id⟩
  station {l e f u} h := h.trans
    ⟨.modLane (l := l) u (fun x => by cases e <;> exact ⟨rfl, rfl⟩), rfl, rfl, rfl, rfl, fun _ => id, fun _ => id⟩
  bridge h := h.trans ⟨.of_eq rfl rfl rfl rfl rfl rfl rfl rfl rfl, rfl, rfl, rfl, rfl, fun _ => id, fun _ => id⟩
  offer {a x o u} _ h :=
    have k := offer_frame a x o u
    h.trans ⟨.offered k, k.cal, k.claims, k.tables, k.visits, fun _ hr => k.records ▸ hr, fun f hf => offer_owed a x o u f hf⟩
  record {body u} h :=
    have k := queueRecord_spec body u
    h.trans ⟨.recorded k.1, by rw [k.1.rest], k.2.1, by rw [k.1.rest], by rw [k.1.rest], fun _ hr => mem_queueRecord hr,
      fun f hf => queueRecord_owed body u f hf⟩

/-! ### The bridge state derived -/

/-- A place altered to what it holds. -/
theorem alter_fixed {α : Type} {n : Nat} (v : Vector α n) (i : Fin n) {f : α → α} (h : f v[i.val] = v[i.val]) :
    alter v i f = v := by
  refine Vector.ext (fun j hj => (getElem_alter v i ⟨j, hj⟩ f).trans ?_)
  split
  · rename_i hij
    subst hij
    exact h
  · rfl

theorem setBridgeState_same {b : BridgeId} {s : State}
    (h : (s.engine[b]).status = statusOf s b ∧ (s.engine[b]).reasons = reasonsOf s b) : setBridgeState b s = s := by
  unfold setBridgeState
  rw [← h.1, ← h.2]
  exact congrArg (fun x => { s with engine := x }) 
    (alter_fixed s.engine b (f := fun e => { e with status := (s.engine[b]).status, reasons := (s.engine[b]).reasons }) rfl)

@[simp] theorem setBridgeState_port (b : BridgeId) (s : State) : (setBridgeState b s).port = s.port := rfl

@[simp] theorem setBridgeState_cal (b : BridgeId) (s : State) : (setBridgeState b s).cal = s.cal := rfl

@[simp] theorem setBridgeState_seq (b : BridgeId) (s : State) : (setBridgeState b s).seq = s.seq := rfl

/-- Behind the state and reasons it sets, the derivation does lane work alone. -/
theorem deriveBridge_laneFrame (b : BridgeId) (s : State) : LaneFrame (setBridgeState b s) (deriveBridge b s) := by
  have ops := laneFrame_laneOps (setBridgeState b s)
  unfold deriveBridge
  dsimp only
  split
  · rename_i same
    rw [setBridgeState_same same]
    exact .refl s
  · exact ops.bridgeStateTold (ops.record (.refl _))

/-- The engine of a bridge whose state has been derived. -/
theorem deriveBridge_engine (b : BridgeId) (s : State) : (deriveBridge b s).engine[b] =
    { s.engine[b] with status := statusOf s b, reasons := reasonsOf s b,
                       capture := ((deriveBridge b s).engine[b]).capture } := by
  have h := (deriveBridge_laneFrame b s).engine b
  have hs : (setBridgeState b s).engine[b] = { s.engine[b] with status := statusOf s b, reasons := reasonsOf s b } := by
    simp [setBridgeState]
  rw [h, hs]

/-- Of another bridge's engine the derivation leaves all but the capture request. -/
theorem deriveBridge_engine_other {b k : BridgeId} (s : State) (h : b ≠ k) : (deriveBridge b s).engine[k] =
    { s.engine[k] with capture := ((deriveBridge b s).engine[k]).capture } := by
  have hs : (setBridgeState b s).engine[k] = s.engine[k] := by
    simp only [setBridgeState, Fin.getElem_fin, modEngine_engine]
    exact getElem_alter_ne _ h _
  rw [(deriveBridge_laneFrame b s).engine k, hs]

end Sys2Proof.Machine

namespace Sys2Proof.Machine

/-! ## The bridge sample (R5 to R13) -/

/-- The quotient to the nearest integer is within half a divisor. -/
theorem roundDiv_near (a : Int) {d : Nat} (h : 0 < d) : 2 * |(d : Int) * roundDiv a d - a| ≤ d := by
  have near : ∀ n : Int, 2 * |(d : Int) * ((2 * n + d) / (2 * d)) - n| ≤ d := by
    intro n
    have hd : (0 : Int) < 2 * d := by omega
    have h1 := Int.emod_nonneg (2 * n + d) hd.ne'
    have h2 := Int.emod_lt_of_pos (2 * n + d) hd
    have h3 := Int.mul_ediv_add_emod (2 * n + d) (2 * d)
    generalize (2 * n + d) / (2 * (d : Int)) = q at h3 ⊢
    generalize hp : (d : Int) * q = p
    have h4 : 2 * (d : Int) * q = 2 * p := by rw [← hp]; ring
    rw [h4] at h3
    have : |p - n| = p - n ∨ |p - n| = -(p - n) := abs_choice _
    omega
  unfold roundDiv
  split
  · exact near a
  · have := near (-a)
    rw [mul_neg]
    have flip : -(↑d * ((2 * -a + ↑d) / (2 * (d : Int)))) - a = -(↑d * ((2 * -a + ↑d) / (2 * ↑d)) - -a) := by ring
    rw [flip, abs_neg]
    exact this

theorem toDivision_dvd (e : Nat) (n : Int) : (e : Int) ∣ toDivision e n := ⟨_, rfl⟩

/-- W is the multiple of e nearest to the net. -/
theorem toDivision_near {e : Nat} (n : Int) (h : 0 < e) : 2 * |10 * toDivision e n - n| ≤ 10 * (e : Int) := by
  have near := roundDiv_near n (d := 10 * e) (by omega)
  unfold toDivision
  push_cast at near
  rw [← mul_assoc]
  exact near

/-- An engine with another out-of-range episode mark. -/
def Engine.marked (e : Engine) (x : Bool) : Engine := { e with episode := x }

/-- An engine with another state, reason list and capture request. -/
def Engine.judged (e : Engine) (st : BridgeStatus) (rs : Reasons) (c : Option CaptureRequest) : Engine :=
  { e with status := st, reasons := rs, capture := c }

theorem deriveBridge_judged (b : BridgeId) (s : State) : (deriveBridge b s).engine[b] =
    (s.engine[b]).judged (statusOf s b) (reasonsOf s b) ((deriveBridge b s).engine[b]).capture :=
  deriveBridge_engine b s

/-- With a zero established the initial zero is not tried: at most the episode mark is cleared. -/
theorem establishZero_established {s : State} {b : BridgeId} {d : CalData} {z : Zero} (h : (s.engine[b]).zero = some z) :
    ∃ x, (establishZero b d s).engine[b] = (s.engine[b]).marked x := by
  have tried : zeroTried s b = false := by
    unfold zeroTried
    extract_lets e
    rw [show e.zero = some z from h]
    rfl
  unfold establishZero
  rw [tried]
  dsimp only
  split
  · rename_i hf
    cases hf
  · split
    · exact ⟨_, rfl⟩
    · exact ⟨false, by simp [Engine.marked]⟩

/-- The engine after a valid sample with a zero established. -/
theorem validSample_engine {s : State} {b : BridgeId} {d : CalData} {z : Zero} (h : (s.engine[b]).zero = some z) :
    ∃ x st rs c, (validSample b d s).engine[b] =
      (Engine.weigh (((s.engine[b]).windows (bandInUse (s.engine[b]).params d.e)
            (wFine d (fun p => (((s.engine[b]).samples[p]).count).getD 0))).marked x) d
          (d.positions.any (fun p => ((s.engine[b]).samples[p]).overrange))
          (d.positions.any (fun p => ((s.engine[b]).samples[p]).underrange))).judged st rs c := by
  unfold validSample
  extract_lets e w over_ under s1 s2
  have h1 : s1.engine[b] = e.windows (bandInUse e.params d.e) w := by simp [s1, e]
  obtain ⟨x, hx⟩ := establishZero_established (s := s1) (b := b) (d := d) (z := z) (by rw [h1]; exact h)
  have h3 : (modEngine b (fun e => e.weigh d over_ under) s2).engine[b] = (s2.engine[b]).weigh d over_ under := by simp
  have h2 : s2.engine[b] = (e.windows (bandInUse e.params d.e) w).marked x := by rw [← h1]; exact hx
  rw [h2] at h3
  exact ⟨x, _, _, _, (deriveBridge_judged b _).trans (congrArg (fun e => Engine.judged e _ _ _) h3)⟩

/-- Stages 6 to 8 with a zero established: W is the average less Z_b, to the division. -/
theorem Engine.weigh_established {e : Engine} {z : Zero} {a : Int} (hz : e.zero = some z) (ha : e.wAvg = some a)
    (d : CalData) (o u : Bool) : e.weigh d o u =
      { e with
        w := some (toDivision d.e (a - z.zb)),
        live := liveState d.e d.max (toDivision d.e (a - z.zb)) o u true e.stable,
        occupied := decide (((e.params.threshold * d.e : Nat) : Int) ≤ toDivision d.e (a - z.zb)),
        zeroReturn := e.zeroReturn
          || (liveState d.e d.max (toDivision d.e (a - z.zb)) o u true e.stable == .stable
              && decide (toDivision d.e (a - z.zb) = 0)) } := by
  unfold Engine.weigh
  rw [hz, ha]
  rfl

/-- The hold count ends in motion and counts up to 64 otherwise. -/
theorem Engine.windows_hold (e : Engine) (band w : Int) :
    (e.windows band w).hold = 0 ∨ (e.windows band w).hold = min 64 (e.hold + 1) := by
  unfold Engine.windows
  dsimp only
  split
  · exact .inl rfl
  · exact .inr rfl

/-- Behind an invalid sample the sequencer's tests leave of the engine all but the capture request. -/
theorem bridgeSample_invalid {s : State} {b : BridgeId} (h : sampleValid s b = false) :
    (bridgeSample b s).engine[b] = { (s.engine[b]).invalidSample with capture := ((bridgeSample b s).engine[b]).capture } := by
  have hs : (modEngine b Engine.invalidSample s).engine[b] = (s.engine[b]).invalidSample := by simp
  have hb : bridgeSample b s = sampleReport b (modEngine b Engine.invalidSample s) := by
    unfold bridgeSample
    rw [h]
    rcases source s b with _ | d <;> rfl
  rw [hb, ← hs]
  exact ((workFrame_workOps (modEngine b Engine.invalidSample s)).sampleReport (.refl _)).engine b

/-- An invalid sample short of the third in a run. -/
theorem invalidSample_early {e : Engine} (h : e.invalidRun < 2) : e.invalidSample =
    { e with hold := 0, live := .invalid, stable := false, occupied := true, invalidRun := e.invalidRun + 1 } :=
  if_neg (show ¬ 3 ≤ e.invalidRun + 1 by omega)

/-- The third invalid sample in a run. -/
theorem invalidSample_third {e : Engine} (h : 2 ≤ e.invalidRun) : e.invalidSample =
    { e with hold := 0, live := .invalid, stable := false, occupied := true, filter := [], motion := [], w := none,
             wAvg := none, invalidRun := 0 } :=
  if_pos (show 3 ≤ e.invalidRun + 1 by omega)

end Sys2Proof.Machine

namespace Sys2Proof.Certificates
open Sys2Proof.Machine

/-- Settles O43: a valid sample is read off the stages of the engine, an invalid one off its two cases. -/
theorem bridgeSampleWeighs : Obligations.BridgeSampleWeighs := by
  unfold Obligations.BridgeSampleWeighs
  refine ⟨?_, ?_⟩
  · intro s b d z hd hz he e t filter
    obtain ⟨x, st, rs, c, ht⟩ := validSample_engine (d := d) hz
    change t = _ at ht
    rw [Engine.weigh_established (z := z) (a := average filter) (by exact hz) (by rfl)] at ht
    clear_value t
    subst ht
    refine ⟨toDivision d.e (average filter - z.zb), rfl, rfl, rfl, toDivision_dvd _ _, toDivision_near _ he, decide_eq_true_iff,
      Engine.windows_hold _ _ _, rfl, decide_eq_true_iff, rfl, hz, fun hl hw => ?_⟩
    change liveState _ _ _ _ _ _ _ = _ at hl
    change (_ || _) = true
    rw [hl, hw]
    exact Bool.or_true _
  · intro s b hv e t
    have ht : t = _ := bridgeSample_invalid hv
    clear_value t
    rcases lt_or_ge (s.engine[b]).invalidRun 2 with early | third
    · rw [invalidSample_early early] at ht
      subst ht
      exact ⟨rfl, rfl, rfl, rfl, rfl, fun _ => ⟨rfl, rfl, rfl, rfl, rfl⟩, fun third => absurd early (not_lt.2 third)⟩
    · rw [invalidSample_third third] at ht
      subst ht
      exact ⟨rfl, rfl, rfl, rfl, rfl, fun early => absurd early (not_lt.2 third), fun _ => ⟨rfl, rfl, rfl, rfl, rfl⟩⟩

end Sys2Proof.Certificates

namespace Sys2Proof.Machine

/-! ## Calibration sessions (R34, R36, R45) -/

/-- The owners of the requests of a calibration session. -/
def sessionOwners : List (Byte → List (Option Value) → State → Reply) :=
  [calBegin, calZero, calSpan, calCorner, calTrim, calSetLimits, calCommit, calAbort]

/-- With the enable line deasserted a request of a session is LOCKED (R34). -/
theorem sessionOwners_locked {owner} (ho : owner ∈ sessionOwners) {tag : Byte} {vs : List (Option Value)} {s : State}
    (h : s.calEnable = false) : owner tag vs s = reply .locked s := by
  have locked : (!s.calEnable) = true := by rw [h]; rfl
  simp only [sessionOwners, List.mem_cons, List.not_mem_nil, or_false] at ho
  rcases ho with rfl | rfl | rfl | rfl | rfl | rfl | rfl | rfl <;> exact if_pos locked

/-- The request rows 5 to 12 are those of a calibration session. -/
theorem sessionRequest {c : Instr} {code : Nat} {layout : List Field} (h : requestOf c = some (code, layout)) (h5 : 5 ≤ code)
    (h12 : code ≤ 12) : ∃ owner ∈ sessionOwners, ∀ s, exec c s = act (takeRequest code layout owner) s := by
  cases c
  case calBegin => cases h; exact ⟨calBegin, by simp [sessionOwners], fun _ => rfl⟩
  case calZero => cases h; exact ⟨calZero, by simp [sessionOwners], fun _ => rfl⟩
  case calSpan => cases h; exact ⟨calSpan, by simp [sessionOwners], fun _ => rfl⟩
  case calCorner => cases h; exact ⟨calCorner, by simp [sessionOwners], fun _ => rfl⟩
  case calTrim => cases h; exact ⟨calTrim, by simp [sessionOwners], fun _ => rfl⟩
  case calSetLimits => cases h; exact ⟨calSetLimits, by simp [sessionOwners], fun _ => rfl⟩
  case calCommit => cases h; exact ⟨calCommit, by simp [sessionOwners], fun _ => rfl⟩
  case calAbort => cases h; exact ⟨calAbort, by simp [sessionOwners], fun _ => rfl⟩
  all_goals cases h <;> omega

/-- The session CAL BEGIN opens on a bridge with a VALID record (R36). -/
def openedSession (s : State) (b : BridgeId) : Session :=
  { bridge := b, work := (s.cal.store.records[b]).content.data, corners := noCorners, savedZero := (s.engine[b]).zero,
    savedReturn := (s.engine[b]).zeroReturn, step := none, commit := none }

theorem calBegin_opens {s : State} {b : BridgeId} {tag : Byte} (he : s.calEnable = true) (hx : s.cal.session = none)
    (hserv : (s.engine[b]).outOfService = false) (hg : granted s b = false) (hv : (s.cal.store.records[b]).valid = true)
    (hfree : canClaim 1 s = true) : calBegin tag [some (.num (b.val + 1)), none] s =
      reply .done (deriveBridge b (modCal (fun c => { c with session := some (openedSession s b) }) (takeClaims 1 s))) := by
  have hcopy : beginCopy (s.cal.store.records[b]) none = some (s.cal.store.records[b]).content.data := by
    unfold beginCopy
    rw [hv]
  unfold calBegin
  simp only [he, bridgeOf_val, hx, hserv, hg, hcopy, hfree, Bool.not_true, Bool.false_eq_true, if_false,
    Option.isSome_none]
  rfl

theorem statusOf_calibrating {s : State} {b : BridgeId} (hserv : (s.engine[b]).outOfService = false)
    (hx : sessionOn s b = true) : statusOf s b = .calibrating := by
  unfold statusOf
  rw [hserv, hx]
  rfl

theorem sessionOn_of {s : State} {x : Session} (hx : s.cal.session = some x) : sessionOn s x.bridge = true := by
  simp [sessionOn, hx]

theorem takeClaims_granted {k : Nat} {s : State} (h : canClaim k s = true) :
    takeClaims k s = modPort (fun p => { p with claims := p.claims + k }) s :=
  if_pos (of_decide_eq_true h)

theorem calAbort_closes {s : State} {x : Session} {tag : Byte} (he : s.calEnable = true) (hx : s.cal.session = some x)
    (hc : x.commit = none) : calAbort tag [some (.num (x.bridge.val + 1))] s =
      reply .done (deriveBridge x.bridge (judge x.bridge (dropSession x (endStep .state s)))) := by
  have hs : sessionOf s x.bridge = some x := by simp [sessionOf, hx]
  unfold calAbort
  simp only [he, bridgeOf_val, hs, hc, Bool.not_true, Bool.false_eq_true, if_false, Option.isSome_none]

/-- The judgement sets the restricted marks and nothing else. -/
theorem judge_eq (b : BridgeId) (s : State) : ∃ r, judge b s = modCal (fun c => { c with restricted := r }) s := by
  unfold judge
  split
  · exact ⟨_, rfl⟩
  · exact ⟨s.cal.restricted, rfl⟩

theorem dropSession_port (x : Session) (s : State) :
    (dropSession x s).port = { s.port with claims := s.port.claims - 1 } := rfl

theorem endStep_claims (r : Result) (s : State) : (endStep r s).port.claims = s.port.claims := by
  unfold endStep
  split
  · unfold answer
    rw [makeReady_rest]
    rfl
  · rfl

/-- The step in progress is answered while the link is UP. -/
theorem endStep_answers {s : State} {x : Session} {run : StepRun} {r : Result} (hx : s.cal.session = some x)
    (hrun : x.step = some run) (hup : s.port.up = true) : .answer run.tag (u8 r.code) ∈ outgoing (endStep r s).port := by
  unfold endStep
  rw [hx]
  simp only [Option.bind_some, hrun]
  rw [show u8 r.code = u8 r.code ++ [] from (List.append_nil _).symm]
  exact makeReady_mem (by exact hup)

end Sys2Proof.Machine

namespace Sys2Proof.Certificates
open Sys2Proof.Machine

/-- CAL BEGIN opens a session on the VALID record (R36). -/
theorem calBegin_session (s : State) (tag : Byte) (b : BridgeId)
    (h : RequestAt s 5 calBeginLayout tag [some (.num (b.val + 1)), none]) (he : s.calEnable = true)
    (hx : s.cal.session = none) (hserv : (s.engine[b]).outOfService = false) (hg : granted s b = false)
    (hv : (s.cal.store.records[b]).valid = true) (hfree : 1 ≤ unclaimedFree s) :
    ∃ t, Answers .calBegin s tag .done [] t ∧ t.cal.session = some (openedSession s b)
      ∧ t.port.claims = s.port.claims + 1 ∧ (t.engine[b]).status = .calibrating
      ∧ (t.engine[b]).zero = (s.engine[b]).zero := by
  have hcan : canClaim 1 (fresh s) = true := decide_eq_true hfree
  set u := modCal (fun c => { c with session := some (openedSession (fresh s) b) }) (takeClaims 1 (fresh s)) with hu
  have frame := deriveBridge_laneFrame b u
  have heng := deriveBridge_engine b u
  rw [takeClaims_granted hcan] at hu
  have hstatus : statusOf u b = .calibrating :=
    statusOf_calibrating (by rw [hu]; exact hserv) (sessionOn_of (x := openedSession (fresh s) b) (by rw [hu]; rfl))
  refine ⟨deriveBridge b u, answers_of_owner rfl h (calBegin_opens he hx hserv hg hv hcan), ?_, ?_, ?_, ?_⟩
  · rw [frame.store]
    rfl
  · rw [frame.claims, hu]
    rfl
  · rw [heng]
    exact hstatus
  · rw [heng, hu]
    rfl

/-- CAL ABORT puts the saved zero and mark back and closes the session (R45). -/
theorem calAbort_session (s : State) (tag : Byte) (x : Session)
    (h : RequestAt s 12 calAbortLayout tag [some (.num (x.bridge.val + 1))]) (he : s.calEnable = true)
    (hx : s.cal.session = some x) (hc : x.commit = none) :
    ∃ t, Answers .calAbort s tag .done [] t ∧ t.cal.session = none ∧ (t.engine[x.bridge]).zero = x.savedZero
      ∧ (t.engine[x.bridge]).zeroReturn = x.savedReturn ∧ t.port.claims = s.port.claims - 1
      ∧ (∀ run, x.step = some run → s.port.up = true → .answer run.tag (u8 Result.state.code) ∈ outgoing t.port) := by
  set u := dropSession x (endStep .state (fresh s)) with hu
  obtain ⟨r, hj⟩ := judge_eq x.bridge u
  have frame := deriveBridge_laneFrame x.bridge (judge x.bridge u)
  have heng := deriveBridge_engine x.bridge (judge x.bridge u)
  have hzero : (u.engine[x.bridge]).zero = x.savedZero ∧ (u.engine[x.bridge]).zeroReturn = x.savedReturn := by
    simp [hu, dropSession, releaseClaims]
  refine ⟨deriveBridge x.bridge (judge x.bridge u), answers_of_owner rfl h (calAbort_closes he hx hc), ?_, ?_, ?_, ?_,
    fun run hrun hup => frame.owed _ ?_⟩
  · rw [frame.store, hj]
    rfl
  · rw [heng, hj]
    exact hzero.1
  · rw [heng, hj]
    exact hzero.2
  · rw [frame.claims, setBridgeState_port, hj, modCal_port, hu, dropSession_port]
    show (endStep .state (fresh s)).port.claims - 1 = _
    rw [endStep_claims]
    rfl
  · rw [setBridgeState_port, hj, modCal_port, hu, dropSession_port]
    have owed := endStep_answers (s := fresh s) (r := .state) hx hrun hup
    exact owed

/-- Settles O45: the enable line is tested first, then the owners of CAL BEGIN and CAL ABORT run. -/
theorem calibrationSessions : Obligations.CalibrationSessions := by
  unfold Obligations.CalibrationSessions
  refine ⟨fun c code layout s tag vs hc h5 h12 h he => ?_, calBegin_session, calAbort_session⟩
  obtain ⟨owner, ho, run⟩ := sessionRequest hc h5 h12
  exact answers_of_owner (run s) h (sessionOwners_locked ho he)

end Sys2Proof.Certificates

namespace Sys2Proof.Machine

/-! ## Completed writes (R31, R43, R44, R180, R182) -/

theorem settleWrite_busy {s : State} (h : s.cal.store.inFlight ≠ none) : settleWrite s = s := by
  unfold settleWrite
  split
  · exact absurd ‹_› h
  · rfl

theorem settleWrite_noReset {s : State} (h : s.port.resetAsked = none) : settleWrite s = s := by
  unfold settleWrite
  split
  · rename_i hk
    cases h.symm.trans hk
  · rfl

/-- A completion of the row's kind runs its own work, then what waited for it. -/
theorem exec_write {c : Instr} {kind : StoreWrite → Bool} {f : State → State} {s : State} {w : StoreWrite}
    (hc : exec c s = act (onWrite kind f) s) (hp : s.powered = true) (hf : s.cal.store.inFlight = some w)
    (hk : kind w = true) : exec c s = .next (settleWrite (f (fresh s))) := by
  rw [hc, act_of_powered hp]
  unfold onWrite
  rw [show (fresh s).cal.store.inFlight = some w from hf]
  exact congrArg _ (if_pos hk)

/-- With no reset and no write waiting, the store is idle at the end of a write. -/
theorem writeEnds_idle {s : State} (f : Store → Store) (hr : s.port.resetAsked = none) (ha : (f s.cal.store).asked = []) :
    writeEnds (modStore f s) = modStore (fun st => { f st with inFlight := none }) s := by
  rw [writeEnds_next (s := modStore f s) hr, nextWrite_nil (s := modStore f s) ha]
  rfl

/-- With no reset waiting, the oldest write asked for is in flight at the end of a write. -/
theorem writeEnds_follows {s : State} (f : Store → Store) {w : StoreWrite} {rest : List StoreWrite}
    (hr : s.port.resetAsked = none) (ha : (f s.cal.store).asked = w :: rest) :
    (writeEnds (modStore f s)).cal.store.inFlight = some w := by
  rw [writeEnds_next (s := modStore f s) hr, nextWrite_cons (s := modStore f s) ha]
  rfl

theorem startNumbering_idle {s : State} (h : s.tickets.numbering = []) : startNumbering s = s := by
  unfold startNumbering
  split
  · rename_i hl
    cases h.symm.trans hl
  · rfl

/-- No ticket starts printing on a printer whose fill is DEGRADED (R185). -/
theorem startHead_degraded {s : State} {l : LaneId} (h : (roleOf s (.printer l)).fill = .degraded) : startHead l s = s := by
  unfold startHead runHead
  split
  · rfl
  · rw [h]
    simp only [ne_eq, ite_self]

theorem ticketNumbered_eq {s : State} {next : Nat} {x : Nat × LaneId × Nat} (hf : s.cal.store.inFlight = some (.ticket next))
    (ht : s.tickets.inFlight = some x) : ticketNumbered s =
      startHead x.2.1 (startNumbering (modOriginal x.2.1 x.1 (fun t => { t with number := some x.2.2, stage := .waiting })
        (modTickets (fun t => { t with inFlight := none })
          (writeEnds (modStore (fun st => { st with ticket := written u32 next }) s))))) := by
  unfold ticketNumbered
  rw [hf, ht]

theorem numberSet_eq {s : State} {v : Nat} {tag : Byte} (hf : s.cal.store.inFlight = some (.setTicket v tag)) :
    numberSet s = startNumbering (answer tag .done [] (writeEnds (modStore (fun st => { st with ticket := written u32 v }) s))) := by
  unfold numberSet
  rw [hf]

/-- A write in flight stays in flight under the work of lanes, visits and tickets. -/
theorem inFlight_workOps (w : StoreWrite) : WorkOps (fun t => t.cal.store.inFlight = some w) where
  capture _ h := h
  lane _ h := h
  station h := h
  bridge h := h
  offer {a f o s} _ h := by rw [(offer_frame a f o s).cal]; exact h
  record {body s} h := by rw [(queueRecord_spec body s).1.rest]; exact h
  account h := h
  refBank h := h
  unrefBank h := h
  visit _ h := h
  removeVisit h := h
  nextVisit h := h
  visitOpens _ h := h
  takeClaims {k s} h := by rw [(takeClaims_frame k s).rest]; exact h
  releaseClaims h := h
  spendClaim {body s} h := by rw [(spendClaim_frame body s).rest]; exact h
  printer _ h := h
  ticketJoins _ h := h
  tickets _ h := h
  ticketWrite {k s} h := by
    rcases askWriteBehindReset_cases (.ticket k) s with ⟨-, hn, -⟩ | ⟨-, hq⟩
    · exact absurd (hn.symm.trans h) nofun
    · rw [hq]
      exact h

/-! ### What judgements and derivations leave as it was -/

/-- All that judging and deriving bridges leaves of the session, the store and the port. -/
structure DeriveFrame (s t : State) : Prop where
  session : t.cal.session = s.cal.session
  store : t.cal.store = s.cal.store
  claims : t.port.claims = s.port.claims
  resetAsked : t.port.resetAsked = s.port.resetAsked
  records : ∀ r ∈ s.port.records, r ∈ t.port.records
  owed : ∀ f ∈ outgoing s.port, f ∈ outgoing t.port

theorem DeriveFrame.refl (s : State) : DeriveFrame s s := ⟨rfl, rfl, rfl, rfl, fun _ => id, fun _ => id⟩

theorem DeriveFrame.trans {s t u : State} (h : DeriveFrame s t) (k : DeriveFrame t u) : DeriveFrame s u :=
  ⟨k.session.trans h.session, k.store.trans h.store, k.claims.trans h.claims, k.resetAsked.trans h.resetAsked,
    fun r hr => k.records r (h.records r hr), fun f hf => k.owed f (h.owed f hf)⟩

theorem judge_deriveFrame (b : BridgeId) (s : State) : DeriveFrame s (judge b s) := by
  obtain ⟨r, hr⟩ := judge_eq b s
  rw [hr]
  exact ⟨rfl, rfl, rfl, rfl, fun _ => id, fun _ => id⟩

theorem deriveBridge_deriveFrame (b : BridgeId) (s : State) : DeriveFrame s (deriveBridge b s) := by
  have h := deriveBridge_laneFrame b s
  exact ⟨by rw [h.store]; rfl, by rw [h.store]; rfl, h.claims, by rw [h.port]; rfl, h.records, h.owed⟩

/-- The record of a commit, as the store holds it. -/
def commitBody (s : State) (b : BridgeId) : RecordBody :=
  let r := (s.cal.store.records[b]).content
  .calibrationCommitted b r.audit r.commitTime r.data.n r.data.e r.data.max r.data.gain r.data.zCal r.data.serials

/-- The counter written and the claim of the commit spent. -/
def commitSpent (b : BridgeId) (v : Nat) (s : State) : State :=
  let t := writeEnds (modStore (fun st => { st with counter := written u16 v }) s)
  spendClaim (commitBody t b) t

theorem commitSpent_spec {s : State} (b : BridgeId) (v : Nat) (h : 1 ≤ s.port.claims) :
    (commitSpent b v s).cal.session = s.cal.session ∧ (commitSpent b v s).cal.store.counter = written u16 v
      ∧ (commitSpent b v s).port.claims = s.port.claims - 1 ∧ (commitSpent b v s).port.resetAsked = s.port.resetAsked
      ∧ (commitSpent b v s).port.up = s.port.up
      ∧ ∃ y ∈ (commitSpent b v s).port.records, y.body = commitBody s b := by
  obtain ⟨w, asked, -, he⟩ := writeEnds_eq (modStore (fun st => { st with counter := written u16 v }) s)
  unfold commitSpent
  rw [he]
  dsimp only
  set u := modStore (fun st => { st with inFlight := w, asked := asked })
    (modStore (fun st => { st with counter := written u16 v }) s)
  obtain ⟨frame, hclaims, hrecords⟩ := spendClaim_spec (commitBody u b) u h
  refine ⟨by rw [frame.rest]; rfl, by rw [frame.rest]; rfl, hclaims, by rw [frame.port]; rfl, by rw [frame.port]; rfl,
    ⟨u.port.nextRecord, stamp u, commitBody u b⟩, ?_, rfl⟩
  rw [hrecords]
  exact List.mem_append_right _ (List.mem_singleton_self _)

/-- The session is closed and its commit answered, then the four bridges are judged and derived (R44). -/
theorem counterWritten_eq {s : State} {b : BridgeId} {v : Nat} {x : Session} {tag : Byte} (h : 1 ≤ s.port.claims)
    (hf : s.cal.store.inFlight = some (.counter b v)) (hx : s.cal.session = some x) (hc : x.commit = some tag) :
    counterWritten s = allBridges.foldl (fun s b => deriveBridge b s) (allBridges.foldl (fun s b => judge b s)
      (modCal (fun c => { c with session := none }) (answer tag .done [] (commitSpent b v s)))) := by
  have hcommit : (commitSpent b v s).cal.session.bind (·.commit) = some tag := by
    rw [(commitSpent_spec b v h).1, hx]
    exact hc
  have hmatch : (match (commitSpent b v s).cal.session.bind (·.commit) with
      | some tag => answer tag .done [] (commitSpent b v s)
      | none => commitSpent b v s) = answer tag .done [] (commitSpent b v s) := by rw [hcommit]
  unfold counterWritten
  rw [hf, ← hmatch]
  rfl

/-- The counter write of a commit completes: the session is closed, its claim spent and its commit answered (R44). -/
theorem counterWritten_closes {s : State} {b : BridgeId} {v : Nat} {x : Session} {tag : Byte}
    (h : 1 ≤ s.port.claims) (hf : s.cal.store.inFlight = some (.counter b v)) (hx : s.cal.session = some x)
    (hc : x.commit = some tag) :
    (counterWritten s).cal.session = none ∧ (counterWritten s).cal.store.counter = written u16 v
      ∧ (counterWritten s).port.claims = s.port.claims - 1 ∧ (counterWritten s).port.resetAsked = s.port.resetAsked
      ∧ (∃ y ∈ (counterWritten s).port.records, y.body = commitBody s b)
      ∧ (s.port.up = true → .answer tag (u8 Result.done.code) ∈ outgoing (counterWritten s).port) := by
  obtain ⟨-, hcounter, hclaims, hreset, hup, y, hy, hbody⟩ := commitSpent_spec b v h
  have answered : answer tag .done [] (commitSpent b v s) = makeReady (.answer tag (u8 Result.done.code))
      (commitSpent b v s) := by
    unfold answer
    rw [List.append_nil]
  rw [counterWritten_eq h hf hx hc, answered]
  set u := makeReady (.answer tag (u8 Result.done.code)) (commitSpent b v s) with hu
  have rest := makeReady_rest (.answer tag (u8 Result.done.code)) (commitSpent b v s)
  rw [← hu] at rest
  have frame : DeriveFrame (modCal (fun c => { c with session := none }) u)
      (allBridges.foldl (fun s b => deriveBridge b s) (allBridges.foldl (fun s b => judge b s)
        (modCal (fun c => { c with session := none }) u))) :=
    LaneOps.foldl (fun t b ht => ht.trans (deriveBridge_deriveFrame b t)) _
      (LaneOps.foldl (fun t b ht => ht.trans (judge_deriveFrame b t)) _ (.refl _))
  refine ⟨frame.session, ?_, ?_, ?_, ⟨y, frame.records y ?_, hbody⟩, fun h => frame.owed _ ?_⟩
  · rw [frame.store]
    show u.cal.store.counter = _
    rw [rest, ← hcounter]
  · rw [frame.claims]
    show u.port.claims = _
    rw [rest, ← hclaims]
  · rw [frame.resetAsked]
    show u.port.resetAsked = _
    rw [rest, ← hreset]
  · show y ∈ u.port.records
    rw [rest]
    exact hy
  · exact makeReady_mem (hup.trans h)

end Sys2Proof.Machine

namespace Sys2Proof.Certificates
open Sys2Proof.Machine

/-- Settles O37: each completion runs its own work, and with no reset waiting nothing follows it. -/
theorem storeWritesComplete : Obligations.StoreWritesComplete := by
  unfold Obligations.StoreWritesComplete
  refine ⟨?_, ?_, ?_, ?_, ?_⟩
  · intro s b r hp hf
    set u := modStore (fun st => { st with
      records := put st.records b { content := r, check := crc16 (CalRecord.bytes r), valid := true },
      inFlight := some (.counter b r.audit) }) (fresh s) with hu
    have hw : recordWritten (fresh s) = deriveBridge b u := by
      unfold recordWritten
      rw [show (fresh s).cal.store.inFlight = some (.record b r) from hf]
      rfl
    have busy : (deriveBridge b u).cal.store.inFlight ≠ none := by
      rw [(deriveBridge_deriveFrame b u).store]
      exact Option.some_ne_none _
    rw [exec_write (c := .commitRecordWriteDone) (f := recordWritten) rfl hp hf rfl, hw, settleWrite_busy busy]
  · intro s b v x tag hp hr hf hx hc hclaim
    obtain ⟨hsession, hcounter, hclaims, hreset, hrecord, howed⟩ := counterWritten_closes (s := fresh s) hclaim hf hx hc
    have run := exec_write (c := .commitCounterWriteDone) (f := counterWritten) rfl hp hf rfl
    rw [settleWrite_noReset (hreset.trans hr)] at run
    exact ⟨_, run, hsession, hcounter, hclaims, hrecord, howed⟩
  · intro s next k v l hp hr hf ha ht hn hfill
    rw [exec_write (c := .ticketNumberWriteDone) (f := ticketNumbered) rfl hp hf rfl, ticketNumbered_eq (s := fresh s) hf ht,
      writeEnds_idle _ (s := fresh s) hr ha]
    dsimp only
    rw [startNumbering_idle (by exact hn), startHead_degraded (by exact hfill), settleWrite_noReset (by exact hr)]
    rfl
  · intro s next x w rest hp hr hf ha ht
    have run := exec_write (c := .ticketNumberWriteDone) (f := ticketNumbered) rfl hp hf rfl
    have ops := inFlight_workOps w
    have waits : (ticketNumbered (fresh s)).cal.store.inFlight = some w := by
      rw [ticketNumbered_eq (s := fresh s) hf ht]
      exact ops.startHead (ops.startNumbering (ops.modOriginal (ops.tickets (fun _ => rfl)
        (writeEnds_follows _ (s := fresh s) hr ha))))
    rw [settleWrite_busy (by rw [waits]; exact Option.some_ne_none w)] at run
    exact ⟨_, run, waits⟩
  · intro s v tag hp hr hf ha hn
    set u := modStore (fun st => { st with
      ticket := { content := v, check := crc16 (u32 v), valid := true }, inFlight := none }) (fresh s) with hu
    have frame := answer_frame tag .done [] u
    have hw : numberSet (fresh s) = answer tag .done [] u := by
      rw [numberSet_eq (s := fresh s) hf, writeEnds_idle _ (s := fresh s) hr ha]
      exact startNumbering_idle (s := answer tag .done [] u) (by rw [frame.rest]; exact hn)
    rw [exec_write (c := .setTicketNumberWriteDone) (f := numberSet) rfl hp hf rfl, hw,
      settleWrite_noReset (by rw [frame.port]; exact hr)]

end Sys2Proof.Certificates

namespace Sys2Proof.Machine

/-! ## Settings taken at an end of their range (R25) -/

theorem clamp_eq_iff {lo hi v : Nat} : clamp lo hi v = v ↔ lo ≤ v ∧ v ≤ hi := by
  unfold clamp
  split_ifs <;> omega

theorem clampInt_eq_iff {lo hi v : Int} : clampInt lo hi v = v ↔ lo ≤ v ∧ v ≤ hi := by
  unfold clampInt
  split_ifs <;> omega

theorem map_clampInt_eq_iff {lo hi : Int} (o : Option Int) :
    o.map (clampInt lo hi) = o ↔ ∀ x, o = some x → lo ≤ x ∧ x ≤ hi := by
  cases o <;> simp [clampInt_eq_iff]

theorem setParams_eq (e : Engine) (p : BridgeParams) : e.setParams p =
    if e.params.n = p.n ∧ e.params.m = p.m then { e with params := p }
    else { e with params := p, filter := [], motion := [], hold := 0, stable := false } := by
  unfold Engine.setParams
  by_cases h : e.params.n = p.n ∧ e.params.m = p.m
  · rw [if_pos h, if_neg (by simp [h])]
  · rw [if_neg h, if_pos (by tauto)]

/-- The parameters as the request's five values are taken. -/
def clampedParams (n m hold threshold : Nat) (band : Option Int) : BridgeParams :=
  { n := clamp 1 32 n, m := clamp 2 32 m, band := band.map (clampInt 1 10000), hold := clamp 1 64 hold,
    threshold := clamp 5 500 threshold }

/-- DONE when no value was clamped (R25). -/
def clampedResult (n m hold threshold : Nat) (band : Option Int) : Result :=
  let p := clampedParams n m hold threshold band
  if p.n = n ∧ p.m = m ∧ p.band = band ∧ p.hold = hold ∧ p.threshold = threshold then .done else .doneClamped

theorem clampedResult_cases (n m hold threshold : Nat) (band : Option Int) :
    clampedResult n m hold threshold band = .done ∨ clampedResult n m hold threshold band = .doneClamped := by
  unfold clampedResult
  dsimp only
  split
  · exact .inl rfl
  · exact .inr rfl

theorem clampedResult_done_iff (n m hold threshold : Nat) (band : Option Int) :
    clampedResult n m hold threshold band = .done ↔ (1 ≤ n ∧ n ≤ 32) ∧ (2 ≤ m ∧ m ≤ 32)
      ∧ (∀ x, band = some x → 1 ≤ x ∧ x ≤ 10000) ∧ (1 ≤ hold ∧ hold ≤ 64) ∧ (5 ≤ threshold ∧ threshold ≤ 500) := by
  have same : clampedResult n m hold threshold band = .done ↔ clamp 1 32 n = n ∧ clamp 2 32 m = m
      ∧ band.map (clampInt 1 10000) = band ∧ clamp 1 64 hold = hold ∧ clamp 5 500 threshold = threshold := by
    unfold clampedResult clampedParams
    simp only [ite_eq_left_iff, reduceCtorEq, imp_false, not_not]
  rw [same, clamp_eq_iff, clamp_eq_iff, clamp_eq_iff, clamp_eq_iff, map_clampInt_eq_iff]

theorem setBridgeParameters_eq (tag : Byte) (b : BridgeId) (n m hold threshold : Nat) (band : Option Int) (s : State) :
    setBridgeParameters tag
        [some (.num (b.val + 1)), some (.num n), some (.num m), band.map .int, some (.num hold), some (.num threshold)] s =
      let p := clampedParams n m hold threshold band
      if granted s b ∨ (s.engine[b]).status = .calibrating then reply .state s
      else reply (clampedResult n m hold threshold band) (modEngine b (fun e => e.setParams p) s) := by
  cases band <;> simp only [setBridgeParameters, bridgeOf_val] <;> rfl

/-! ## A bridge out of service (R23, R26, R97) -/

theorem withdraw_seq (l : LaneId) (s : State) : (withdraw l s).seq = s.seq := by
  unfold withdraw
  split <;> rfl

theorem leaveQueue_lanes (l : LaneId) (s : State) : (leaveQueue l s).seq.lanes = s.seq.lanes := by
  unfold leaveQueue
  split <;> rfl

theorem enterPlain_closed_eq (l : LaneId) (s : State) : enterPlain l .closed s =
    showState l (offerStation l .exit (offerStation l .entry (wantFor l .closed (leaveQueue l
      (modLane l (fun x => { x with
        state := .closed, hold := none, fault := none, reweigh := false, kept := none,
        reversing := false, timer := x.config.bind (fun c => timerFor c .closed) }) (withdraw l s))))).1).1 := by
  simp only [enterPlain, LaneState.faults, LaneState.onBridge, Bool.false_and, Bool.false_eq_true, if_false, reduceCtorEq]
  rfl

theorem modStation_state (l k : LaneId) (e : LaneEnd) (f : Station → Station) (s : State) :
    ((modStation l e f s).seq.lanes[k]).state = (s.seq.lanes[k]).state := by
  simp only [modStation, Fin.getElem_fin, modLane_seq, getElem_alter]
  split
  · cases e <;> rfl
  · rfl

/-- A lane that enters CLOSED does so whatever its stations are; the other lanes keep their states. -/
theorem enterPlain_closed_state (l k : LaneId) (s : State) : ((enterPlain l .closed s).seq.lanes[k]).state =
    if l = k then .closed else (s.seq.lanes[k]).state := by
  rw [enterPlain_closed_eq]
  refine ((showState_frame l _).state k).trans (((offerStation_frame l .exit _).state k).trans
    (((offerStation_frame l .entry _).state k).trans ?_))
  refine (modStation_state l k _ _ _).trans ((modStation_state l k _ _ _).trans ?_)
  simp only [Fin.getElem_fin, leaveQueue_lanes, modLane_seq, getElem_alter, withdraw_seq]
  split <;> rfl

/-- What one lane does at a change of its bridge's state (R97). -/
def followBridge (s : State) (l : LaneId) : State :=
  match (s.seq.lanes[l]).state with
  | .idle => if admittable s l then s else enterPlain l .closed s
  | .closed => if admittable s l then enterPlain l .idle s else s
  | _ => s

theorem bridgeStateTold_eq (b : BridgeId) (s : State) :
    bridgeStateTold b s = grantTest b ((lanesOf s b).foldl followBridge s) := rfl

theorem followBridge_laneFrame {s t : State} (l : LaneId) (h : LaneFrame s t) : LaneFrame s (followBridge t l) := by
  have ops := laneFrame_laneOps s
  unfold followBridge
  split
  · split
    · exact h
    · exact ops.enterPlain h
  · split
    · exact ops.enterPlain h
    · exact h
  · exact h

/-- A lane that is not admittable closes from IDLE; the other lanes keep their states. -/
theorem followBridge_state {s : State} {l : LaneId} (h : admittable s l = false) (k : LaneId) :
    ((followBridge s l).seq.lanes[k]).state =
      if l = k ∧ (s.seq.lanes[k]).state = .idle then .closed else (s.seq.lanes[k]).state := by
  unfold followBridge
  rw [h]
  split
  · rename_i hidle
    rw [if_neg Bool.false_ne_true, enterPlain_closed_state]
    by_cases hk : l = k
    · subst hk
      rw [if_pos rfl, if_pos ⟨rfl, hidle⟩]
    · rw [if_neg hk, if_neg (fun both => hk both.1)]
  · rename_i hclosed
    rw [if_neg Bool.false_ne_true]
    refine (if_neg ?_).symm
    rintro ⟨rfl, hidle⟩
    cases hclosed.symm.trans hidle
  · rename_i hne _
    refine (if_neg ?_).symm
    rintro ⟨rfl, hidle⟩
    exact hne hidle

theorem admittable_notReady {s : State} {b : BridgeId} {l : LaneId} (hl : (s.seq.lanes[l]).bridge = some b)
    (hs : (s.engine[b]).status ≠ .ready) : admittable s l = false := by
  unfold Lane.bridge at hl
  unfold admittable
  rcases hc : (s.seq.lanes[l]).config with _ | c
  · rfl
  · rw [hc] at hl
    cases hl
    dsimp only
    rw [beq_eq_false_iff_ne.2 hs, Bool.and_false]

/-- At a change to a state other than READY every IDLE lane of the bridge closes. -/
theorem followBridge_closes {s : State} {b : BridgeId} (hs : (s.engine[b]).status ≠ .ready) (ls : List LaneId)
    (hls : ∀ k ∈ ls, (s.seq.lanes[k]).bridge = some b) {t : State} (ht : LaneFrame s t) (l : LaneId)
    (h : (t.seq.lanes[l]).state = .closed ∨ l ∈ ls ∧ (t.seq.lanes[l]).state = .idle) :
    ((ls.foldl followBridge t).seq.lanes[l]).state = .closed := by
  induction ls generalizing t with
  | nil => exact h.resolve_right (fun hin => nomatch hin.1)
  | cons k ks ih =>
    have hk : (t.seq.lanes[k]).bridge = some b := by
      unfold Lane.bridge
      rw [(ht.configs k).1]
      exact hls k List.mem_cons_self
    have hready : (t.engine[b]).status ≠ .ready := by
      rw [ht.engine b]
      exact hs
    refine ih (fun j hj => hls j (List.mem_cons_of_mem k hj)) (followBridge_laneFrame k ht) ?_
    rw [followBridge_state (admittable_notReady hk hready)]
    rcases h with hclosed | ⟨hin, hidle⟩
    · exact .inl (by rw [if_neg (fun both => by cases hclosed.symm.trans both.2), hclosed])
    · by_cases hkl : k = l
      · exact .inl (if_pos ⟨hkl, hidle⟩)
      · rw [if_neg (fun both => hkl both.1)]
        exact .inr ⟨(List.mem_cons.1 hin).resolve_left (Ne.symm hkl), hidle⟩

theorem grantTest_notReady {s : State} {b : BridgeId} (h : (s.engine[b]).status ≠ .ready) : grantTest b s = s := by
  unfold grantTest
  dsimp only
  rw [beq_eq_false_iff_ne.2 h]
  simp only [Bool.and_false, Bool.false_and, Bool.false_eq_true, if_false]

/-- A derivation to another state than before, not READY, closes the IDLE lanes of the bridge (R97). -/
theorem deriveBridge_closes {s : State} {b : BridgeId} (hnew : statusOf s b ≠ (s.engine[b]).status)
    (hready : statusOf s b ≠ .ready) {l : LaneId} (hl : (s.seq.lanes[l]).bridge = some b)
    (hidle : (s.seq.lanes[l]).state = .idle) : ((deriveBridge b s).seq.lanes[l]).state = .closed := by
  set u := queueRecord (.bridgeState b (statusOf s b) (reasonsOf s b)) (setBridgeState b s) with hu
  have hd : deriveBridge b s = bridgeStateTold b u := if_neg (fun same => hnew same.1.symm)
  have frame : LaneFrame (setBridgeState b s) u := (laneFrame_laneOps _).record (.refl _)
  have hlanes : u.seq = s.seq := by rw [hu, (queueRecord_spec _ _).1.rest]; rfl
  have hstatus : (u.engine[b]).status ≠ .ready := by
    rw [frame.engine b]
    simpa [setBridgeState] using hready
  have closes := followBridge_closes hstatus (lanesOf u b)
    (fun k hk => by simpa [lanesOf] using hk) (.refl u) l (.inr ⟨by simpa [lanesOf, hlanes] using hl, by rw [hlanes]; exact hidle⟩)
  have kept : LaneFrame u ((lanesOf u b).foldl followBridge u) :=
    LaneOps.foldl (fun t l ht => followBridge_laneFrame l ht) _ (.refl u)
  rw [hd, bridgeStateTold_eq, grantTest_notReady]
  · exact closes
  · rw [kept.engine b]
    exact hstatus

theorem statusOf_outOfService {s : State} {b : BridgeId} (h : (s.engine[b]).outOfService = true) :
    statusOf s b = .outOfService := if_pos h

theorem statusOf_inService {s : State} {b : BridgeId} (h : (s.engine[b]).outOfService = false) :
    statusOf s b ≠ .outOfService := by
  unfold statusOf
  rw [h]
  simp only [Bool.false_eq_true, if_false]
  split_ifs <;> exact nofun

end Sys2Proof.Machine

namespace Sys2Proof.Certificates
open Sys2Proof.Machine

/-- Settles O41: the owner of each of the two requests, then what the derivation of the bridge state does. -/
theorem bridgeSettings : Obligations.BridgeSettings := by
  unfold Obligations.BridgeSettings
  refine ⟨fun s tag b n m hold threshold band h => ?_, fun s tag b h => ?_, fun s tag b h => ?_⟩
  · have owner := setBridgeParameters_eq tag b n m hold threshold band (fresh s)
    refine ⟨fun hbad => answers_of_owner rfl h (owner.trans (if_pos hbad)), fun hg hc => ?_⟩
    have hgood : ¬ (granted (fresh s) b = true ∨ ((fresh s).engine[b]).status = .calibrating) :=
      fun hbad => hbad.elim (fun h0 => nomatch hg.symm.trans h0) hc
    refine ⟨clampedResult n m hold threshold band, answers_of_owner rfl h (owner.trans ((if_neg hgood).trans ?_)),
      clampedResult_done_iff n m hold threshold band, clampedResult_cases n m hold threshold band⟩
    simp only [setParams_eq]
    rfl
  · have owner : setBridgeService tag [some (.num (b.val + 1)), some (.num 1)] (fresh s) =
        if granted s b ∨ (s.engine[b]).status = .calibrating then reply .state (fresh s)
        else reply .done (deriveBridge b (modEngine b (fun e => { e with outOfService := true }) (fresh s))) := by
      simp only [setBridgeService, bridgeOf_val, if_true]
      rfl
    refine ⟨fun hbad => answers_of_owner rfl h (owner.trans (if_pos hbad)), fun hg hc ho => ?_⟩
    have hgood : ¬ (granted s b = true ∨ (s.engine[b]).status = .calibrating) :=
      fun hbad => hbad.elim (fun h0 => nomatch hg.symm.trans h0) hc
    set u := modEngine b (fun e => { e with outOfService := true }) (fresh s) with hu
    have hserv : u.engine[b] = { s.engine[b] with outOfService := true } := by simp [hu]
    have hstatus : statusOf u b = .outOfService := statusOf_outOfService (by rw [hserv])
    refine ⟨deriveBridge b u, answers_of_owner rfl h (owner.trans (if_neg hgood)), ?_, ?_, fun l hl hidle => ?_⟩
    · rw [deriveBridge_engine, hserv]
    · rw [deriveBridge_engine]
      exact hstatus
    · refine deriveBridge_closes ?_ (by rw [hstatus]; exact nofun) hl hidle
      rw [hstatus, hserv]
      exact Ne.symm ho
  · set u := modEngine b (fun e => { e with outOfService := false }) (fresh s) with hu
    have owner : setBridgeService tag [some (.num (b.val + 1)), some (.num 2)] (fresh s) = reply .done (deriveBridge b u) := by
      simp only [setBridgeService, bridgeOf_val]
      rfl
    have hserv : (u.engine[b]).outOfService = false := by simp [hu]
    refine ⟨deriveBridge b u, answers_of_owner rfl h owner, ?_, ?_⟩
    · rw [deriveBridge_engine]
      exact hserv
    · rw [deriveBridge_engine]
      exact statusOf_inService hserv

end Sys2Proof.Certificates

namespace Sys2Proof.Machine

/-- The reset state holds the cold values. -/
theorem coldValues_reset : coldValues State.reset = State.reset := by decide +kernel

end Sys2Proof.Machine

namespace Sys2Proof.Certificates
open Sys2Proof.Machine

/-- Settles O7: the reset state is the cold values of itself, and these have the law of the working zero. -/
theorem lawsHoldAtReset : Obligations.LawsHoldAtReset := by
  unfold Obligations.LawsHoldAtReset
  refine ⟨?_, ?_, ?_, ?_, ?_⟩
  · show _ ≤ _
    decide +kernel
  · unfold QueueLaw
    decide +kernel
  · unfold TableLaw
    decide +kernel
  · rw [← coldValues_reset]
    exact .coldValues _
  · show Host.Outcome.next (startCycle (coldValues State.reset)) = _
    rw [coldValues_reset]

end Sys2Proof.Certificates

namespace Sys2Proof.Machine

/-! ## A poll answered (R2, R55, R56) -/

/-- The sample tables and the miss counts stand: what the work between two polls leaves of them. -/
structure PollFrame (s t : State) : Prop where
  samples : ∀ b : BridgeId, (t.engine[b]).samples = (s.engine[b]).samples
  misses : ∀ a : NodeId, (t.bus.nodes[a]).misses = (s.bus.nodes[a]).misses

theorem PollFrame.refl (s : State) : PollFrame s s := ⟨fun _ => rfl, fun _ => rfl⟩

theorem PollFrame.trans {s t u : State} (h : PollFrame s t) (k : PollFrame t u) : PollFrame s u :=
  ⟨fun b => (k.samples b).trans (h.samples b), fun a => (k.misses a).trans (h.misses a)⟩

theorem PollFrame.of_eq {s t : State} (he : t.engine = s.engine) (hn : t.bus.nodes = s.bus.nodes) : PollFrame s t :=
  ⟨fun b => by rw [he], fun a => by rw [hn]⟩

theorem PollFrame.worked {s t : State} (k : WorkFrame s t) : PollFrame s t :=
  ⟨fun b => by rw [k.engine b], fun a => by rw [k.bus]⟩

theorem PollFrame.modNode {a : NodeId} {f : NodeEntry → NodeEntry} (s : State) (hf : ∀ n : NodeEntry, (f n).misses = n.misses) :
    PollFrame s (modNode a f s) := by
  refine ⟨fun _ => rfl, fun k => ?_⟩
  simp only [Fin.getElem_fin, modNode_bus, getElem_alter]
  split
  · rename_i hk
    subst hk
    exact hf _
  · rfl

/-- An originator told that its command was not delivered does no more than its own work. -/
theorem tellUndelivered_workFrame (c : Command) (s : State) : WorkFrame s (tellUndelivered c s) := by
  have ops := workFrame_workOps s
  unfold tellUndelivered
  split
  · exact .refl s
  · exact .refl s
  · exact .refl s
  · exact ⟨rfl, rfl, rfl, fun _ => rfl, rfl, rfl, rfl, rfl, fun _ => ⟨rfl, rfl⟩⟩
  · exact ops.stationUndelivered (.refl s)
  · exact ops.printFail (.refl s)
  · exact .offered (passOutcome_frame _ _ s)

theorem sendReset_pollFrame (c : Command) (k : Nat) (s : State) : PollFrame s (sendReset c k s) := by
  have sent : PollFrame s (popCommand (sendBus (busAddress c.node) c.frame.code c.frame.payload s)) := .of_eq rfl rfl
  unfold sendReset
  dsimp only
  split
  · refine sent.trans (.modNode _ (fun n => ?_))
    split <;> rfl
  · exact sent

theorem commandPart_pollFrame (fuel done : Nat) (s : State) : PollFrame s (commandPart fuel done s) := by
  have opens : ∀ (t : State) (address kind : Nat) (payload : Bytes) (part : ScanPart) (x : Exchange),
      PollFrame t (openExchange address kind payload part x t) := fun _ _ _ _ _ _ => .of_eq rfl rfl
  induction fuel generalizing done s with
  | zero => exact opens _ _ _ _ _ _
  | succ fuel ih =>
    unfold commandPart
    split
    · exact opens _ _ _ _ _ _
    · split
      · exact opens _ _ _ _ _ _
      · split
        · exact (sendReset_pollFrame _ _ s).trans (ih _ _)
        · split
          · have popped : PollFrame s (popCommand s) := .of_eq rfl rfl
            exact (popped.trans (.worked (tellUndelivered_workFrame _ _))).trans (ih _ _)
          · exact .of_eq rfl rfl

theorem slowPart_pollFrame (next : Nat) (s : State) : PollFrame s (slowPart next s) := by
  have counted : PollFrame s (modScan (fun x => { x with phase := (x.phase + 1) % 8 }) s) := .of_eq rfl rfl
  unfold slowPart
  split
  · split <;> exact .of_eq rfl rfl
  · exact counted.trans (commandPart_pollFrame _ _ _)

/-- With another cell to poll the cell-poll part goes on with it. -/
theorem cellPart_pollFrame {next : Nat} {s : State} (h : ∃ c : NodeId, next ≤ c.val ∧ (s.bus.nodes[c]).state = .active
    ∧ (boundCell s c).isSome = true) : PollFrame s (cellPart next s) := by
  obtain ⟨c, hn, hs, hc⟩ := h
  unfold cellPart
  split
  · exact .of_eq rfl rfl
  · rename_i none_
    have := List.find?_eq_none.1 none_ c (List.mem_finRange c)
    exact absurd (by rw [decide_eq_true hn, hs, hc]; rfl) this

/-- The state once a good SAMPLE of an ACTIVE node has been counted and handed to the engine. -/
def sampleTaken (a : NodeId) (b : BridgeId) (p : CellPos) (r : Reading) (s : State) : State :=
  deliverSample b p r (modNode a (fun n => { n with misses := 0 }) (closeExchange s))

theorem sampleTaken_entry (a : NodeId) (b : BridgeId) (p : CellPos) (r : Reading) (s : State) :
    (((sampleTaken a b p r s).engine[b]).samples[p]) = ((s.engine[b]).samples[p]).take r := by
  simp [sampleTaken, deliverSample, closeExchange]

theorem sampleTaken_misses (a : NodeId) (b : BridgeId) (p : CellPos) (r : Reading) (s : State) :
    ((sampleTaken a b p r s).bus.nodes[a]).misses = 0 := by
  simp [sampleTaken, deliverSample, closeExchange]

theorem sampleTaken_state (a c : NodeId) (b : BridgeId) (p : CellPos) (r : Reading) (s : State) :
    ((sampleTaken a b p r s).bus.nodes[c]).state = (s.bus.nodes[c]).state := by
  simp only [sampleTaken, deliverSample, closeExchange, Fin.getElem_fin, modEngine_bus, modNode_bus, getElem_alter]
  split <;> rfl

/-- A good SAMPLE of an ACTIVE node goes to the engine, and the next poll follows. -/
theorem exchangeGood_sample {s : State} {x : Exchange} {a : NodeId} {b : BridgeId} {p : CellPos} {r : Reading}
    (hx : x = .cellPoll a ∨ x = .slowSample a) (ha : (s.bus.nodes[a]).state = .active) (hc : boundCell s a = some (b, p)) :
    exchangeGood x (.sample r) s = nextPoll (sampleTaken a b p r s) := by
  have counted : countGood a (closeExchange s) = modNode a (fun n => { n with misses := 0 }) (closeExchange s) := by
    have active : ((closeExchange s).bus.nodes[a]).state = .active := ha
    unfold countGood
    dsimp only
    rw [active, if_neg NodeState.noConfusion]
  have handed : handSample a (.sample r) (modNode a (fun n => { n with misses := 0 }) (closeExchange s))
      = sampleTaken a b p r s := by
    unfold handSample
    rw [show boundCell (modNode a (fun n => { n with misses := 0 }) (closeExchange s)) a = some (b, p) from hc]
    rfl
  rcases hx with rfl | rfl
  all_goals
    unfold exchangeGood
    dsimp only
    rw [counted, handed]

/-- A reading taken: the flags are the answer's; a new sequence number brings the count, a repeated one leaves it. -/
theorem SampleEntry.take_spec (e : SampleEntry) (r : Reading) : (e.take r).seq = some r.seq
    ∧ (e.seq ≠ some r.seq → (e.take r).count = some r.count ∧ (e.take r).stale = 0)
    ∧ (e.seq = some r.seq → (e.take r).count = e.count ∧ (e.take r).stale = e.stale)
    ∧ (e.take r).overrange = r.overrange ∧ (e.take r).underrange = r.underrange ∧ (e.take r).cellFault = r.cellFault
    ∧ (e.take r).missed = false := by
  unfold SampleEntry.take
  by_cases h : e.seq = some r.seq
  · simp [h]
  · simp [h]

end Sys2Proof.Machine

namespace Sys2Proof.Certificates
open Sys2Proof.Machine

/-- Settles O17: the entry takes the answer, and what is polled next leaves the sample tables. -/
theorem sampleUpdatesTheEntry : Obligations.SampleUpdatesTheEntry := by
  unfold Obligations.SampleUpdatesTheEntry
  intro s f x a b p r hopen hjudge ha hc hx hpart
  obtain ⟨hp, hexchange, hentry⟩ := hopen
  set u := sampleTaken a b p r (fresh s) with hu
  have run : exec (.sample f) s = .next (nextPoll u) := by
    have arrives : answerArrives 0x40 f (fresh s) = nextPoll u := by
      unfold answerArrives
      rw [show (fresh s).bus.scan.exchange = some x from hexchange]
      dsimp only
      rw [hentry]
      dsimp only
      rw [show judgeAnswer (fresh s) x a 0x40 f = .ok (.sample r) from hjudge]
      exact exchangeGood_sample hx ha hc
    exact (act_of_powered hp).trans (congrArg _ arrives)
  have frame : PollFrame u (nextPoll u) := by
    unfold nextPoll
    rcases hpart with ⟨n, hslow⟩ | ⟨n, hcell, c, hn, hs, hbound⟩
    · rw [show u.bus.scan.part = some (.slowPolls n) from hslow]
      exact slowPart_pollFrame n u
    · rw [show u.bus.scan.part = some (.cellPolls n) from hcell]
      exact cellPart_pollFrame ⟨c, hn, (sampleTaken_state a c b p r (fresh s)).trans hs, hbound⟩
  have entry : ((nextPoll u).engine[b]).samples[p] = ((s.engine[b]).samples[p]).take r := by
    rw [frame.samples b]
    exact sampleTaken_entry a b p r (fresh s)
  obtain ⟨hseq, hnew, hold, hover, hunder, hfault, hmissed⟩ := ((s.engine[b]).samples[p]).take_spec r
  refine ⟨nextPoll u, run, ?_, ?_, ?_, ?_, ?_, ?_, ?_, (frame.misses a).trans (sampleTaken_misses a b p r (fresh s))⟩
  all_goals rw [entry]
  · exact hseq
  · exact hnew
  · exact hold
  · exact hover
  · exact hunder
  · exact hfault
  · exact hmissed

end Sys2Proof.Certificates

namespace Sys2Proof.Machine

/-! ## A bus without nodes: what its cycle's start does (R54, R72, R81) -/

/-- The bus and the frames of the step are these. -/
structure OnBus (x : Bus) (frames : List BusFrame) (s : State) : Prop where
  bus : s.bus = x
  sent : s.sentFrames = frames

namespace OnBus
variable {x : Bus} {frames : List BusFrame}

/-- A change of blocks other than the bus. -/
theorem of_eq {s t : State} (h : OnBus x frames s) (hb : t.bus = s.bus) (hf : t.sentFrames = s.sentFrames) : OnBus x frames t :=
  ⟨hb.trans h.bus, hf.trans h.sent⟩

theorem recorded {s t : State} (h : OnBus x frames s) (k : RecordFrame s t) : OnBus x frames t :=
  h.of_eq (by rw [k.rest]) (by rw [k.rest])

theorem ready {s : State} (h : OnBus x frames s) (f : OutFrame) : OnBus x frames (makeReady f s) :=
  h.of_eq (by rw [makeReady_rest]) (by rw [makeReady_rest])

/-- With no node ACTIVE nothing is taken but a NODE RESET. -/
theorem offer_refused_of_inactive {s : State} {a : NodeId} {f : CommandFrame} {o : Origin} (hf : f.isReset = false)
    (ha : (s.bus.nodes[a]).state ≠ .active) : (offer a f o s).1 = s := by
  have refused : offer a f o s = (s, some .notActive) := by
    cases f with
    | nodeReset k => cases hf
    | _ =>
      unfold offer
      exact if_pos ⟨ha, rfl⟩
  rw [refused]

/-- With no node ACTIVE the work of lanes, visits and tickets leaves the bus. -/
theorem workOps (free : ∀ a : NodeId, (x.nodes[a]).state ≠ .active) : WorkOps (OnBus x frames) where
  capture _ h := h.of_eq rfl rfl
  lane _ h := h.of_eq rfl rfl
  station h := h.of_eq rfl rfl
  bridge h := h.of_eq rfl rfl
  offer hf h := by
    rw [offer_refused_of_inactive hf (h.bus ▸ free _)]
    exact h
  record h := h.recorded (queueRecord_spec _ _).1
  account h := h.of_eq rfl rfl
  refBank h := h.of_eq rfl rfl
  unrefBank h := h.of_eq rfl rfl
  visit _ h := h.of_eq rfl rfl
  removeVisit h := h.of_eq rfl rfl
  nextVisit h := h.of_eq rfl rfl
  visitOpens _ h := h.of_eq rfl rfl
  takeClaims h := h.recorded (takeClaims_frame _ _)
  releaseClaims h := h.of_eq rfl rfl
  spendClaim h := h.recorded (spendClaim_frame _ _)
  printer _ h := h.of_eq rfl rfl
  ticketJoins _ h := h.of_eq rfl rfl
  tickets _ h := h.of_eq rfl rfl
  ticketWrite {k s} h := by
    rcases askWriteBehindReset_cases (.ticket k) s with ⟨-, -, hq⟩ | ⟨-, hq⟩ <;> rw [hq] <;> exact h.of_eq rfl rfl

theorem derived (ops : LaneOps (OnBus x frames)) {s : State} (h : OnBus x frames s) (b : BridgeId) :
    OnBus x frames (deriveBridge b s) := by
  unfold deriveBridge
  dsimp only
  split
  · exact h
  · exact ops.bridgeStateTold (ops.record (h.of_eq rfl rfl))

theorem stepEnds {s : State} (h : OnBus x frames s) (r : Result) : OnBus x frames (endStep r s) := by
  unfold endStep
  split
  · exact OnBus.ready (s := modSession _ s) (h.of_eq rfl rfl) _
  · exact h

theorem stepReading (ops : LaneOps (OnBus x frames)) {s : State} (h : OnBus x frames s) (b : BridgeId) (w : Int) :
    OnBus x frames (stepReading b w s) := by
  unfold Machine.stepReading
  split
  · exact h
  · split
    · exact h
    · split
      · exact derived ops (stepEnds (h.of_eq (t := calZeroDone b w s) rfl rfl) _) b
      · exact stepEnds (h.of_eq (t := calCornerDone _ w s) rfl rfl) _
      · split
        · exact h.stepEnds _
        · exact derived ops (stepEnds (h.of_eq (t := calSpanDone b _ _ s) rfl rfl) _) b

theorem validSample (ops : LaneOps (OnBus x frames)) {s : State} (h : OnBus x frames s) (b : BridgeId) (d : CalData) :
    OnBus x frames (validSample b d s) := by
  unfold Machine.validSample
  extract_lets e w over_ under s1 s2
  have h2 : OnBus x frames s2 := by
    have h1 : OnBus x frames s1 := h.of_eq rfl rfl
    unfold s2 establishZero
    dsimp only
    split_ifs
    · exact h1.of_eq rfl rfl
    · exact h1
    · exact ops.record (h1.of_eq rfl rfl)
    · exact h1
    · exact h1.of_eq rfl rfl
  exact derived ops (h2.of_eq (t := modEngine b _ s2) rfl rfl) b

theorem bridgeSample (ops : WorkOps (OnBus x frames)) {s : State} (h : OnBus x frames s) (b : BridgeId) :
    OnBus x frames (bridgeSample b s) := by
  unfold Machine.bridgeSample
  refine ops.sampleReport ?_
  split
  · rename_i d _ _
    have stepped : OnBus x frames (stepTest b (Machine.validSample b d s)) := by
      have weighed := h.validSample ops.toLaneOps b d
      unfold stepTest
      dsimp only
      split
      · split
        · exact weighed.stepReading ops.toLaneOps b _
        · exact weighed
      · exact weighed
    unfold captureTest
    dsimp only
    split
    · split
      · exact ops.deliverCapture (stepped.of_eq rfl rfl)
      · exact stepped
    · exact stepped
  · exact h.of_eq rfl rfl

theorem endCellPolls (ops : WorkOps (OnBus x frames)) {s : State} (h : OnBus x frames s) :
    OnBus x frames (endCellPolls s) :=
  LaneOps.foldl (fun _ b hu => hu.bridgeSample ops b) _ (LaneOps.foldl (fun _ _ hu => hu.of_eq rfl rfl) _ h)

end OnBus

theorem openWindow_opens (k : Nat) (s : State) :
    (openWindow k s).sentFrames = s.sentFrames ++ [{ address := 63, kind := 0x03, payload := [] }]
      ∧ (openWindow k s).bus.enum = s.bus.enum ∧ (openWindow k s).bus.scan.exchange = some .attentionCall := ⟨rfl, rfl, rfl⟩

/-- With every entry FREE and the queue empty the cycle goes on from the cell polls to its first attention window: the round's
frames behind those sent. -/
theorem cellPart_free {s : State} (free : ∀ a : NodeId, (s.bus.nodes[a]).state = .free) (hq : s.bus.queue = []) :
    (cellPart 0 s).sentFrames = s.sentFrames ++ [{ address := 63, kind := 0x03, payload := [] }]
      ∧ (cellPart 0 s).bus.enum = s.bus.enum ∧ (cellPart 0 s).bus.scan.exchange = some .attentionCall := by
  have noCell : (List.finRange 32).find? (fun a => decide (0 ≤ a.val) && (s.bus.nodes[a]).state == .active
      && (boundCell s a).isSome) = none := by
    refine List.find?_eq_none.2 (fun a _ => ?_)
    rw [free a]
    simp
  have polled : cellPart 0 s = slowPart 0 (endCellPolls s) := by
    unfold cellPart
    rw [noCell]
  obtain ⟨hbus, hsent⟩ := OnBus.endCellPolls (OnBus.workOps (fun a => by rw [free a]; decide)) ⟨rfl, rfl⟩ (s := s)
  set u := endCellPolls s with hu
  have noSlow : (List.finRange 32).find? (fun a => decide (0 ≤ a.val) && slowPolled u a) = none := by
    refine List.find?_eq_none.2 (fun a _ => ?_)
    unfold slowPolled
    rw [hbus]
    dsimp only
    rw [free a]
    simp
  set v := modScan (fun x => { x with phase := (x.phase + 1) % 8 }) u with hv
  have swept : slowPart 0 u = runCommands 0 v := by
    unfold slowPart
    rw [noSlow]
  have commanded : runCommands 0 v = openWindow 0 v := by
    have hqv : v.bus.queue = [] := by rw [hv, modScan_bus, hbus]; exact hq
    unfold runCommands commandPart
    rw [hqv]
    rfl
  rw [polled, swept, commanded]
  obtain ⟨sent, enum, exchange⟩ := openWindow_opens 0 v
  refine ⟨?_, ?_, exchange⟩
  · rw [sent, hv, modScan_sentFrames, hsent]
  · rw [enum, hv, modScan_bus, hbus]

/-- The first cycle of a bus at its values of a reset: FORGET ADDRESSES, a round, the first window (R72, R81). -/
theorem startCycle_cold {t : State} {period : Nat} (hbus : t.bus = Bus.cold period) (hsent : t.sentFrames = []) :
    (startCycle t).sentFrames = [{ address := 63, kind := 0x0A, payload := [] }, { address := 63, kind := 0x03, payload := [] }]
      ∧ (startCycle t).bus.enum.running = true ∧ (startCycle t).bus.scan.exchange = some .attentionCall := by
  set u := startRound (sendBus 63 0x0A []
    (modScan (fun x => { x with periodInUse := x.period, startup := false, overdue := false, polled := [] }) t)) with hu
  have starts : startCycle t = cellPart 0 (setMissed u) := by
    unfold startCycle
    rw [hbus]
    rfl
  have missed : OnBus u.bus u.sentFrames (setMissed u) := LaneOps.foldl (fun _ _ h => h.of_eq rfl rfl) _ ⟨rfl, rfl⟩
  have entries : u.bus.nodes = t.bus.nodes := rfl
  have queue : u.bus.queue = t.bus.queue := rfl
  obtain ⟨sent, enum, exchange⟩ := cellPart_free (s := setMissed u)
    (fun a => by
      rw [missed.bus, entries, hbus]
      simp [Bus.cold, NodeEntry.fresh])
    (by rw [missed.bus, queue, hbus]; rfl)
  rw [starts]
  refine ⟨?_, ?_, exchange⟩
  · rw [sent, missed.sent]
    show t.sentFrames ++ _ ++ _ = _
    rw [hsent]
    rfl
  · rw [enum, missed.bus]
    show (if t.bus.enum.running then t.bus.enum else _).running = true
    rw [hbus]
    rfl

end Sys2Proof.Machine

namespace Sys2Proof.Machine

/-! ## What a reset's derivation, its record and its yard stop do -/

/-! ### Judgements and bridge states with no record (R28, R47, R49) -/

theorem reasonsOf_setBridgeState (b k : BridgeId) (s : State) : reasonsOf (setBridgeState b s) k = reasonsOf s k := by
  have zero : ((setBridgeState b s).engine[k]).zero = (s.engine[k]).zero := by
    simp only [setBridgeState, Fin.getElem_fin, modEngine_engine, getElem_alter]
    split <;> rfl
  unfold reasonsOf
  rw [zero]
  rfl

theorem statusOf_setBridgeState (b k : BridgeId) (s : State) : statusOf (setBridgeState b s) k = statusOf s k := by
  have service : ((setBridgeState b s).engine[k]).outOfService = (s.engine[k]).outOfService := by
    simp only [setBridgeState, Fin.getElem_fin, modEngine_engine, getElem_alter]
    split <;> rfl
  unfold statusOf
  rw [service, reasonsOf_setBridgeState]
  rfl

theorem setBridgeState_engine (b : BridgeId) (s : State) :
    (setBridgeState b s).engine[b] = { s.engine[b] with status := statusOf s b, reasons := reasonsOf s b } := by
  simp [setBridgeState]

theorem setBridgeState_engine_other {b k : BridgeId} (s : State) (h : b ≠ k) :
    (setBridgeState b s).engine[k] = s.engine[k] := by
  simp only [setBridgeState, Fin.getElem_fin, modEngine_engine]
  exact getElem_alter_ne _ h _

/-- Some bridges derived one by one: each as it would be alone. -/
theorem setBridgeStates_spec (bs : List BridgeId) (s : State) :
    bs.foldl (fun s b => setBridgeState b s) s = { s with engine := (bs.foldl (fun s b => setBridgeState b s) s).engine }
      ∧ ∀ k : BridgeId, k ∈ bs → (bs.foldl (fun s b => setBridgeState b s) s).engine[k]
          = { s.engine[k] with status := statusOf s k, reasons := reasonsOf s k } := by
  induction bs generalizing s with
  | nil => exact ⟨rfl, fun k hk => absurd hk List.not_mem_nil⟩
  | cons b bs ih =>
    rw [List.foldl_cons]
    obtain ⟨rest, derived⟩ := ih (setBridgeState b s)
    refine ⟨rest, fun k hk => ?_⟩
    by_cases later : k ∈ bs
    · rw [derived k later, statusOf_setBridgeState, reasonsOf_setBridgeState]
      by_cases same : b = k
      · subst same
        rw [setBridgeState_engine]
      · rw [setBridgeState_engine_other s same]
    · obtain rfl : k = b := (List.mem_cons.1 hk).resolve_right later
      have kept : ∀ (cs : List BridgeId) (u : State), k ∉ cs →
          (cs.foldl (fun s b => setBridgeState b s) u).engine[k] = u.engine[k] := by
        intro cs
        induction cs with
        | nil => exact fun _ _ => rfl
        | cons c cs ih =>
          intro u hc
          rw [List.mem_cons, not_or] at hc
          rw [List.foldl_cons, ih _ hc.2, setBridgeState_engine_other u (Ne.symm hc.1)]
      rw [kept bs _ later, setBridgeState_engine]

theorem judgeAll_eq (bs : List BridgeId) (s : State) :
    ∃ r, bs.foldl (fun s b => judge b s) s = modCal (fun c => { c with restricted := r }) s := by
  induction bs generalizing s with
  | nil => exact ⟨s.cal.restricted, rfl⟩
  | cons b bs ih =>
    obtain ⟨r, hr⟩ := judge_eq b s
    obtain ⟨q, hq⟩ := ih (judge b s)
    exact ⟨q, by rw [List.foldl_cons, hq, hr]; rfl⟩

/-- The derivation of a reset: the judgements, and of each engine the bridge state and its reasons. -/
theorem deriveAtReset_spec (s : State) : ∃ r, deriveAtReset s
      = { s with engine := (deriveAtReset s).engine, cal := { s.cal with restricted := r } }
    ∧ ∀ b : BridgeId, (deriveAtReset s).engine[b] = { s.engine[b] with
        status := statusOf (modCal (fun c => { c with restricted := r }) s) b, reasons := reasonsOf s b } := by
  obtain ⟨r, hr⟩ := judgeAll_eq allBridges s
  obtain ⟨rest, derived⟩ := setBridgeStates_spec allBridges (allBridges.foldl (fun s b => judge b s) s)
  rw [hr] at rest derived
  have whole : deriveAtReset s = allBridges.foldl (fun s b => setBridgeState b s)
      (modCal (fun c => { c with restricted := r }) s) := by
    unfold deriveAtReset
    rw [hr]
  rw [whole]
  exact ⟨r, rest, fun b => derived b (List.mem_finRange b)⟩

/-! ### A record while the link is DOWN -/

theorem makeReady_down {s : State} (f : OutFrame) (h : s.port.up = false) : makeReady f s = s := by
  unfold makeReady
  rw [h]
  rfl

theorem enqueueRecord_down {body : RecordBody} {s : State} (hup : s.port.up = false) :
    enqueueRecord body s = modPort (fun p => { p with
      records := p.records ++ [{ number := p.nextRecord, time := stamp s, body := body }],
      nextRecord := nextNumber p.nextRecord }) s := by
  unfold enqueueRecord
  dsimp only
  split
  · exact makeReady_down _ hup
  · rfl

theorem queueRecord_room {body : RecordBody} {s : State} (hup : s.port.up = false) (h : 1 ≤ unclaimedFree s) :
    queueRecord body s = modPort (fun p => { p with
      records := p.records ++ [{ number := p.nextRecord, time := stamp s, body := body }],
      nextRecord := nextNumber p.nextRecord }) s := by
  unfold queueRecord
  rw [if_pos h, enqueueRecord_down hup]

theorem queueRecord_full {body : RecordBody} {s : State} (h : unclaimedFree s = 0) :
    queueRecord body s = modPort (fun p => { p with dropped := min Config.max16 (p.dropped + 1) }) s := by
  unfold queueRecord
  rw [if_neg (by omega)]

/-! ### The yard stop line asserted with every role vacant (R125, R126) -/

theorem filledNode_vacant {s : State} (h : s.plan.roles = Roles.vacant) (x : Attach) : filledNode s x = none := by
  have vacant : roleOf s x = Role.vacant := by
    rcases x with ⟨b, p⟩ | b | ⟨l, _ | _⟩ | l | l <;> simp [roleOf, h, Roles.vacant]
  unfold filledNode
  rw [vacant]
  rfl

/-- A station in DRIVE OFF: its mark is set and its motion timer stopped. -/
def Station.stopped (x : Station) : Station := { x with driveOffMark := true, motion := none }

/-- The sixteen stations marked. -/
def markStations (s : State) : State := allStations.foldl (fun s p => modStation p.1 p.2 Station.stopped s) s

/-- A lane that a yard stop meets: one that is asked for, waits or is on the bridge enters HELD. -/
def stopLane (l : LaneId) (s : State) : State :=
  if (s.seq.lanes[l]).state.faults && (s.seq.lanes[l]).state != .idle then holdLane l .yardStop (s.seq.lanes[l]).state s else s

theorem markStations_plan (s : State) : (markStations s).plan = s.plan := by
  have step : ∀ (u : State) (p : LaneId × LaneEnd), u.plan = s.plan → (modStation p.1 p.2 Station.stopped u).plan = s.plan :=
    fun u p hu => (modStation_plan p.1 p.2 _ u).trans hu
  unfold markStations
  exact LaneOps.foldl (P := fun u => u.plan = s.plan) step allStations rfl

/-- With no station FILLED an assertion queues its record, marks the stations and holds lanes. -/
theorem assertStop_vacant {s : State} (h : s.plan.roles = Roles.vacant) : assertStop s
    = (List.finRange 8).foldl (fun s l => stopLane l s) (markStations (queueRecord (.yardStop true) s)) := by
  have unfilled : ∀ u : State, u.plan.roles = Roles.vacant → ∀ l e, stopDrive l e u = u := by
    intro u hu l e
    unfold stopDrive
    rw [filledNode_vacant hu]
  have driven : ∀ u : State, u.plan.roles = Roles.vacant → allStations.foldl (fun s p => stopDrive p.1 p.2 s) u = u :=
    fun u hu => LaneOps.foldl (P := fun v => v = u) (fun v p hv => by rw [hv, unfilled u hu]) _ rfl
  have roles : (markStations (queueRecord (.yardStop true) s)).plan.roles = Roles.vacant := by
    rw [markStations_plan, (queueRecord_spec _ s).1.rest]
    exact h
  unfold assertStop
  dsimp only
  exact congrArg (fun u => (List.finRange 8).foldl (fun s l => stopLane l s) u) (driven _ roles)

/-- A station altered to what it is. -/
theorem modStation_fixed {l : LaneId} {e : LaneEnd} {f : Station → Station} {s : State}
    (h : f ((s.seq.lanes[l]).station e) = (s.seq.lanes[l]).station e) : modStation l e f s = s := by
  have lane : alter s.seq.lanes l (Lane.changeStation e f) = s.seq.lanes := by
    refine alter_fixed s.seq.lanes l ?_
    cases e
    · exact congrArg (fun x => { s.seq.lanes[l] with entry := x }) h
    · exact congrArg (fun x => { s.seq.lanes[l] with exit := x }) h
  have seq := modStation_seq l e f s
  rw [lane] at seq
  show { s with seq := (modStation l e f s).seq } = s
  rw [seq]

theorem markStations_fixed {s : State} (h : ∀ (l : LaneId) (e : LaneEnd),
    ((s.seq.lanes[l]).station e).stopped = (s.seq.lanes[l]).station e) : markStations s = s := by
  have step : ∀ (u : State) (p : LaneId × LaneEnd), u = s → modStation p.1 p.2 Station.stopped u = s := by
    intro u p hu
    subst hu
    exact modStation_fixed (h p.1 p.2)
  unfold markStations
  exact LaneOps.foldl (P := fun u => u = s) step allStations rfl

end Sys2Proof.Machine

namespace Sys2Proof.Machine

/-! ## The cold values (R28, R30, R49, R81, R94, R125, R150, R177, R192, R211, R212) -/

/-- The blocks at their cold values, before the bridges are derived and STARTED is queued. -/
def coldBlocks (s : State) : State :=
  { powered := true, calEnable := s.calEnable, yardStop := s.yardStop,
    engine := Vector.replicate 4 (Engine.cold false),
    cal := { store := checkStore (cutWrite s.cal.store), session := none, restricted := Vector.replicate 4 false },
    bus := Bus.cold 20, plan := Plan.cold (Vector.replicate 32 none), seq := Seq.cold s.yardStop,
    tables := Tables.cold, visits := Visits.cold, tickets := Tickets.cold, port := Port.cold,
    sentFrames := [], pending := s.pending }

/-- The stations and lanes of a cold reset with the line asserted are as an assertion leaves them. -/
theorem stopLanes_cold {s : State} (h : s.seq = Seq.cold true) :
    (List.finRange 8).foldl (fun s l => stopLane l s) (markStations s) = s := by
  have marked : markStations s = s := by
    refine markStations_fixed (fun l e => ?_)
    rw [h]
    cases e <;> simp [Seq.cold, Lane.cold, Lane.station, Station.cold, Station.stopped]
  have step : ∀ (u : State) (l : LaneId), u = s → stopLane l u = s := by
    intro u l hu
    subst hu
    have closed : (u.seq.lanes[l]).state = .closed := by
      rw [h]
      simp [Seq.cold, Lane.cold]
    unfold stopLane
    rw [closed]
    rfl
  rw [marked]
  exact LaneOps.foldl (P := fun u => u = s) step (List.finRange 8) rfl

/-- The record a reset queues first. -/
def startedRecord (kind : ResetKind) (s : State) : RecordBody :=
  .started kind
    (s.cal.store.records.toList.map (fun (i : StoreItem CalRecord) => i.valid)
      ++ [s.cal.store.counter.valid, s.cal.store.ticket.valid])
    s.tables.clock.set s.calEnable s.yardStop s.port.records.length s.port.claims

theorem modPort_of_eq {s t : State} {p : Port} (f : Port → Port) (h : s = t) (hp : s.port = p) :
    modPort f s = { t with port := f p } := by
  subst h
  subst hp
  rfl

/-- The cold values, block by block: the bridges are NOT_READY, STARTED is record 1, and YARD_STOP is record 2 when the
line is asserted. -/
theorem coldValues_spec (s : State) : ∃ (r : Vector Bool 4) (e : Vector Engine 4) (st : Stamp),
    coldValues s = { coldBlocks s with
      engine := e, cal := { (coldBlocks s).cal with restricted := r },
      port := { Port.cold with
        records := { number := 1, time := st, body := startedRecord .cold (coldBlocks s) }
          :: if s.yardStop then [{ number := 2, time := st, body := .yardStop true }] else [],
        nextRecord := if s.yardStop then 3 else 2 } }
    ∧ ∀ b : BridgeId, e[b] = { Engine.cold false with status := .notReady, reasons := reasonsOf (coldBlocks s) b } := by
  obtain ⟨r, rest, derived⟩ := deriveAtReset_spec (coldBlocks s)
  have whole : coldValues s = stopAtReset (queueStarted .cold (deriveAtReset (coldBlocks s))) := rfl
  generalize deriveAtReset (coldBlocks s) = d at rest derived whole
  have port : d.port = Port.cold := by rw [rest]; rfl
  have started : queueStarted .cold d = modPort (fun p => { p with
      records := p.records ++ [{ number := p.nextRecord, time := stamp d, body := startedRecord .cold d }],
      nextRecord := nextNumber p.nextRecord }) d :=
    queueRecord_room (by rw [port]; rfl) (by unfold unclaimedFree; rw [port]; decide)
  have body : startedRecord .cold d = startedRecord .cold (coldBlocks s) := by rw [rest]; rfl
  rw [started, body, modPort_of_eq _ rest port] at whole
  set q : State := { coldBlocks s with
      engine := d.engine, cal := { (coldBlocks s).cal with restricted := r },
      port := { Port.cold with
        records := [{ number := 1, time := stamp d, body := startedRecord .cold (coldBlocks s) }], nextRecord := 2 } } with hq
  replace whole : coldValues s = stopAtReset q := whole
  refine ⟨r, d.engine, stamp d, ?_, fun b => ?_⟩
  · rw [whole]
    unfold stopAtReset
    cases hy : s.yardStop with
    | false =>
      rw [if_neg (by rw [show q.yardStop = s.yardStop from rfl, hy]; decide)]
      rfl
    | true =>
      have asserted : queueRecord (.yardStop true) q = modPort (fun p => { p with
          records := p.records ++ [{ number := p.nextRecord, time := stamp q, body := .yardStop true }],
          nextRecord := nextNumber p.nextRecord }) q :=
        queueRecord_room rfl (by show 1 ≤ Config.recordSlots - 1 - 0; decide)
      have stamped : stamp q = stamp d := by rw [rest]; rfl
      have seq : q.seq = Seq.cold true := congrArg Seq.cold hy
      rw [if_pos (show q.yardStop = true from hy), assertStop_vacant (show q.plan.roles = Roles.vacant from rfl), asserted,
        stamped, stopLanes_cold (s := modPort _ q) seq]
      rfl
  · rw [derived b]
    have unfilled : (reasonsOf (coldBlocks s) b).beamUnfilled = true := by
      simp [reasonsOf, roleOf, coldBlocks, Plan.cold, Roles.vacant, Role.vacant]
    have cold : (coldBlocks s).engine[b] = Engine.cold false := by simp [coldBlocks]
    have status : statusOf (modCal (fun c => { c with restricted := r }) (coldBlocks s)) b = .notReady := by
      unfold statusOf
      rw [show (modCal (fun c => { c with restricted := r }) (coldBlocks s)).engine[b] = Engine.cold false from cold,
        show reasonsOf (modCal (fun c => { c with restricted := r }) (coldBlocks s)) b = reasonsOf (coldBlocks s) b from rfl,
        if_neg (by decide), if_neg (by simp [sessionOn, coldBlocks]), if_pos (by simp [Reasons.any, unfilled])]
    rw [cold, status]

/-- With no write in flight a loss of supply breaks no item. -/
theorem checkStore_cutWrite {st : Store} (h : st.inFlight = none) :
    checkStore (cutWrite st) = checkStore { st with asked := [] } := by
  unfold cutWrite
  rw [h]

theorem toList_map_eq_finRange {α β : Type} {n : Nat} (v : Vector α n) (f : α → β) :
    v.toList.map f = (List.finRange n).map (fun i => f v[i]) := by
  refine List.ext_getElem (by simp) (fun i hi hj => ?_)
  simp

end Sys2Proof.Machine

namespace Sys2Proof.Certificates
open Sys2Proof.Machine

/-- Settles O11: the cold values block by block, then the first cycle on a bus whose entries are FREE. -/
theorem coldResetTakesColdValues : Obligations.ColdResetTakesColdValues := by
  unfold Obligations.ColdResetTakesColdValues
  intro s
  obtain ⟨r, e, st, whole, engine⟩ := coldValues_spec s
  refine ⟨coldValues s, rfl, ?_⟩
  generalize coldValues s = t at whole
  obtain ⟨sent, round, window⟩ := startCycle_cold (t := t) (period := 20) (by rw [whole]; rfl) (by rw [whole]; rfl)
  refine ⟨sent, round, window, fun b => ?_, by rw [whole]; rfl, by rw [whole]; rfl, by rw [whole]; rfl, by rw [whole]; rfl,
    by rw [whole]; rfl, by rw [whole]; rfl, by rw [whole]; rfl, ?_, fun idle => ?_, by rw [whole]; rfl, by rw [whole]; rfl,
    by rw [whole]; rfl, by rw [whole]; rfl⟩
  · refine ⟨_, reasonsOf (coldBlocks s) b, ?_, rfl, ?_, ?_, ?_⟩
    · rw [whole]
      exact engine b
    · simp [reasonsOf, roleOf, coldBlocks, Plan.cold, Roles.vacant, Role.vacant]
    · simp [reasonsOf, coldBlocks, Engine.cold]
    · rw [whole]
      rfl
  · refine ⟨{ number := 1, time := st, body := startedRecord .cold (coldBlocks s) }, { number := 2, time := st, body := .yardStop true },
      rfl, rfl, rfl, ?_, ?_⟩
    · rw [whole]
      cases s.yardStop <;> rfl
    · rw [whole]
      show startedRecord .cold (coldBlocks s) = _
      unfold startedRecord
      rw [toList_map_eq_finRange]
      rfl
  · have store : t.cal.store = checkStore { s.cal.store with asked := [] } := by
      rw [whole, ← checkStore_cutWrite idle]
      rfl
    rw [store]
    refine ⟨fun b => ?_, rfl, rfl, rfl, rfl⟩
    simp [checkStore, checkItem]

end Sys2Proof.Certificates

namespace Sys2Proof.Machine

/-! ## The tickets that end at a warm reset (R179, R192) -/

/-- A record queued while the link is DOWN makes no frame ready. -/
theorem queueRecord_silent {body : RecordBody} {s : State} (hup : s.port.up = false) : ∃ records next dropped,
    queueRecord body s = modPort (fun p => { p with records := records, nextRecord := next, dropped := dropped }) s := by
  by_cases h : 1 ≤ unclaimedFree s
  · exact ⟨_, _, s.port.dropped, queueRecord_room hup h⟩
  · exact ⟨s.port.records, s.port.nextRecord, _, queueRecord_full (by omega)⟩

theorem spendClaim_silent {body : RecordBody} {s : State} (hup : s.port.up = false) : ∃ records next claims dropped,
    spendClaim body s
      = modPort (fun p => { p with records := records, nextRecord := next, claims := claims, dropped := dropped }) s := by
  unfold spendClaim
  split
  · rw [enqueueRecord_down (s := modPort (fun p => { p with claims := p.claims - 1 }) s) hup]
    exact ⟨_, _, _, s.port.dropped, rfl⟩
  · obtain ⟨records, next, dropped, h⟩ := queueRecord_silent (body := body) hup
    rw [h]
    exact ⟨_, _, s.port.claims, _, rfl⟩

/-- What the tickets of a warm reset leave: with no lane TICKETING all but visits, accounts and bank references, the queues
and last jobs of the printers, the carried visit and outcome of a lane that is not CLOSED, and the record queue. -/
structure ResetFrame (s t : State) : Prop where
  rest : t = { s with cal := t.cal, seq := t.seq, tables := t.tables, visits := t.visits, tickets := t.tickets, port := t.port }
  session : t.cal.session = s.cal.session
  bridges : t.seq.bridges = s.seq.bridges
  lanes : ∀ l : LaneId, t.seq.lanes[l]
    = { s.seq.lanes[l] with visit := (t.seq.lanes[l]).visit, outcome := (t.seq.lanes[l]).outcome }
  closed : ∀ l : LaneId, (s.seq.lanes[l]).state = .closed → (t.seq.lanes[l]).visit = (s.seq.lanes[l]).visit
  tables : t.tables = { s.tables with accounts := t.tables.accounts, banks := t.tables.banks }
  rows : ∀ b : BankId, (t.tables.banks[b]).rows = (s.tables.banks[b]).rows
  headers : t.tickets.headers = s.tickets.headers
  printers : ∀ l : LaneId, t.tickets.printers[l]
    = { s.tickets.printers[l] with queue := (t.tickets.printers[l]).queue, lastJob := (t.tickets.printers[l]).lastJob }
  port : t.port = { s.port with records := t.port.records, nextRecord := t.port.nextRecord, claims := t.port.claims,
                                dropped := t.port.dropped }
  visits : ∀ n : Nat, findVisit s n = none → findVisit t n = none

namespace ResetFrame

theorem refl (s : State) : ResetFrame s s :=
  ⟨rfl, rfl, rfl, fun _ => rfl, fun _ _ => rfl, rfl, fun _ => rfl, rfl, fun _ => rfl, rfl, fun _ => id⟩

theorem state {s t : State} (h : ResetFrame s t) (l : LaneId) : (t.seq.lanes[l]).state = (s.seq.lanes[l]).state := by
  rw [h.lanes l]

theorem up {s t : State} (h : ResetFrame s t) : t.port.up = s.port.up := by
  rw [h.port]

theorem calEnable {s t : State} (h : ResetFrame s t) : t.calEnable = s.calEnable := by
  rw [h.rest]

theorem yardStop {s t : State} (h : ResetFrame s t) : t.yardStop = s.yardStop := by
  rw [h.rest]

theorem engine {s t : State} (h : ResetFrame s t) : t.engine = s.engine := by
  rw [h.rest]

theorem bus {s t : State} (h : ResetFrame s t) : t.bus = s.bus := by
  rw [h.rest]

theorem plan {s t : State} (h : ResetFrame s t) : t.plan = s.plan := by
  rw [h.rest]

theorem trans {s t u : State} (h : ResetFrame s t) (k : ResetFrame t u) : ResetFrame s u where
  rest := by rw [k.rest, h.rest]
  session := k.session.trans h.session
  bridges := k.bridges.trans h.bridges
  lanes l := by rw [k.lanes l, h.lanes l]
  closed l hl := (k.closed l ((h.state l).trans hl)).trans (h.closed l hl)
  tables := by rw [k.tables, h.tables]
  rows b := (k.rows b).trans (h.rows b)
  headers := k.headers.trans h.headers
  printers l := by rw [k.printers l, h.printers l]
  port := by rw [k.port, h.port]
  visits n hn := k.visits n (h.visits n hn)

/-- A change of the record queue. -/
theorem modPort (s : State) {f : Port → Port} (hf : f s.port = { s.port with
    records := (f s.port).records, nextRecord := (f s.port).nextRecord, claims := (f s.port).claims,
    dropped := (f s.port).dropped }) : ResetFrame s (modPort f s) :=
  ⟨rfl, rfl, rfl, fun _ => rfl, fun _ _ => rfl, rfl, fun _ => rfl, rfl, fun _ => rfl, hf, fun _ => id⟩

theorem modPrinter (l : LaneId) (s : State) {f : Printer → Printer}
    (hf : ∀ p : Printer, f p = { p with queue := (f p).queue, lastJob := (f p).lastJob }) : ResetFrame s (modPrinter l f s) := by
  refine ⟨rfl, rfl, rfl, fun _ => rfl, fun _ _ => rfl, rfl, fun _ => rfl, rfl, fun k => ?_, rfl, fun _ => id⟩
  simp only [Fin.getElem_fin, modPrinter_tickets, getElem_alter]
  split
  · rename_i hk
    subst hk
    exact hf _
  · rfl

theorem modTickets (s : State) {f : Tickets → Tickets} (hp : (f s.tickets).printers = s.tickets.printers)
    (hh : (f s.tickets).headers = s.tickets.headers) : ResetFrame s (modTickets f s) :=
  ⟨rfl, rfl, rfl, fun _ => rfl, fun _ _ => rfl, rfl, fun _ => rfl, hh, fun l => by
    rw [show (Machine.modTickets f s).tickets.printers = s.tickets.printers from hp], rfl, fun _ => id⟩

theorem modVisits (s : State) {f : Visits → Visits} (hf : ∀ n, findVisit s n = none → findVisit (modVisits f s) n = none) :
    ResetFrame s (modVisits f s) :=
  ⟨rfl, rfl, rfl, fun _ => rfl, fun _ _ => rfl, rfl, fun _ => rfl, rfl, fun _ => rfl, rfl, hf⟩

theorem modVisit (n : Nat) (s : State) {f : Visit → Visit} (hf : ∀ v : Visit, (f v).number = v.number) :
    ResetFrame s (modVisit n f s) := by
  refine modVisits s (fun k hk => ?_)
  unfold findVisit at hk ⊢
  simp only [List.find?_eq_none, modVisits_visits, List.mem_map] at hk ⊢
  rintro v ⟨u, hu, rfl⟩
  have := hk u hu
  split
  · rw [hf]
    exact this
  · exact this

theorem removeVisit (n : Nat) (s : State) : ResetFrame s (removeVisit n s) := by
  refine modVisits s (fun k hk => ?_)
  unfold findVisit at hk ⊢
  simp only [List.find?_eq_none, modVisits_visits] at hk ⊢
  exact fun v hv => hk v (List.mem_of_mem_filter hv)

theorem unrefBank (b : BankId) (s : State) : ResetFrame s (unrefBank b s) := by
  refine ⟨rfl, rfl, rfl, fun _ => rfl, fun _ _ => rfl, rfl, fun k => ?_, rfl, fun _ => rfl, rfl, fun _ => id⟩
  simp only [Machine.unrefBank, Fin.getElem_fin, modTables_tables, getElem_alter]
  split <;> rfl

theorem modAccount (n : Nat) (s : State) (f : Account → Account) : ResetFrame s (modAccount n f s) :=
  ⟨rfl, rfl, rfl, fun _ => rfl, fun _ _ => rfl, rfl, fun _ => rfl, rfl, fun _ => rfl, rfl, fun _ => id⟩

theorem askWriteBehindReset (w : StoreWrite) (s : State) : ResetFrame s (askWriteBehindReset w s) := by
  rcases askWriteBehindReset_cases w s with ⟨-, -, hq⟩ | ⟨-, hq⟩ <;> rw [hq] <;>
    exact ⟨rfl, rfl, rfl, fun _ => rfl, fun _ _ => rfl, rfl, fun _ => rfl, rfl, fun _ => rfl, rfl, fun _ => id⟩

/-- A lane in HELD or FAULT loses its visit and keeps its ticket's outcome. -/
theorem lostVisit {l : LaneId} {s : State} (h : (s.seq.lanes[l]).state ≠ .closed) (o : Option Bool) :
    ResetFrame s (modLane l (fun x => { x with visit := none, outcome := o }) s) := by
  refine ⟨rfl, rfl, rfl, fun k => ?_, fun k hk => ?_, rfl, fun _ => rfl, rfl, fun _ => rfl, rfl, fun _ => id⟩
  · simp only [Fin.getElem_fin, modLane_seq, getElem_alter]
    split <;> rfl
  · have other : l ≠ k := fun same => h (same ▸ hk)
    simp only [Fin.getElem_fin, modLane_seq]
    rw [getElem_alter_ne _ other]

end ResetFrame

theorem ticketTold_resetFrame {l : LaneId} {o : Bool} {s : State} (h : (s.seq.lanes[l]).state ≠ .ticketing) :
    ResetFrame s (ticketTold l o s) := by
  unfold ticketTold
  split
  · rename_i state
    exact absurd state h
  · rename_i state
    exact .lostVisit (by rw [state]; decide) _
  · rename_i state
    exact .lostVisit (by rw [state]; decide) _
  · exact .refl s

theorem closeVisit_resetFrame {n : Nat} {k : Option Nat} {f : Option TicketFailure} {s : State} (hup : s.port.up = false) :
    ResetFrame s (closeVisit n k f s) := by
  unfold closeVisit
  split
  · exact .refl s
  · rename_i v _
    extract_lets s1 s2 s3
    have closed : ResetFrame s s1 := by
      unfold s1
      split
      · obtain ⟨records, next, claims, dropped, h⟩ := spendClaim_silent (body := .visitClosed ‹_›)
          (s := modVisit n (fun v => { v with claims := v.claims - 1 }) s) hup
        unfold spendVisitClaim
        rw [h]
        exact (ResetFrame.modVisit (f := fun v => { v with claims := v.claims - 1 }) n s (fun _ => rfl)).trans (.modPort _ rfl)
      · exact .refl s
    have released : ResetFrame s1 s2 := by
      unfold s2
      split
      · exact .refl s1
      · exact .modAccount _ s1 _
    have unfixed : ResetFrame s2 s3 := by
      unfold s3
      split
      · exact .unrefBank _ s2
      · exact .refl s2
    exact ((closed.trans released).trans unfixed).trans (.removeVisit n s3)

/-- A visit closed has left the table. -/
theorem closeVisit_findVisit (n : Nat) (k : Option Nat) (f : Option TicketFailure) (s : State) :
    findVisit (closeVisit n k f s) n = none := by
  have removed : ∀ u : State, findVisit (removeVisit n u) n = none := by
    intro u
    unfold findVisit removeVisit
    simp [List.find?_eq_none]
  unfold closeVisit
  split
  · assumption
  · exact removed _

theorem startNumbering_resetFrame (s : State) : ResetFrame s (startNumbering s) := by
  unfold startNumbering
  split
  · split
    · exact ((ResetFrame.modTickets s rfl rfl).trans (.modPrinter _ _ (fun _ => rfl))).trans (.askWriteBehindReset _ _)
    · exact .refl s
  · exact .refl s

theorem handOver_resetFrame (n : Nat) (l : LaneId) (s : State) : ResetFrame s (handOver n l s) := by
  unfold handOver
  split
  · exact .refl s
  · split
    · refine (((ResetFrame.modPrinter l s (fun _ => rfl)).trans (.modTickets _ rfl rfl)).trans (.modVisit n _ (fun v => ?_))).trans
        (startNumbering_resetFrame _)
      split <;> rfl
    · exact .modTickets s rfl rfl

/-- The state of a warm reset as its tickets end: the link is DOWN and no lane is TICKETING. -/
structure ResetTime (s : State) : Prop where
  down : s.port.up = false
  state : ∀ l : LaneId, (s.seq.lanes[l]).state ≠ .ticketing

theorem ResetTime.kept {s t : State} (h : ResetTime s) (k : ResetFrame s t) : ResetTime t :=
  ⟨k.up.trans h.down, fun l => by rw [k.state]; exact h.state l⟩

theorem endAtReset_resetFrame {l : LaneId} {t : Ticket} {s : State} (h : ResetTime s) : ResetFrame s (endAtReset l t s) := by
  unfold endAtReset
  split
  · exact .refl s
  · extract_lets s1 lane s2
    have h1 : ResetFrame s s1 := .modPrinter l s (fun _ => rfl)
    have h2 : ResetFrame s s2 := h1.trans (closeVisit_resetFrame (h.kept h1).down)
    clear_value lane
    cases lane with
    | some k => exact h2.trans (ticketTold_resetFrame ((h.kept h2).state k))
    | none => exact h2

/-- The visit of an ORIGINAL that ends has closed. -/
theorem endAtReset_findVisit {l : LaneId} {t : Ticket} {s : State} (h : ResetTime s) (ht : t.kind = .original) :
    findVisit (endAtReset l t s) t.content.visit = none := by
  unfold endAtReset
  rw [ht]
  extract_lets s1 lane s2
  have h1 : ResetFrame s s1 := .modPrinter l s (fun _ => rfl)
  have h2 : ResetFrame s s2 := h1.trans (closeVisit_resetFrame (h.kept h1).down)
  have closed : findVisit s2 t.content.visit = none := closeVisit_findVisit _ _ _ _
  clear_value lane
  cases lane with
  | some k => exact (ticketTold_resetFrame ((h.kept h2).state k)).visits _ closed
  | none => exact closed

end Sys2Proof.Machine

namespace Sys2Proof.Machine

/-- A step of a fold that makes a property holds it to the end, where the others keep it. -/
theorem foldl_establishes {α : Type} {f : State → α → State} {I Q : State → Prop} (inv : ∀ u x, I u → I (f u x))
    (keeps : ∀ u x, I u → Q u → Q (f u x)) {x : α} (makes : ∀ u, I u → Q (f u x)) {xs : List α} (hx : x ∈ xs) {s : State}
    (hs : I s) : Q (xs.foldl f s) := by
  induction xs generalizing s with
  | nil => exact absurd hx List.not_mem_nil
  | cons y ys ih =>
    rw [List.foldl_cons]
    rcases List.mem_cons.1 hx with rfl | later
    · have both : I (ys.foldl f (f s x)) ∧ Q (ys.foldl f (f s x)) :=
        LaneOps.foldl (P := fun u => I u ∧ Q u) (fun u y hu => ⟨inv u y hu.1, keeps u y hu.1 hu.2⟩) ys ⟨inv s x hs, makes s hs⟩
      exact both.2
    · exact ih later (inv s y hs)

/-- The ticket unit with its queues emptied and its timers stopped. -/
def ticketsEmptied (s : State) : State :=
  modTickets (fun t => { t with
    printers := t.printers.map (fun p => { p with queue := [], timer := none, outstanding := false, retry := none }),
    handOver := [], numbering := [], inFlight := none }) s

theorem ticketsEmptied_printer (s : State) (l : LaneId) : (ticketsEmptied s).tickets.printers[l]
    = { s.tickets.printers[l] with queue := [], timer := none, outstanding := false, retry := none } :=
  Vector.getElem_map _ _

theorem endPlace_resetFrame {queues : LaneId → List Ticket} {i : Nat} {s : State} (h : ResetTime s) :
    ResetFrame s (endPlace queues i s) := by
  refine LaneOps.foldl (P := ResetFrame s) (fun u l hu => ?_) (List.finRange 8) (.refl s)
  split
  · exact hu.trans (endAtReset_resetFrame (h.kept hu))
  · exact hu

theorem resetTickets_resetFrame {s : State} (h : ResetTime (ticketsEmptied s)) :
    ResetFrame (ticketsEmptied s) (resetTickets s) :=
  LaneOps.foldl (fun _ _ hu => hu.trans (handOver_resetFrame _ _ _)) _
    (LaneOps.foldl (fun _ _ hu => hu.trans (endPlace_resetFrame (h.kept hu))) _ (.refl _))

/-- The visit of every ORIGINAL queued within its printer's places has closed. -/
theorem resetTickets_findVisit {s : State} (h : ResetTime (ticketsEmptied s)) {l : LaneId} {t : Ticket}
    (room : (s.tickets.printers[l]).queue.length ≤ Config.ticketSlots) (ht : t ∈ (s.tickets.printers[l]).queue)
    (original : t.kind = .original) : findVisit (resetTickets s) t.content.visit = none := by
  obtain ⟨i, hi, rfl⟩ := List.mem_iff_getElem.1 ht
  set t := (s.tickets.printers[l]).queue[i] with hdef
  have place : ∀ u, ResetTime u →
      findVisit (endPlace (fun l => (s.tickets.printers[l]).queue) i u) t.content.visit = none := by
    intro u hu
    refine foldl_establishes (I := ResetTime) (Q := fun v => findVisit v t.content.visit = none) (x := l)
      (fun v k hv => ?_) (fun v k hv gone => ?_) (fun v hv => ?_) (List.mem_finRange l) hu
    · dsimp only
      split
      · exact hv.kept (endAtReset_resetFrame hv)
      · exact hv
    · dsimp only
      split
      · exact (endAtReset_resetFrame hv).visits _ gone
      · exact gone
    · dsimp only
      rw [List.getElem?_eq_getElem hi]
      exact endAtReset_findVisit hv original
  have places : findVisit ((List.range Config.ticketSlots).foldl
      (fun u i => endPlace (fun l => (s.tickets.printers[l]).queue) i u) (ticketsEmptied s)) t.content.visit = none :=
    foldl_establishes (f := fun u i => endPlace (fun l => (s.tickets.printers[l]).queue) i u) (I := ResetTime)
      (Q := fun v => findVisit v t.content.visit = none) (x := i)
      (fun _ _ hv => hv.kept (endPlace_resetFrame hv)) (fun _ _ hv gone => (endPlace_resetFrame hv).visits _ gone) place
      (List.mem_range.2 (hi.trans_le room)) h
  exact LaneOps.foldl (P := fun v => findVisit v t.content.visit = none)
    (fun v x gone => (handOver_resetFrame _ _ v).visits _ gone) s.tickets.handOver places

/-- With nothing queued and nothing handed over the ticket unit is emptied and no more. -/
theorem resetTickets_idle {s : State} (hq : ∀ l : LaneId, (s.tickets.printers[l]).queue = [])
    (hh : s.tickets.handOver = []) : resetTickets s = ticketsEmptied s := by
  have place : ∀ (u : State) (i : Nat), u = ticketsEmptied s →
      endPlace (fun l => (s.tickets.printers[l]).queue) i u = ticketsEmptied s := by
    intro u i hu
    refine LaneOps.foldl (P := fun v => v = ticketsEmptied s) (fun v l hv => ?_) (List.finRange 8) hu
    dsimp only
    rw [hq l]
    exact hv
  have places : (List.range Config.ticketSlots).foldl
      (fun u i => endPlace (fun l => (s.tickets.printers[l]).queue) i u) (ticketsEmptied s) = ticketsEmptied s :=
    LaneOps.foldl (P := fun v => v = ticketsEmptied s) place (List.range Config.ticketSlots) rfl
  have whole : resetTickets s = s.tickets.handOver.foldl (fun u x => handOver x.1 x.2 u)
      ((List.range Config.ticketSlots).foldl (fun u i => endPlace (fun l => (s.tickets.printers[l]).queue) i u)
        (ticketsEmptied s)) := rfl
  rw [whole, places, hh]
  rfl

/-! ## The values of a warm reset (R29, R81, R94, R126, R178, R212) -/

theorem Lane.warmed_onBridge {x : Lane} (stop : Bool)
    (h : x.state ∈ [LaneState.entering, .weighing, .ticketing, .releasing]) :
    (x.warm stop).state = .held ∧ (x.warm stop).hold = some (.restart, x.state) := by
  simp only [List.mem_cons, List.not_mem_nil, or_false] at h
  rcases h with h | h | h | h <;> simp [Lane.warm, warmState, LaneState.onBridge, h]

theorem Lane.warmed_stays {x : Lane} (stop : Bool) (h : x.state ∈ [LaneState.waitBridge, .held, .fault]) :
    (x.warm stop).state = x.state ∧ (x.warm stop).hold = x.hold ∧ (x.warm stop).fault = x.fault := by
  simp only [List.mem_cons, List.not_mem_nil, or_false] at h
  rcases h with h | h | h <;> simp [Lane.warm, warmState, LaneState.onBridge, h]

theorem Lane.warmed_closes {x : Lane} (stop : Bool) (h : x.state ∈ [LaneState.asking, .idle, .closed]) :
    (x.warm stop).state = .closed ∧ (x.warm stop).visit = none ∧ (x.warm stop).asking = none := by
  simp only [List.mem_cons, List.not_mem_nil, or_false] at h
  rcases h with h | h | h <;> simp [Lane.warm, warmState, h]

theorem Lane.warmed_state (x : Lane) (stop : Bool) :
    (x.warm stop).state ∈ [LaneState.held, .waitBridge, .fault, .closed] := by
  show warmState x.state ∈ _
  cases x.state <;> decide

theorem Lane.warmed_visit (x : Lane) (stop : Bool) : (x.warm stop).visit = if (x.warm stop).state = .closed then none else x.visit :=
  rfl

theorem Lane.warmed_station (x : Lane) (stop : Bool) (e : LaneEnd) : (x.warm stop).station e = { Station.cold stop with
    wantArm := if (x.warm stop).state ∈ [LaneState.held, .fault] then .none else .down } := by
  have want : (if (x.warm stop).state = .held ∨ (x.warm stop).state = .fault then WantedArm.none else .down)
      = if (x.warm stop).state ∈ [LaneState.held, .fault] then .none else .down := by simp
  rw [← want]
  cases e <;> rfl

/-- The blocks across a warm reset, before the bridges are derived and STARTED is queued. -/
def warmBlocks (kind : ResetKind) (s : State) : State :=
  { s with
    engine := s.engine.map Engine.warm,
    cal := { s.cal with store := warmStore s.cal.store },
    bus := Bus.cold s.bus.scan.period,
    plan := Plan.cold s.plan.entries,
    seq := { lanes := s.seq.lanes.map (Lane.warm s.yardStop), bridges := s.seq.bridges.map BridgeSeq.warm },
    port := Port.warm kind s.port }

/-- The port across a warm reset, with STARTED queued, or dropped where there is no room. -/
def startedPort (kind : ResetKind) (s : State) : Port :=
  if 1 ≤ unclaimedFree s then
    { Port.warm kind s.port with
      records := s.port.records
        ++ [{ number := s.port.nextRecord, time := stamp s, body := startedRecord kind (warmBlocks kind s) }],
      nextRecord := nextNumber s.port.nextRecord }
  else { Port.warm kind s.port with dropped := min Config.max16 (s.port.dropped + 1) }

/-- The state in which the tickets of a warm reset end. -/
def warmStarted (kind : ResetKind) (s : State) : State := queueStarted kind (deriveAtReset (warmBlocks kind s))

theorem warmValues_eq (kind : ResetKind) (s : State) :
    warmValues kind s = stopAtReset (resetTickets (warmStarted kind (abortAtReset s))) := rfl

theorem warmStarted_spec (kind : ResetKind) (s : State) : ∃ (r : Vector Bool 4) (e : Vector Engine 4),
    warmStarted kind s = { warmBlocks kind s with
      engine := e, cal := { (warmBlocks kind s).cal with restricted := r }, port := startedPort kind s }
    ∧ ∀ b : BridgeId, ∃ st rs, e[b] = { (s.engine[b]).warm with status := st, reasons := rs } := by
  obtain ⟨r, rest, derived⟩ := deriveAtReset_spec (warmBlocks kind s)
  have whole : warmStarted kind s = queueStarted kind (deriveAtReset (warmBlocks kind s)) := rfl
  generalize deriveAtReset (warmBlocks kind s) = d at rest derived whole
  have port : d.port = Port.warm kind s.port := by rw [rest]; rfl
  have down : d.port.up = false := by rw [port]; rfl
  have free : unclaimedFree d = unclaimedFree s := by unfold unclaimedFree; rw [port]; rfl
  have body : startedRecord kind d = startedRecord kind (warmBlocks kind s) := by rw [rest]; rfl
  have stamped : stamp d = stamp s := by rw [rest]; rfl
  have engine : ∀ b : BridgeId, (warmBlocks kind s).engine[b] = (s.engine[b]).warm := fun b => Vector.getElem_map _ _
  refine ⟨r, d.engine, ?_, fun b => ⟨_, _, (derived b).trans (by rw [engine b])⟩⟩
  rw [whole]
  by_cases room : 1 ≤ unclaimedFree s
  · have queued : queueStarted kind d = modPort (fun p => { p with
        records := p.records ++ [{ number := p.nextRecord, time := stamp d, body := startedRecord kind d }],
        nextRecord := nextNumber p.nextRecord }) d := queueRecord_room down (free ▸ room)
    rw [queued, body, stamped, modPort_of_eq _ rest port, startedPort, if_pos room]
    rfl
  · have dropped : queueStarted kind d = modPort (fun p => { p with dropped := min Config.max16 (p.dropped + 1) }) d :=
      queueRecord_full (by omega)
    rw [dropped, modPort_of_eq _ rest port, startedPort, if_neg room]
    rfl

end Sys2Proof.Machine

namespace Sys2Proof.Machine

/-- The values of a warm reset before a line asserted is acted on, the tickets that were queued having ended. -/
structure WarmFrame (kind : ResetKind) (s t : State) : Prop where
  calEnable : t.calEnable = s.calEnable
  yardStop : t.yardStop = s.yardStop
  engine : ∀ b : BridgeId, ∃ st rs, t.engine[b] = { (s.engine[b]).warm with status := st, reasons := rs }
  session : t.cal.session = s.cal.session
  bus : t.bus = Bus.cold s.bus.scan.period
  plan : t.plan = Plan.cold s.plan.entries
  bridges : ∀ b : BridgeId, t.seq.bridges[b] = (s.seq.bridges[b]).warm
  lanes : ∀ l : LaneId, t.seq.lanes[l] = { (s.seq.lanes[l]).warm s.yardStop with
    visit := (t.seq.lanes[l]).visit, outcome := (t.seq.lanes[l]).outcome }
  closed : ∀ l : LaneId, (t.seq.lanes[l]).state = .closed → (t.seq.lanes[l]).visit = none
  tables : t.tables = { s.tables with accounts := t.tables.accounts, banks := t.tables.banks }
  rows : ∀ b : BankId, (t.tables.banks[b]).rows = (s.tables.banks[b]).rows
  headers : t.tickets.headers = s.tickets.headers
  printers : ∀ l : LaneId, t.tickets.printers[l] = { s.tickets.printers[l] with
    queue := (t.tickets.printers[l]).queue, timer := none, outstanding := false, retry := none,
    lastJob := (t.tickets.printers[l]).lastJob }
  port : t.port = { Port.warm kind s.port with
    records := t.port.records, nextRecord := t.port.nextRecord, claims := t.port.claims, dropped := t.port.dropped }

/-- A lane's state of a warm reset with its visit and outcome put aside. -/
theorem WarmFrame.state {kind : ResetKind} {s t : State} (h : WarmFrame kind s t) (l : LaneId) :
    (t.seq.lanes[l]).state = ((s.seq.lanes[l]).warm s.yardStop).state := by
  rw [h.lanes l]

/-- The end of tickets leaves the values of a warm reset. -/
theorem WarmFrame.ended {kind : ResetKind} {s u t : State} (h : WarmFrame kind s u) (k : ResetFrame u t) : WarmFrame kind s t where
  calEnable := k.calEnable.trans h.calEnable
  yardStop := k.yardStop.trans h.yardStop
  engine b := by rw [k.engine]; exact h.engine b
  session := k.session.trans h.session
  bus := k.bus.trans h.bus
  plan := k.plan.trans h.plan
  bridges b := by rw [k.bridges]; exact h.bridges b
  lanes l := by rw [k.lanes l, h.lanes l]
  closed l hl :=
    have before := (k.state l).symm.trans hl
    (k.closed l before).trans (h.closed l before)
  tables := by rw [k.tables, h.tables]
  rows b := (k.rows b).trans (h.rows b)
  headers := k.headers.trans h.headers
  printers l := by rw [k.printers l, h.printers l]
  port := by rw [k.port, h.port]

theorem startedPort_eq (kind : ResetKind) (s : State) : startedPort kind s = { Port.warm kind s.port with
    records := (startedPort kind s).records, nextRecord := (startedPort kind s).nextRecord,
    claims := (startedPort kind s).claims, dropped := (startedPort kind s).dropped } := by
  unfold startedPort
  split <;> rfl

theorem warmStarted_printers (kind : ResetKind) (s : State) : (warmStarted kind s).tickets = s.tickets := by
  obtain ⟨r, e, whole, -⟩ := warmStarted_spec kind s
  rw [whole]
  rfl

/-- The ticket unit emptied on the values of a warm reset. -/
theorem ticketsEmptied_warm (kind : ResetKind) (s : State) : WarmFrame kind s (ticketsEmptied (warmStarted kind s)) := by
  obtain ⟨r, e, whole, engine⟩ := warmStarted_spec kind s
  have lane : ∀ l : LaneId, (warmBlocks kind s).seq.lanes[l] = (s.seq.lanes[l]).warm s.yardStop := fun l =>
    Vector.getElem_map _ _
  have port := startedPort_eq kind s
  rw [whole]
  refine ⟨rfl, rfl, engine, rfl, rfl, rfl, fun b => Vector.getElem_map _ _, fun l => ?_, fun l hl => ?_, rfl, fun _ => rfl, rfl,
    fun l => by rw [ticketsEmptied_printer]; rfl, ?_⟩
  · show (warmBlocks kind s).seq.lanes[l] = { (s.seq.lanes[l]).warm s.yardStop with
      visit := ((warmBlocks kind s).seq.lanes[l]).visit, outcome := ((warmBlocks kind s).seq.lanes[l]).outcome }
    rw [lane l]
  · have hs : (((s.seq.lanes[l]).warm s.yardStop).state) = .closed := (lane l) ▸ hl
    show ((warmBlocks kind s).seq.lanes[l]).visit = none
    rw [lane l, Lane.warmed_visit, if_pos hs]
  · exact port

theorem warmStarted_resetTime (kind : ResetKind) (s : State) : ResetTime (ticketsEmptied (warmStarted kind s)) := by
  have h := ticketsEmptied_warm kind s
  refine ⟨by rw [h.port]; rfl, fun l hl => ?_⟩
  have other := Lane.warmed_state (s.seq.lanes[l]) s.yardStop
  rw [← h.state l, hl] at other
  exact absurd other (by decide)

/-- The tickets that end and those handed over again leave the values of a warm reset. -/
theorem resetTickets_warm (kind : ResetKind) (s : State) : WarmFrame kind s (resetTickets (warmStarted kind s)) :=
  (ticketsEmptied_warm kind s).ended (resetTickets_resetFrame (warmStarted_resetTime kind s))

/-- A warm reset with no write in flight. -/
theorem exec_warmReset {s : State} (hp : s.powered = true) (ha : s.port.resetAsked = none) (hf : s.cal.store.inFlight = none) :
    exec .warmReset s = .next (startCycle (warmValues .warmLine (fresh s))) := by
  have asked : askReset .warmLine (fresh s) = startCycle (warmValues .warmLine (fresh s)) := by
    unfold askReset
    rw [if_neg (by rw [fresh_port, ha]; decide), if_neg (by rw [fresh_cal, hf]; decide)]
    rfl
  exact (act_of_powered hp).trans (congrArg _ asked)

/-- A warm reset asked for during a write. -/
theorem exec_warmReset_busy {s : State} {w : StoreWrite} (hp : s.powered = true) (ha : s.port.resetAsked = none)
    (hf : s.cal.store.inFlight = some w) :
    exec .warmReset s = .next { fresh s with port := { s.port with resetAsked := some .warmLine } } := by
  have asked : askReset .warmLine (fresh s) = { fresh s with port := { s.port with resetAsked := some .warmLine } } := by
    unfold askReset
    rw [if_neg (by rw [fresh_port, ha]; decide), if_pos (by rw [fresh_cal, hf]; rfl)]
    rfl
  exact (act_of_powered hp).trans (congrArg _ asked)

/-- With the yard stop line deasserted the values of a warm reset end with its tickets. -/
theorem warmValues_deasserted {kind : ResetKind} {s : State} (hy : (abortAtReset s).yardStop = false) :
    warmValues kind s = resetTickets (warmStarted kind (abortAtReset s)) := by
  rw [warmValues_eq]
  unfold stopAtReset
  rw [if_neg (by rw [(resetTickets_warm kind _).yardStop, hy]; decide)]

theorem abortAtReset_none {s : State} (h : s.cal.session = none) : abortAtReset s = s := by
  unfold abortAtReset
  rw [h]

theorem abortAtReset_some {s : State} {x : Session} (h : s.cal.session = some x) : abortAtReset s = dropSession x s := by
  unfold abortAtReset
  rw [h]

end Sys2Proof.Machine

namespace Sys2Proof.Machine

/-! ## The yard stop line asserted at a warm reset (R117, R126) -/

/-- A lane that a yard stop meets with no station FILLED. -/
def Lane.stopped (x : Lane) : Lane :=
  if x.state.faults && x.state != .idle then
    { x with state := .held, hold := some (.yardStop, x.state), timer := none,
             entry := { x.entry with wantArm := .none, wantSignal := .red },
             exit := { x.exit with wantArm := .none, wantSignal := .red } }
  else x

theorem Lane.stopped_stopped (x : Lane) : x.stopped.stopped = x.stopped := by
  unfold Lane.stopped
  split_ifs with first second
  · exact absurd second Bool.false_ne_true
  · rfl
  · rfl

/-- All that a yard stop does to lanes with no station FILLED. -/
structure Stopping (s t : State) : Prop where
  yardStop : t.yardStop = s.yardStop
  plan : t.plan = s.plan
  bridges : t.seq.bridges = s.seq.bridges
  records : ∃ rest, t.port.records = s.port.records ++ rest
  lanes : ∀ l : LaneId, t.seq.lanes[l] = s.seq.lanes[l] ∨ t.seq.lanes[l] = (s.seq.lanes[l]).stopped

theorem Stopping.refl (s : State) : Stopping s s := ⟨rfl, rfl, rfl, ⟨[], by simp⟩, fun _ => .inl rfl⟩

theorem queueRecord_appends (body : RecordBody) (s : State) :
    ∃ rest, (queueRecord body s).port.records = s.port.records ++ rest := by
  obtain ⟨-, -, room, full⟩ := queueRecord_spec body s
  by_cases h : 1 ≤ unclaimedFree s
  · exact ⟨_, room h⟩
  · exact ⟨[], by rw [full (by omega), List.append_nil]⟩

/-- A hold told to the visit unit changes the visit and queues its record. -/
theorem holdTold_eq (n : Nat) (r : HoldReason) (s : State) :
    holdTold n r s = { s with visits := (holdTold n r s).visits, port := (holdTold n r s).port }
      ∧ ∃ rest, (holdTold n r s).port.records = s.port.records ++ rest := by
  unfold holdTold
  split
  · split
    · exact ⟨rfl, [], by simp⟩
    · unfold visitHold
      split
      · exact ⟨rfl, [], by simp⟩
      · refine ⟨?_, queueRecord_appends _ _⟩
        rw [(queueRecord_spec _ _).1.rest]
        rfl
  · exact ⟨rfl, [], by simp⟩

theorem showState_vacant {s : State} (h : s.plan.roles = Roles.vacant) (l : LaneId) : showState l s = s := by
  have vacant : roleOf s (.terminal l) = Role.vacant := by simp [roleOf, h, Roles.vacant]
  unfold showState
  split
  · unfold offerDisplay
    rw [vacant]
    rfl
  · rfl

theorem offerStation_vacant {s : State} (h : s.plan.roles = Roles.vacant) (l : LaneId) (e : LaneEnd) :
    offerStation l e s = (s, false) := by
  unfold offerStation
  rw [filledNode_vacant h]

theorem settleStill_vacant {s : State} (h : s.plan.roles = Roles.vacant) (l : LaneId) :
    settleStill l s = wantStations l .none .none .red .red s := by
  have roles : (wantStations l .none .none .red .red s).plan.roles = Roles.vacant := h
  unfold settleStill
  rw [offerStation_vacant roles, offerStation_vacant roles, showState_vacant roles]

theorem withdraw_rest (l : LaneId) (s : State) : withdraw l s = { s with engine := (withdraw l s).engine } := by
  unfold withdraw
  split <;> rfl

/-- A lane entered HELD, its stations wanting no movement. -/
def heldStill (l : LaneId) (reason : HoldReason) (resume : LaneState) (s : State) : State :=
  wantStations l .none .none .red .red
    (modLane l (fun x => { x with state := .held, hold := some (reason, resume), timer := none }) (withdraw l s))

theorem heldStill_rest (l : LaneId) (reason : HoldReason) (resume : LaneState) (s : State) : heldStill l reason resume s
    = { s with engine := (heldStill l reason resume s).engine, seq := (heldStill l reason resume s).seq } := by
  have engine : (heldStill l reason resume s).engine = (withdraw l s).engine := rfl
  have rest : heldStill l reason resume s = { withdraw l s with seq := (heldStill l reason resume s).seq } := rfl
  rw [engine, rest, withdraw_rest]

theorem heldStill_bridges (l : LaneId) (reason : HoldReason) (resume : LaneState) (s : State) :
    (heldStill l reason resume s).seq.bridges = s.seq.bridges := by
  have withdrawn : (withdraw l s).seq.bridges = s.seq.bridges := by rw [withdraw_seq]
  exact withdrawn

theorem heldStill_lanes (l k : LaneId) (s : State)
    (h : ((s.seq.lanes[l]).state.faults && (s.seq.lanes[l]).state != .idle) = true) :
    (heldStill l .yardStop (s.seq.lanes[l]).state s).seq.lanes[k]
      = if l = k then (s.seq.lanes[k]).stopped else s.seq.lanes[k] := by
  have stopped : (s.seq.lanes[l]).stopped = { s.seq.lanes[l] with
      state := .held, hold := some (.yardStop, (s.seq.lanes[l]).state), timer := none,
      entry := { (s.seq.lanes[l]).entry with wantArm := .none, wantSignal := .red },
      exit := { (s.seq.lanes[l]).exit with wantArm := .none, wantSignal := .red } } := if_pos h
  simp only [heldStill, wantStations, modStation, Fin.getElem_fin, modLane_seq, getElem_alter, withdraw_seq]
  split
  · rename_i same
    subst same
    exact stopped.symm
  · rfl

/-- A lane that enters HELD with no station FILLED: its own state, and the visit told. -/
theorem holdLane_vacant {s : State} (h : s.plan.roles = Roles.vacant) (l : LaneId) (reason : HoldReason) (resume : LaneState) :
    ∃ visits port rest, holdLane l reason resume s = { heldStill l reason resume s with visits := visits, port := port }
      ∧ port.records = s.port.records ++ rest := by
  have settled : settleStill l
      (modLane l (fun x => { x with state := .held, hold := some (reason, resume), timer := none }) (withdraw l s))
      = heldStill l reason resume s :=
    settleStill_vacant (by rw [modLane_plan, withdraw_rest]; exact h) l
  have port : (heldStill l reason resume s).port = s.port := by rw [heldStill_rest]
  unfold holdLane
  dsimp only
  rw [settled]
  split
  · rename_i n _
    split
    · obtain ⟨told, rest, records⟩ := holdTold_eq n reason (heldStill l reason resume s)
      exact ⟨_, _, rest, told, by rw [records, port]⟩
    · exact ⟨_, (heldStill l reason resume s).port, [], rfl, by rw [port, List.append_nil]⟩
  · exact ⟨_, (heldStill l reason resume s).port, [], rfl, by rw [port, List.append_nil]⟩

theorem stopLane_stopping {s : State} (h : s.plan.roles = Roles.vacant) (l : LaneId) : Stopping s (stopLane l s)
    ∧ (stopLane l s).seq.lanes[l] = (s.seq.lanes[l]).stopped := by
  unfold stopLane
  split
  · rename_i meets
    obtain ⟨visits, port, rest, held, records⟩ := holdLane_vacant h l .yardStop (s.seq.lanes[l]).state
    have still := heldStill_rest l .yardStop (s.seq.lanes[l]).state s
    have bridges := heldStill_bridges l .yardStop (s.seq.lanes[l]).state s
    have lanes := fun k => heldStill_lanes l k s meets
    rw [held]
    generalize heldStill l .yardStop (s.seq.lanes[l]).state s = u at still bridges lanes
    refine ⟨⟨?_, ?_, bridges, ⟨rest, records⟩, fun k => ?_⟩, (lanes l).trans (if_pos rfl)⟩
    · show u.yardStop = _
      rw [still]
    · show u.plan = _
      rw [still]
    · show u.seq.lanes[k] = _ ∨ u.seq.lanes[k] = _
      rw [lanes k]
      split
      · exact .inr rfl
      · exact .inl rfl
  · rename_i passes
    have same : (s.seq.lanes[l]).stopped = s.seq.lanes[l] := if_neg passes
    exact ⟨.refl s, same.symm⟩

theorem Stopping.trans {s t u : State} (h : Stopping s t) (k : Stopping t u) : Stopping s u where
  yardStop := k.yardStop.trans h.yardStop
  plan := k.plan.trans h.plan
  bridges := k.bridges.trans h.bridges
  records := by
    obtain ⟨first, hf⟩ := h.records
    obtain ⟨second, hs⟩ := k.records
    exact ⟨first ++ second, by rw [hs, hf, List.append_assoc]⟩
  lanes l := by
    rcases h.lanes l with ht | ht <;> rcases k.lanes l with hu | hu
    · exact .inl (hu.trans ht)
    · exact .inr (by rw [hu, ht])
    · exact .inr (hu.trans ht)
    · exact .inr (by rw [hu, ht, Lane.stopped_stopped])

/-- A yard stop with no station FILLED: every lane it meets is HELD, and nothing else of a lane changes. -/
theorem stopLanes_spec {s : State} (h : s.plan.roles = Roles.vacant) :
    Stopping s ((List.finRange 8).foldl (fun s l => stopLane l s) s)
      ∧ ∀ l : LaneId, ((List.finRange 8).foldl (fun s l => stopLane l s) s).seq.lanes[l] = (s.seq.lanes[l]).stopped := by
  have step : ∀ (u : State) (l : LaneId), Stopping s u → Stopping s (stopLane l u) :=
    fun u l hu => hu.trans (stopLane_stopping (by rw [hu.plan]; exact h) l).1
  refine ⟨LaneOps.foldl step _ (.refl s), fun l => ?_⟩
  refine foldl_establishes (I := Stopping s) (Q := fun u => u.seq.lanes[l] = (s.seq.lanes[l]).stopped) step
    (fun u k hu done => ?_) (x := l) (fun u hu => ?_) (List.mem_finRange l) (.refl s)
  · rcases (stopLane_stopping (by rw [hu.plan]; exact h) k).1.lanes l with same | again
    · exact same.trans done
    · rw [again, done, Lane.stopped_stopped]
  · have stopped := (stopLane_stopping (by rw [hu.plan]; exact h) l).2
    rw [stopped]
    rcases hu.lanes l with same | again
    · rw [same]
    · rw [again, Lane.stopped_stopped]

end Sys2Proof.Machine

namespace Sys2Proof.Machine

/-! ## What a warm reset keeps (R29, R46, R126, R178, R192, R212) -/

namespace WarmFrame
variable {kind : ResetKind} {s t : State} (h : WarmFrame kind s t) (l : LaneId)
include h

theorem hold : (t.seq.lanes[l]).hold = ((s.seq.lanes[l]).warm s.yardStop).hold := by
  rw [h.lanes l]

theorem fault : (t.seq.lanes[l]).fault = ((s.seq.lanes[l]).warm s.yardStop).fault := by
  rw [h.lanes l]

theorem asking : (t.seq.lanes[l]).asking = ((s.seq.lanes[l]).warm s.yardStop).asking := by
  rw [h.lanes l]

theorem config : (t.seq.lanes[l]).config = (s.seq.lanes[l]).config := by
  rw [h.lanes l]
  rfl

theorem isOpen : (t.seq.lanes[l]).isOpen = (s.seq.lanes[l]).isOpen := by
  rw [h.lanes l]
  rfl

theorem timer : (t.seq.lanes[l]).timer = none := by
  rw [h.lanes l]
  rfl

theorem station (e : LaneEnd) : (t.seq.lanes[l]).station e = { Station.cold s.yardStop with
    wantArm := if (t.seq.lanes[l]).state ∈ [LaneState.held, .fault] then .none else .down } := by
  rw [h.state l, ← Lane.warmed_station _ _ e, h.lanes l]
  cases e <;> rfl

/-- A lane on the bridge is HELD RESTART. -/
theorem onBridge (hl : (s.seq.lanes[l]).state ∈ [LaneState.entering, .weighing, .ticketing, .releasing]) :
    (t.seq.lanes[l]).state = .held ∧ (t.seq.lanes[l]).hold = some (.restart, (s.seq.lanes[l]).state) := by
  rw [h.state l, h.hold l]
  exact Lane.warmed_onBridge _ hl

/-- A lane in WAIT_BRIDGE, HELD or FAULT stays. -/
theorem stays (hl : (s.seq.lanes[l]).state ∈ [LaneState.waitBridge, .held, .fault]) :
    (t.seq.lanes[l]).state = (s.seq.lanes[l]).state ∧ (t.seq.lanes[l]).hold = (s.seq.lanes[l]).hold
      ∧ (t.seq.lanes[l]).fault = (s.seq.lanes[l]).fault := by
  rw [h.state l, h.hold l, h.fault l]
  exact Lane.warmed_stays _ hl

/-- A lane in ASKING, IDLE or CLOSED is CLOSED. -/
theorem closes (hl : (s.seq.lanes[l]).state ∈ [LaneState.asking, .idle, .closed]) :
    (t.seq.lanes[l]).state = .closed ∧ (t.seq.lanes[l]).visit = none ∧ (t.seq.lanes[l]).asking = none := by
  obtain ⟨state, -, asking⟩ := Lane.warmed_closes s.yardStop hl
  have closed := (h.state l).trans state
  exact ⟨closed, h.closed l closed, (h.asking l).trans asking⟩

end WarmFrame

/-- A warm reset with no ticket queued or handed over leaves the tables, the visits and what lanes hold of them. -/
structure WarmIdle (kind : ResetKind) (s t : State) : Prop where
  tables : t.tables = s.tables
  visits : t.visits = s.visits
  lanes : ∀ l : LaneId, t.seq.lanes[l] = (s.seq.lanes[l]).warm s.yardStop
  handOver : t.tickets.handOver = []
  numbering : t.tickets.numbering = []
  inFlight : t.tickets.inFlight = none
  printers : ∀ l : LaneId, (t.tickets.printers[l]).queue = []
    ∧ (t.tickets.printers[l]).lastJob = (s.tickets.printers[l]).lastJob
  port : t.port = startedPort kind s

theorem resetTickets_warmIdle (kind : ResetKind) {s : State} (hq : ∀ l : LaneId, (s.tickets.printers[l]).queue = [])
    (hh : s.tickets.handOver = []) : WarmIdle kind s (resetTickets (warmStarted kind s)) := by
  have idle : resetTickets (warmStarted kind s) = ticketsEmptied (warmStarted kind s) :=
    resetTickets_idle (fun l => by rw [warmStarted_printers]; exact hq l) (by rw [warmStarted_printers]; exact hh)
  have lane : ∀ l : LaneId, (warmBlocks kind s).seq.lanes[l] = (s.seq.lanes[l]).warm s.yardStop := fun l =>
    Vector.getElem_map _ _
  obtain ⟨r, e, whole, -⟩ := warmStarted_spec kind s
  rw [idle, whole]
  exact ⟨rfl, rfl, lane, rfl, rfl, rfl, fun l => by rw [ticketsEmptied_printer]; exact ⟨rfl, rfl⟩, rfl⟩

theorem startedPort_claims (kind : ResetKind) (s : State) : (startedPort kind s).claims = s.port.claims := by
  rw [startedPort]
  split <;> rfl

theorem startedPort_room {kind : ResetKind} {s : State} (h : 1 ≤ unclaimedFree s) : startedPort kind s
    = { Port.warm kind s.port with
        records := s.port.records
          ++ [{ number := s.port.nextRecord, time := stamp s, body := startedRecord kind (warmBlocks kind s) }],
        nextRecord := nextNumber s.port.nextRecord } := if_pos h

theorem startedPort_full {kind : ResetKind} {s : State} (h : unclaimedFree s = 0) : startedPort kind s
    = { Port.warm kind s.port with dropped := min Config.max16 (s.port.dropped + 1) } := if_neg (by omega)

/-- The STARTED record of a warm reset. -/
theorem startedRecord_warm (kind : ResetKind) (s : State) : ∃ items, startedRecord kind (warmBlocks kind s)
    = .started kind items s.tables.clock.set s.calEnable s.yardStop s.port.records.length s.port.claims := ⟨_, rfl⟩

/-- A session dropped at a warm reset: its bridge has the zero saved, the claim is back, and the rest of the blocks stand. -/
theorem dropSession_spec (x : Session) (s : State) :
    ((dropSession x s).engine[x.bridge]).zero = x.savedZero
      ∧ ((dropSession x s).engine[x.bridge]).zeroReturn = x.savedReturn
      ∧ ∀ b : BridgeId, b ≠ x.bridge → (dropSession x s).engine[b] = s.engine[b] := by
  refine ⟨by simp [dropSession, releaseClaims], by simp [dropSession, releaseClaims], fun b hb => ?_⟩
  simp only [dropSession, releaseClaims, Fin.getElem_fin, modCal_engine, modStore_engine, modPort_engine, modEngine_engine]
  exact getElem_alter_ne _ (Ne.symm hb) _

end Sys2Proof.Machine

namespace Sys2Proof.Machine

/-! ## The warm reset, clause by clause -/

/-- With no session open and the line deasserted: what each block keeps and sets. -/
theorem warmReset_deasserted {s : State} (hx : s.cal.session = none) (hy : s.yardStop = false) :
    ∃ t, warmValues .warmLine (fresh s) = t ∧ WarmFrame .warmLine s t
      ∧ (∀ (l : LaneId), (s.tickets.printers[l]).queue.length ≤ 4 → ∀ k ∈ (s.tickets.printers[l]).queue, k.kind = .original →
          findVisit t k.content.visit = none)
      ∧ ((∀ l : LaneId, (s.tickets.printers[l]).queue = []) → s.tickets.handOver = [] → WarmIdle .warmLine s t) := by
  have values : warmValues .warmLine (fresh s) = resetTickets (warmStarted .warmLine (fresh s)) := by
    rw [warmValues_deasserted (by rw [abortAtReset_none (s := fresh s) hx]; exact hy), abortAtReset_none (s := fresh s) hx]
  have frame := resetTickets_warm .warmLine (fresh s)
  have queues := warmStarted_printers .warmLine (fresh s)
  refine ⟨_, values, ?_, fun l room k hk original => ?_, fun hq hh => ?_⟩
  · exact ⟨frame.calEnable, frame.yardStop, frame.engine, frame.session, frame.bus, frame.plan, frame.bridges, frame.lanes,
      frame.closed, frame.tables, frame.rows, frame.headers, frame.printers, frame.port⟩
  · exact resetTickets_findVisit (warmStarted_resetTime .warmLine (fresh s)) (l := l) (by rw [queues]; exact room)
      (by rw [queues]; exact hk) original
  · obtain ⟨a, b, c, d, e, f, g, i⟩ := resetTickets_warmIdle .warmLine (s := fresh s) hq hh
    exact ⟨a, b, c, d, e, f, g, i⟩

/-- With a session open and the line deasserted: the session is dropped first. -/
theorem warmReset_session {s : State} {x : Session} (hx : s.cal.session = some x) (hy : s.yardStop = false) :
    ∃ t, warmValues .warmLine (fresh s) = t ∧ WarmFrame .warmLine (dropSession x (fresh s)) t
      ∧ ((∀ l : LaneId, (s.tickets.printers[l]).queue = []) → s.tickets.handOver = [] →
          WarmIdle .warmLine (dropSession x (fresh s)) t) := by
  have values : warmValues .warmLine (fresh s) = resetTickets (warmStarted .warmLine (dropSession x (fresh s))) := by
    rw [warmValues_deasserted (by rw [abortAtReset_some (s := fresh s) hx]; exact hy), abortAtReset_some (s := fresh s) hx]
  exact ⟨_, values, resetTickets_warm .warmLine _, fun hq hh => resetTickets_warmIdle .warmLine hq hh⟩

/-- With no session open and the line asserted: the tickets end, YARD_STOP is queued and lanes are held. -/
theorem warmReset_asserted {s : State} (hx : s.cal.session = none) (hy : s.yardStop = true) :
    ∃ u t, warmValues .warmLine (fresh s) = t ∧ WarmFrame .warmLine (fresh s) u
      ∧ Stopping (queueRecord (.yardStop true) u) t
      ∧ (∀ l : LaneId, t.seq.lanes[l] = ((u.seq.lanes[l]).stopped))
      ∧ ((∀ l : LaneId, (s.tickets.printers[l]).queue = []) → s.tickets.handOver = [] → WarmIdle .warmLine (fresh s) u) := by
  have frame := resetTickets_warm .warmLine (fresh s)
  have values : warmValues .warmLine (fresh s) = stopAtReset (resetTickets (warmStarted .warmLine (fresh s))) := by
    rw [warmValues_eq, abortAtReset_none (s := fresh s) hx]
  have idle := fun hq hh => resetTickets_warmIdle .warmLine (s := fresh s) hq hh
  generalize resetTickets (warmStarted .warmLine (fresh s)) = u at frame values idle
  have roles : u.plan.roles = Roles.vacant := by rw [frame.plan]; rfl
  have record := (queueRecord_spec (.yardStop true) u).1.rest
  set v := queueRecord (.yardStop true) u with hv
  have vacant : v.plan.roles = Roles.vacant := by rw [record]; exact roles
  have marked : markStations v = v := by
    refine markStations_fixed (fun l e => ?_)
    have lane : v.seq.lanes[l] = u.seq.lanes[l] := by rw [record]
    rw [lane, frame.station l e, show (fresh s).yardStop = true from hy]
    rfl
  have asserted : stopAtReset u = (List.finRange 8).foldl (fun s l => stopLane l s) v := by
    unfold stopAtReset
    rw [if_pos (by rw [frame.yardStop]; exact hy), assertStop_vacant roles, ← hv, marked]
  obtain ⟨stopping, lanes⟩ := stopLanes_spec vacant
  refine ⟨u, _, values.trans asserted, frame, stopping, fun l => ?_, idle⟩
  rw [lanes l, record]

/-- A lane that is not in a state the stop meets stays as it is. -/
theorem Lane.stopped_of_state {x : Lane} (h : x.state ∈ [LaneState.held, .fault, .closed]) : x.stopped = x := by
  simp only [List.mem_cons, List.not_mem_nil, or_false] at h
  unfold Lane.stopped
  rcases h with h | h | h <;> rw [h] <;> rfl

theorem Lane.stopped_waitBridge {x : Lane} (h : x.state = .waitBridge) :
    x.stopped.state = .held ∧ x.stopped.hold = some (.yardStop, .waitBridge) := by
  unfold Lane.stopped
  rw [h]
  exact ⟨rfl, rfl⟩

theorem Lane.stopped_marks (x : Lane) (e : LaneEnd) : (x.stopped.station e).driveOffMark = (x.station e).driveOffMark
    ∧ (x.stopped.station e).motion = (x.station e).motion := by
  unfold Lane.stopped
  split
  · cases e <;> exact ⟨rfl, rfl⟩
  · exact ⟨rfl, rfl⟩

/-- With room for both, YARD_STOP stands behind STARTED. -/
theorem stop_recorded {s u t : State} (hy : s.yardStop = true) (port : u.port = startedPort .warmLine (fresh s))
    (records : ∃ rest, t.port.records = (queueRecord (.yardStop true) u).port.records ++ rest) (room : 2 ≤ unclaimedFree s) :
    ∃ r q rest items, t.port.records = s.port.records ++ r :: q :: rest
      ∧ r.body = .started .warmLine items s.tables.clock.set s.calEnable true s.port.records.length s.port.claims
      ∧ q.body = .yardStop true := by
  rw [startedPort_room (show 1 ≤ unclaimedFree (fresh s) by rw [unclaimedFree_fresh]; omega)] at port
  have second : 1 ≤ unclaimedFree u := by
    unfold unclaimedFree at room ⊢
    rw [port]
    simp only [List.length_append, List.length_singleton, Port.warm, fresh_port]
    omega
  obtain ⟨rest, records⟩ := records
  obtain ⟨items, body⟩ := startedRecord_warm .warmLine (fresh s)
  rw [show (fresh s).yardStop = true from hy] at body
  set r : Record :=
    { number := s.port.nextRecord, time := stamp s, body := startedRecord .warmLine (warmBlocks .warmLine (fresh s)) }
  have started : u.port.records = s.port.records ++ [r] := by
    rw [port]
    rfl
  refine ⟨r, { number := u.port.nextRecord, time := stamp u, body := .yardStop true }, rest, items, ?_, body, rfl⟩
  rw [records, (queueRecord_spec (.yardStop true) u).2.2.1 second, started, List.append_assoc, List.append_assoc]
  rfl

end Sys2Proof.Machine

namespace Sys2Proof.Certificates
open Sys2Proof.Machine

/-- Settles O12: the values of a warm reset block by block, with the tickets that end at it, the session it drops and the
lanes an asserted line holds. -/
theorem warmResetKeepsWhatItKeeps : Obligations.WarmResetKeepsWhatItKeeps := by
  unfold Obligations.WarmResetKeepsWhatItKeeps
  refine ⟨fun s w hp ha hf => exec_warmReset_busy hp ha hf, fun s hp ha hf hx hy => ?_, fun s x hp ha hf hx hy => ?_,
    fun s hp ha hf hx hy => ?_⟩
  · obtain ⟨t, values, frame, closing, idle⟩ := warmReset_deasserted hx hy
    refine ⟨t, by rw [exec_warmReset hp ha hf, values], frame.engine, frame.bus, frame.plan, ?_, ?_, ?_, ?_, frame.rows,
      fun l => ⟨frame.config l, frame.isOpen l, frame.timer l, frame.onBridge l, frame.stays l, frame.closes l, fun e => ?_⟩,
      frame.bridges, ?_, ?_, ?_, ?_, ?_, ?_, ?_, ?_, ?_, frame.headers,
      fun l => ⟨?_, ?_, ?_, ?_, fun room k hk original => closing l room k hk original⟩, fun hq hh => ?_⟩
    iterate 4 rw [frame.tables]
    · rw [frame.station l e, hy]
    iterate 9 rw [frame.port]; rfl
    iterate 4 rw [frame.printers l]
    · have rests := idle hq hh
      refine ⟨rests.tables, rests.visits, fun l => ⟨?_, fun opened => ?_, rests.printers l⟩, rests.handOver, rests.numbering,
        rests.inFlight, ?_, fun room => ?_, fun full => ?_⟩
      · rw [rests.lanes l]
        rfl
      · rw [frame.state l] at opened
        rw [rests.lanes l, Lane.warmed_visit, if_neg opened]
      · rw [rests.port, startedPort_claims]
      · obtain ⟨items, body⟩ := startedRecord_warm .warmLine s
        rw [hy] at body
        rw [rests.port, startedPort_room room]
        exact ⟨_, items, rfl, rfl, body, rfl, rfl⟩
      · rw [rests.port, startedPort_full full]
        exact ⟨rfl, rfl, rfl⟩
  · obtain ⟨t, values, frame, idle⟩ := warmReset_session hx hy
    obtain ⟨zero, back, others⟩ := dropSession_spec x (fresh s)
    have engine : ∀ b : BridgeId, (t.engine[b]).zero = ((dropSession x (fresh s)).engine[b]).zero
        ∧ (t.engine[b]).zeroReturn = ((dropSession x (fresh s)).engine[b]).zeroReturn := by
      intro b
      obtain ⟨st, rs, warm⟩ := frame.engine b
      rw [warm]
      exact ⟨rfl, rfl⟩
    refine ⟨t, by rw [exec_warmReset hp ha hf, values], frame.session, (engine x.bridge).1.trans zero,
      (engine x.bridge).2.trans back, fun b hb => ?_, ?_, ?_, ?_, fun hq hh => ?_⟩
    · rw [(engine b).1, (engine b).2, others b hb]
      exact ⟨rfl, rfl⟩
    iterate 3 rw [frame.port]; rfl
    · rw [(idle hq hh).port, startedPort_claims, dropSession_port]
      rfl
  · obtain ⟨u, t, values, frame, stopping, lanes, idle⟩ := warmReset_asserted hx hy
    have record := (queueRecord_spec (.yardStop true) u).1.rest
    have stays : ∀ l : LaneId, (u.seq.lanes[l]).state ∈ [LaneState.held, .fault, .closed] →
        t.seq.lanes[l] = u.seq.lanes[l] := fun l hl => (lanes l).trans (Lane.stopped_of_state hl)
    refine ⟨t, by rw [exec_warmReset hp ha hf, values], ?_, fun l e => ?_, fun l => ⟨fun hl => ?_, fun hl => ?_, fun hl => ?_,
      fun hl => ?_⟩, fun b => ?_, fun hq hh room => ?_⟩
    · rw [stopping.yardStop, record, frame.yardStop]
      exact hy
    · obtain ⟨mark, motion⟩ := (u.seq.lanes[l]).stopped_marks e
      rw [lanes l, mark, motion, frame.station l e, show (fresh s).yardStop = true from hy]
      exact ⟨rfl, rfl⟩
    · obtain ⟨state, -, -⟩ := frame.stays l (by rw [show ((fresh s).seq.lanes[l]).state = .waitBridge from hl]; decide)
      rw [lanes l]
      exact Lane.stopped_waitBridge (state.trans hl)
    · obtain ⟨state, hold⟩ := frame.onBridge l hl
      rw [stays l (by rw [state]; decide)]
      exact ⟨state, hold⟩
    · obtain ⟨state, hold, fault⟩ := frame.stays l (List.mem_cons_of_mem _ hl)
      rw [stays l (by rw [state]; exact List.mem_append_left [LaneState.closed] hl)]
      exact ⟨state, hold, fault⟩
    · obtain ⟨state, visit, asking⟩ := frame.closes l hl
      rw [stays l (by rw [state]; decide)]
      exact ⟨state, visit, asking⟩
    · rw [stopping.bridges, record]
      show (u.seq.bridges[b]).holder = _
      rw [frame.bridges b]
      rfl
    · exact stop_recorded hy (idle hq hh).port stopping.records room

end Sys2Proof.Certificates

namespace Sys2Proof.Machine

/-! ## Without supply (R31) -/

theorem setCalEnable_unpowered {s : State} (h : s.powered = false) (level : Bool) :
    setCalEnable level s = { s with calEnable := level } := by
  unfold setCalEnable
  dsimp only
  rw [h]
  rfl

theorem setYardStop_unpowered {s : State} (h : s.powered = false) (level : Bool) :
    setYardStop level s = { s with yardStop := level } := by
  unfold setYardStop
  dsimp only
  rw [h]
  rfl

/-- The commands that act on a part without supply: power-on, the loss of supply and the lines. -/
def actsUnpowered : List Instr :=
  [.coldReset, .powerLoss, .calEnableAssert, .calEnableDeassert, .yardStopAssert, .yardStopDeassert]

/-- Every other command goes through `act`, which asks for the supply. -/
theorem exec_unpowered {c : Instr} {s : State} (hp : s.powered = false) (hc : c ∉ actsUnpowered) : exec c s = .next s := by
  cases c
  case coldReset | powerLoss | calEnableAssert | calEnableDeassert | yardStopAssert | yardStopDeassert =>
    exact absurd (by simp [actsUnpowered]) hc
  all_goals exact act_of_unpowered hp

end Sys2Proof.Machine

namespace Sys2Proof.Certificates
open Sys2Proof.Machine

/-- Settles O10: all commands but six ask for the supply first, and a line without it is a level. -/
theorem partWithoutSupplyIsStill : Obligations.PartWithoutSupplyIsStill := by
  unfold Obligations.PartWithoutSupplyIsStill
  refine ⟨fun c s hp hc => exec_unpowered hp hc, fun s hp => ⟨?_, ?_, ?_, ?_⟩⟩
  · exact congrArg _ (setCalEnable_unpowered (s := fresh s) hp true)
  · exact congrArg _ (setCalEnable_unpowered (s := fresh s) hp false)
  · exact congrArg _ (setYardStop_unpowered (s := fresh s) hp true)
  · exact congrArg _ (setYardStop_unpowered (s := fresh s) hp false)

end Sys2Proof.Certificates

namespace Sys2Proof.Machine

/-! ## Loss of supply (R30, R31) -/

/-- A write cut off leaves every item's contents. -/
theorem cutWrite_contents (st : Store) :
    (∀ b : BridgeId, ((cutWrite st).records[b]).content = (st.records[b]).content)
      ∧ (cutWrite st).counter.content = st.counter.content ∧ (cutWrite st).ticket.content = st.ticket.content := by
  unfold cutWrite
  split
  case h_1 k _ _ =>
    refine ⟨fun b => ?_, rfl, rfl⟩
    simp only [Fin.getElem_fin, getElem_alter]
    split <;> rfl
  all_goals exact ⟨fun _ => rfl, rfl, rfl⟩

/-- The item whose write is cut off is left broken. -/
theorem cutWrite_broken (st : Store) :
    (∀ (b : BridgeId) (r : CalRecord), st.inFlight = some (.record b r) →
        (cutWrite st).records[b] = brokenItem CalRecord.bytes (st.records[b]))
      ∧ (∀ (b : BridgeId) (n : Nat), st.inFlight = some (.counter b n) → (cutWrite st).counter = brokenItem u16 st.counter)
      ∧ (∀ n : Nat, st.inFlight = some (.ticket n) → (cutWrite st).ticket = brokenItem u32 st.ticket)
      ∧ (∀ (n : Nat) (g : Byte), st.inFlight = some (.setTicket n g) →
          (cutWrite st).ticket = brokenItem u32 st.ticket) := by
  refine ⟨fun b r h => ?_, fun b n h => ?_, fun n h => ?_, fun n g h => ?_⟩ <;> unfold cutWrite <;> rw [h]
  exact getElem_alter_self _ _ _

/-- The six items of the store are those of `st`; its writes are any. -/
def HoldsItems (st : Store) (s : State) : Prop :=
  s.cal.store = { st with inFlight := s.cal.store.inFlight, asked := s.cal.store.asked }

theorem HoldsItems.of_cal {st : Store} {s t : State} (h : HoldsItems st s) (hc : t.cal = s.cal) : HoldsItems st t := by
  unfold HoldsItems
  rw [hc]
  exact h

theorem HoldsItems.askWrite {st : Store} {s : State} (h : HoldsItems st s) (w : StoreWrite) :
    HoldsItems st (askWriteBehindReset w s) := by
  have items : s.cal.store.records = st.records ∧ s.cal.store.counter = st.counter ∧ s.cal.store.ticket = st.ticket := by
    rw [h]
    exact ⟨rfl, rfl, rfl⟩
  obtain ⟨records, counter, ticket⟩ := items
  rcases askWriteBehindReset_cases w s with ⟨-, -, hq⟩ | ⟨-, hq⟩ <;> rw [hq] <;>
    simp only [HoldsItems, modStore_cal, records, counter, ticket]

/-- A property of states that every change of an engine and of the calibration session keeps too: it is kept by bridge samples. -/
structure SampleOps (P : State → Prop) : Prop extends PartOps P where
  engine : ∀ {b f s}, P s → P (modEngine b f s)
  session : ∀ {f s}, P s → P (modSession f s)

namespace SampleOps
variable {P : State → Prop} {s : State} (h : SampleOps P)
include h

theorem endStep {r} (hs : P s) : P (endStep r s) := by
  unfold Machine.endStep
  split
  · exact h.answer (h.session hs)
  · exact hs

theorem stepReading {b w} (hs : P s) : P (stepReading b w s) := by
  unfold Machine.stepReading
  split
  · exact hs
  · split
    · exact hs
    · split
      · exact h.deriveBridge (h.endStep (h.engine (h.session hs)))
      · exact h.endStep (h.session hs)
      · split
        · exact h.endStep hs
        · exact h.deriveBridge (h.endStep (h.engine (h.engine (h.session hs))))

theorem stepTest {b} (hs : P s) : P (stepTest b s) := by
  unfold Machine.stepTest
  dsimp only
  split
  · split
    · exact h.stepReading hs
    · exact hs
  · exact hs

theorem captureTest {b d} (hs : P s) : P (captureTest b d s) := by
  unfold Machine.captureTest
  dsimp only
  split
  · split
    · exact h.deliverCapture (h.engine hs)
    · exact hs
  · exact hs

theorem establishZero {b d} (hs : P s) : P (establishZero b d s) := by
  unfold Machine.establishZero
  dsimp only
  split_ifs
  · exact h.engine hs
  · exact hs
  · exact h.record (h.engine hs)
  · exact hs
  · exact h.engine hs

theorem validSample {b d} (hs : P s) : P (validSample b d s) :=
  h.deriveBridge (h.engine (h.establishZero (h.engine hs)))

theorem bridgeSample {b} (hs : P s) : P (bridgeSample b s) := by
  unfold Machine.bridgeSample
  refine h.sampleReport ?_
  split
  · exact h.captureTest (h.stepTest (h.validSample hs))
  · exact h.engine hs

theorem cycleOps : CycleOps P := { h.toPartOps with bridgeSample := fun hs => h.bridgeSample hs }

end SampleOps

/-- The bridge samples and the work of the parts leave the six items of the store. -/
theorem holdsItems_sampleOps (st : Store) : SampleOps (HoldsItems st) where
  capture _ h := h
  lane _ h := h
  station h := h
  bridge h := h
  offer {a f o s} _ h := h.of_cal (offer_frame a f o s).cal
  record {body s} h := h.of_cal (by rw [(queueRecord_spec body s).1.rest])
  account h := h
  refBank h := h
  unrefBank h := h
  visit _ h := h
  removeVisit h := h
  nextVisit h := h
  visitOpens _ h := h
  takeClaims {k s} h := h.of_cal (by rw [(takeClaims_frame k s).rest])
  releaseClaims h := h
  spendClaim {body s} h := h.of_cal (by rw [(spendClaim_frame body s).rest])
  printer _ h := h
  ticketJoins _ h := h
  tickets _ h := h
  ticketWrite h := h.askWrite _
  status h := h
  judge {b s} h := by
    obtain ⟨r, hr⟩ := judge_eq b s
    rw [hr]
    exact h
  samples _ h := h
  planNode h := h
  role h := h
  ready {f s} h := h.of_cal (makeReady_frame f s).cal
  passLeaves _ h := h
  node h := h
  queue _ h := h
  reports _ h := h
  reportJoins _ h := h
  scan h := h
  enumeration h := h
  sendBus h := h
  engine h := h
  session h := h

/-- A cold reset checks the items of the store as a cut-off write leaves them, and its first cycle changes none. -/
theorem coldReset_items (s : State) : HoldsItems (checkStore (cutWrite s.cal.store)) (coldReset s) := by
  obtain ⟨r, e, st, whole, -⟩ := coldValues_spec s
  have cold : HoldsItems (checkStore (cutWrite s.cal.store)) (coldValues s) := by
    rw [whole]
    exact rfl
  exact (holdsItems_sampleOps _).cycleOps.startCycle cold

end Sys2Proof.Machine

namespace Sys2Proof.Certificates
open Sys2Proof.Machine

/-- Settles O15: the write cut off breaks its item, the checks of the cold reset find it so, and its first cycle leaves the
store's items. -/
theorem powerLossBreaksTheItemWritten : Obligations.PowerLossBreaksTheItemWritten := by
  unfold Obligations.PowerLossBreaksTheItemWritten
  intro s
  set lost := losePower (fresh s)
  have items := coldReset_items lost
  have again : checkStore (cutWrite lost.cal.store) = checkStore (cutWrite s.cal.store) := checkStore_cutWrite rfl
  rw [again] at items
  obtain ⟨record, counter, ticket, setTicket⟩ := cutWrite_broken s.cal.store
  obtain ⟨records, count, number⟩ := cutWrite_contents s.cal.store
  obtain ⟨checkedRecords, checkedCount, checkedNumber⟩ := checkStore_contents (cutWrite s.cal.store)
  have checked : ∀ b : BridgeId, (checkStore (cutWrite s.cal.store)).records[b]
      = checkItem CalRecord.bytes ((cutWrite s.cal.store).records[b]) := fun b => Vector.getElem_map _ _
  refine ⟨lost, coldReset lost, rfl, rfl, rfl, rfl, rfl, ?_⟩
  unfold HoldsItems at items
  rw [items]
  refine ⟨fun b r h => ?_, fun b n h => ?_, fun n h => ?_, fun n g h => ?_, fun b => (checkedRecords b).trans (records b),
    checkedCount.trans count, checkedNumber.trans number⟩
  · show ((checkStore (cutWrite s.cal.store)).records[b]).valid = false
    rw [checked b, record b r h]
    exact checkItem_broken _ _
  · show (checkItem u16 (cutWrite s.cal.store).counter).valid = false
    rw [counter b n h]
    exact checkItem_broken _ _
  · show (checkItem u32 (cutWrite s.cal.store).ticket).valid = false
    rw [ticket n h]
    exact checkItem_broken _ _
  · show (checkItem u32 (cutWrite s.cal.store).ticket).valid = false
    rw [setTicket n g h]
    exact checkItem_broken _ _

end Sys2Proof.Certificates

namespace Sys2Proof.Machine

/-! ## The end of a step and of a session (R34, R37, R45) -/

theorem endStep_run {s : State} {run : StepRun} (h : s.cal.session.bind (·.step) = some run) (r : Result) :
    endStep r s = answer run.tag r [] (modSession (fun x => { x with step := none }) s) := by
  unfold endStep
  rw [h]

@[simp] theorem answer_engine (tag : Byte) (r : Result) (body : Bytes) (s : State) : (answer tag r body s).engine = s.engine := by
  rw [(answer_frame tag r body s).rest]

@[simp] theorem endStep_engine (r : Result) (s : State) : (endStep r s).engine = s.engine := by
  unfold endStep
  split
  · exact answer_engine _ _ _ _
  · rfl

@[simp] theorem endStep_calEnable (r : Result) (s : State) : (endStep r s).calEnable = s.calEnable := by
  unfold endStep
  split
  · rw [(answer_frame _ _ _ _).rest]
    rfl
  · rfl

/-- The step in progress answered with a result, the session dropped, and its bridge judged and derived. -/
def sessionEnded (x : Session) (r : Result) (s : State) : State :=
  deriveBridge x.bridge (judge x.bridge (dropSession x (endStep r s)))

/-- An aborted session: closed, its saved zero put back, its claim given back and its step answered (R45). -/
theorem sessionEnded_spec {s : State} {x : Session} (hx : s.cal.session = some x) (r : Result) :
    (sessionEnded x r s).calEnable = s.calEnable ∧ (sessionEnded x r s).cal.session = none
      ∧ ((sessionEnded x r s).engine[x.bridge]).zero = x.savedZero
      ∧ ((sessionEnded x r s).engine[x.bridge]).zeroReturn = x.savedReturn
      ∧ (sessionEnded x r s).port.claims = s.port.claims - 1
      ∧ (∀ run, x.step = some run → s.port.up = true →
          .answer run.tag (u8 r.code) ∈ outgoing (sessionEnded x r s).port) := by
  obtain ⟨zero, back, -⟩ := dropSession_spec x (endStep r s)
  obtain ⟨marks, judged⟩ := judge_eq x.bridge (dropSession x (endStep r s))
  have frame := deriveBridge_laneFrame x.bridge (judge x.bridge (dropSession x (endStep r s)))
  have engine := deriveBridge_engine x.bridge (judge x.bridge (dropSession x (endStep r s)))
  have port : (setBridgeState x.bridge (judge x.bridge (dropSession x (endStep r s)))).port
      = { (endStep r s).port with claims := (endStep r s).port.claims - 1 } := by
    rw [setBridgeState_port, judged, modCal_port, dropSession_port]
  unfold sessionEnded
  refine ⟨?_, ?_, ?_, ?_, ?_, fun run hrun hup => frame.owed _ ?_⟩
  · rw [frame.calEnable, judged]
    exact endStep_calEnable r s
  · rw [frame.store, judged]
    rfl
  · rw [engine, judged]
    exact zero
  · rw [engine, judged]
    exact back
  · rw [frame.claims, port, endStep_claims]
  · rw [port]
    have owed := endStep_answers (r := r) hx hrun hup
    exact owed

theorem lineAbort_none {s : State} (h : s.cal.session = none) : lineAbort s = s := by
  unfold lineAbort
  rw [h]

theorem lineAbort_writing {s : State} (h : commitWriting s = true) : lineAbort s = s := by
  unfold lineAbort
  split
  · rfl
  · exact if_pos h

/-- With no commit taken a deassertion of the line aborts the session with LOCKED (R34, R46). -/
theorem lineAbort_aborts {s : State} {x : Session} (hx : s.cal.session = some x) (hc : x.commit = none)
    (hw : commitWriting s = false) : lineAbort s = sessionEnded x .locked s := by
  unfold lineAbort
  simp only [hx, hw, hc, Bool.false_eq_true, if_false]
  rfl

theorem setCalEnable_assert (s : State) : setCalEnable true s = { s with calEnable := true } := by
  unfold setCalEnable
  dsimp only
  rw [Bool.not_true, Bool.and_false]
  rfl

theorem setCalEnable_deassert {s : State} (hp : s.powered = true) (he : s.calEnable = true) :
    setCalEnable false s = lineAbort { s with calEnable := false } := by
  unfold setCalEnable
  dsimp only
  rw [hp, he]
  rfl

/-- With nothing to abort a deassertion is the line's level. -/
theorem setCalEnable_idle {s : State} (h : s.cal.session = none ∨ commitWriting s = true) :
    setCalEnable false s = { s with calEnable := false } := by
  have still : lineAbort { s with calEnable := false } = { s with calEnable := false } := by
    rcases h with h | h
    · exact lineAbort_none h
    · exact lineAbort_writing h
  unfold setCalEnable
  dsimp only
  rw [still, ite_self]

end Sys2Proof.Machine

namespace Sys2Proof.Certificates
open Sys2Proof.Machine

/-- Settles O13: an assertion is the line's level, a deassertion the abort of R45 where there is a session to abort. -/
theorem enableLineMovesAndAborts : Obligations.EnableLineMovesAndAborts := by
  unfold Obligations.EnableLineMovesAndAborts
  refine ⟨fun s => congrArg _ (setCalEnable_assert (fresh s)), fun s _ h => congrArg _ (setCalEnable_idle (s := fresh s) h),
    fun s x hp he hx hc hw => ?_⟩
  have aborted : setCalEnable false (fresh s) = sessionEnded x .locked { fresh s with calEnable := false } :=
    (setCalEnable_deassert (s := fresh s) hp he).trans (lineAbort_aborts hx hc hw)
  exact ⟨_, congrArg Host.Outcome.next aborted, sessionEnded_spec (s := { fresh s with calEnable := false }) hx .locked⟩

end Sys2Proof.Certificates

namespace Sys2Proof.Machine

/-! ## Expiries of the pause, the hold-off, the link and the live subscription (R72, R104, R194, R205) -/

theorem modEnum_congr {s : State} {f g : Enumeration → Enumeration} (h : f s.bus.enum = g s.bus.enum) :
    modEnum f s = modEnum g s := by
  unfold modEnum
  rw [h]

/-- A grant test with no lane waiting changes nothing (R102). -/
theorem grantTest_noneWaits {s : State} {b : BridgeId}
    (h : ∀ l ∈ (s.seq.bridges[b]).queue, (s.seq.lanes[l]).state ≠ .waitBridge) : grantTest b s = s := by
  have none : (s.seq.bridges[b]).queue.find? (fun l => (s.seq.lanes[l]).state == .waitBridge) = none :=
    List.find?_eq_none.2 (fun l hl => by simpa using h l hl)
  unfold grantTest
  dsimp only
  rw [none]
  exact ite_self _

/-- A pause that ends with no lane waiting (R104). -/
theorem pauseExpiry_noneWaits {s : State} {b : BridgeId} {n : Nat} (ht : (s.seq.bridges[b]).pauseTimer = some n)
    (h : ∀ l ∈ (s.seq.bridges[b]).queue, (s.seq.lanes[l]).state ≠ .waitBridge) :
    pauseExpiry b s = modBridge b (fun x => { x with pause := false, pauseTimer := none }) s := by
  unfold pauseExpiry
  rw [if_pos (by rw [ht]; rfl)]
  exact grantTest_noneWaits (by simpa using h)

theorem holdOffEnds_runs {s : State} {n : Nat} (h : s.bus.enum.holdOff = some n) : holdOffEnds s = endHoldOff s := by
  unfold holdOffEnds
  rw [h]
  rfl

/-- A hold-off that ends with no join pending (R72). -/
theorem endHoldOff_alone {s : State} (h : s.bus.enum.joinPending = false) :
    endHoldOff s = modEnum (fun x => { x with holdOff := none }) s := by
  unfold endHoldOff
  dsimp only
  rw [if_neg (by rw [h]; decide)]
  exact modEnum_congr (by rw [← h])

/-- A hold-off that ends with a join pending starts a round (R72). -/
theorem endHoldOff_joined {s : State} (h : s.bus.enum.joinPending = true) (hr : s.bus.enum.running = false) :
    endHoldOff s = modEnum (fun _ =>
      { running := true, gaveZero := false, failed := [], holdOff := none, joinPending := false }) s := by
  unfold endHoldOff startRound
  dsimp only
  rw [if_pos h]
  show modEnum (fun e => if e.running then { e with holdOff := none, joinPending := false } else _) s = _
  exact modEnum_congr (by rw [hr]; rfl)

theorem restartWaits_false {s : State} (h : ∀ tag body, .restartAnswer tag body ∉ s.port.waiting) :
    restartWaits s = false := by
  unfold restartWaits
  rw [List.any_eq_false]
  intro f hf
  cases f <;> simp only [Bool.false_eq_true, not_false_eq_true]
  exact absurd hf (h _ _)

/-- The link goes DOWN with no answer to RESTART waiting (R194). -/
theorem silenceExpiry_down {s : State} {n : Nat} (hs : s.port.silence = some n)
    (h : ∀ tag body, .restartAnswer tag body ∉ s.port.waiting) :
    silenceExpiry s = modPort (fun p => { p with up := false, silence := none, live := none, waiting := [] }) s := by
  unfold silenceExpiry linkDown
  dsimp only
  rw [hs, restartWaits_false h]
  rfl

/-- An interval of the subscription ends: it runs again, and a LIVE frame is made ready unless one waits (R205). -/
theorem liveExpiry_subscribed {s : State} {x : Live} (hx : s.port.live = some x) : liveExpiry s =
    if .live ∈ s.port.waiting then modPort (fun p => { p with live := some { x with timer := x.interval } }) s
    else makeReady .live (modPort (fun p => { p with live := some { x with timer := x.interval } }) s) := by
  unfold liveExpiry
  rw [hx]
  simp only [modPort_port, List.contains_iff_mem]

end Sys2Proof.Machine

namespace Sys2Proof.Certificates
open Sys2Proof.Machine

/-- Settles O35: each expiry runs its own block's work on a supplied part. -/
theorem timersOfTheOtherBlocksExpire : Obligations.TimersOfTheOtherBlocksExpire := by
  unfold Obligations.TimersOfTheOtherBlocksExpire
  refine ⟨fun s run hp h => ?_, fun s b n hp ht hq => ?_, fun s n hp hh hj => ?_, fun s n hp hh hj hr => ?_,
    fun s n hp hs hw => ?_, fun s x hp hx hw => ?_, fun s x hp hx hw => ?_, fun s hp => act_of_powered hp⟩
  · exact (act_of_powered hp).trans (congrArg _ (endStep_run (s := fresh s) h .state))
  · exact (act_of_powered hp).trans (congrArg _ (pauseExpiry_noneWaits (s := fresh s) ht hq))
  · exact (act_of_powered hp).trans (congrArg _ ((holdOffEnds_runs (s := fresh s) hh).trans (endHoldOff_alone hj)))
  · exact (act_of_powered hp).trans (congrArg _ ((holdOffEnds_runs (s := fresh s) hh).trans (endHoldOff_joined hj hr)))
  · exact (act_of_powered hp).trans (congrArg _ (silenceExpiry_down (s := fresh s) hs hw))
  · exact (act_of_powered hp).trans (congrArg _ ((liveExpiry_subscribed (s := fresh s) hx).trans (if_neg hw)))
  · exact (act_of_powered hp).trans (congrArg _ ((liveExpiry_subscribed (s := fresh s) hx).trans (if_pos hw)))

end Sys2Proof.Certificates

namespace Sys2Proof.Machine

/-! ## Calibration steps (R37 to R40, R42) -/

/-- A request whose owner defers its answer leaves the buffer (R196). -/
theorem deferred_of_owner {c : Instr} {s : State} {code : Nat} {layout : List Field}
    {owner : Byte → List (Option Value) → State → Reply} {tag : Byte} {vs : List (Option Value)} {t : State}
    (hc : exec c s = act (takeRequest code layout owner) s) (h : RequestAt s code layout tag vs)
    (ho : owner tag vs (fresh s) = (t, none)) : exec c s = .next (popRequest t) := by
  rw [hc, take_requestAt owner h, ho, finishRequest_deferred]

theorem sessionOf_open {s : State} {x : Session} (hx : s.cal.session = some x) : sessionOf s x.bridge = some x := by
  simp [sessionOf, hx]

theorem freeSession_of {s : State} {b : BridgeId} {x : Session} (hx : sessionOf s b = some x) (hs : x.step = none)
    (hc : x.commit = none) : freeSession s b = some x := by
  unfold freeSession
  rw [hx]
  simp [Session.free, hs, hc]

/-! ### Taking a step -/

/-- The session's step under way, with 60 s to run. -/
def stepTaken (k : CalStep) (tag : Byte) (s : State) : State :=
  modSession (fun x => { x with step := some { step := k, tag := tag, timer := 60000 } }) s

section
variable {s : State} {tag : Byte} {b : BridgeId} {x : Session} (he : s.calEnable = true) (hx : freeSession s b = some x)
include hx

theorem takeStep_taken (k : CalStep) : takeStep b k tag s = (stepTaken k tag s, none) := by
  unfold takeStep
  rw [hx]
  rfl

include he

theorem calZero_taken : calZero tag [some (.num (b.val + 1))] s = (stepTaken .zero tag s, none) := by
  unfold calZero
  simp only [he, bridgeOf_val, takeStep_taken hx, Bool.not_true, Bool.false_eq_true, if_false]

theorem calSpan_taken {mass : Nat} (h1 : 1 ≤ mass) (h2 : mass ≤ 150000) :
    calSpan tag [some (.num (b.val + 1)), some (.int mass)] s = (stepTaken (.span mass) tag s, none) := by
  have inRange : ¬ ((mass : Int) < 1 ∨ 150000 < (mass : Int)) := by omega
  unfold calSpan
  simp only [he, bridgeOf_val, inRange, takeStep_taken hx, Int.toNat_natCast, Bool.not_true, Bool.false_eq_true, if_false]

theorem calCorner_taken {k : CellPos} (hk : k.val < x.work.n) :
    calCorner tag [some (.num (b.val + 1)), some (.num (k.val + 1))] s = (stepTaken (.corner k) tag s, none) := by
  obtain ⟨hsx, rfl, -, -⟩ := freeSession_eq hx
  have within : ¬ x.work.n ≤ k.val := by omega
  unfold calCorner
  simp only [he, bridgeOf_val, posOf_val, sessionOf_open hsx, within, takeStep_taken hx, Bool.not_true, Bool.false_eq_true,
    if_false]

end

/-! ### The zero bound test and the new gain -/

/-- Of a zero the test keeps what is within both bounds (R17, R42). -/
theorem zeroBoundTest_zero (b : BridgeId) (d : CalData) (s : State) : ((zeroBoundTest b d s).engine[b]).zero =
    (s.engine[b]).zero.filter
      (fun z => |z.zinit - d.zCal| ≤ (d.max : Int) ∧ 5 * |z.zb - z.zinit| ≤ (d.max : Int)) := by
  simp only [zeroBoundTest, Fin.getElem_fin, modEngine_engine, getElem_alter_self]
  rcases hz : (s.engine[b.val]).zero with _ | z
  · exact hz
  · rw [Option.filter_some]
    by_cases fits : |z.zinit - d.zCal| ≤ (d.max : Int) ∧ 5 * |z.zb - z.zinit| ≤ (d.max : Int)
    · simp only [fits]
      exact hz
    · simp only [fits]
      rfl

theorem spanGain_nonpos {d : CalData} {mass : Nat} {w : Int} (h : w - d.zCal ≤ 0) : spanGain d mass w = none :=
  if_pos h

theorem spanGain_outside {d : CalData} {mass : Nat} {w g : Int} (hd : 0 < w - d.zCal)
    (hg : g = roundDiv ((d.gain * mass * 10 : Nat) : Int) (w - d.zCal).toNat) (h : g < 65536 ∨ 67108863 < g) :
    spanGain d mass w = none := by
  unfold spanGain
  dsimp only
  rw [if_neg (by omega), ← hg, if_neg (by omega)]

theorem spanGain_inside {d : CalData} {mass : Nat} {w g : Int} (hd : 0 < w - d.zCal)
    (hg : g = roundDiv ((d.gain * mass * 10 : Nat) : Int) (w - d.zCal).toNat) (h1 : 65536 ≤ g) (h2 : g ≤ 67108863) :
    spanGain d mass w = some g.toNat := by
  unfold spanGain
  dsimp only
  rw [if_neg (by omega), ← hg, if_pos ⟨h1, h2⟩]

/-! ### A reading ends a step -/

/-- A step ended and its bridge derived: the session goes on without it, the zero stands and the step is answered. -/
theorem endStep_derived {s : State} {x : Session} {run : StepRun} (hx : s.cal.session = some x) (hrun : x.step = some run)
    (b : BridgeId) (r : Result) : (deriveBridge b (endStep r s)).cal.session = some { x with step := none }
      ∧ ((deriveBridge b (endStep r s)).engine[b]).zero = (s.engine[b]).zero
      ∧ ((deriveBridge b (endStep r s)).engine[b]).zeroReturn = (s.engine[b]).zeroReturn
      ∧ ((deriveBridge b (endStep r s)).engine[b]).zeroLimit = (s.engine[b]).zeroLimit
      ∧ (s.port.up = true → .answer run.tag (u8 r.code) ∈ outgoing (deriveBridge b (endStep r s)).port) := by
  have frame := deriveBridge_deriveFrame b (endStep r s)
  have engine := deriveBridge_engine b (endStep r s)
  rw [endStep_engine] at engine
  refine ⟨?_, by rw [engine], by rw [engine], by rw [engine], fun up => frame.owed _ (endStep_answers hx hrun up)⟩
  rw [frame.session, endStep_session, hx]
  rfl

section
variable {s : State} {b : BridgeId} {x : Session} {run : StepRun} (hx : sessionOf s b = some x) (hrun : x.step = some run)
  (w : Int)
include hx hrun

theorem session_run : s.cal.session.bind (·.step) = some run := by
  rw [(sessionOf_eq hx).1]
  exact hrun

theorem stepReading_zero (hk : run.step = .zero) :
    stepReading b w s = deriveBridge b (endStep .done (calZeroDone b w s)) := by
  unfold stepReading
  simp only [hx, hrun, hk]

/-- A corner's reading is kept and answered (R40). -/
theorem stepReading_corner {k : CellPos} (hk : run.step = .corner k) : stepReading b w s = answer run.tag .done []
    (modSession (fun y => { y with corners := put y.corners k (some (w - x.work.zCal)), step := none }) s) := by
  obtain ⟨hsx, -⟩ := sessionOf_eq hx
  have done : (calCornerDone k w s).cal.session
      = some { x with corners := put x.corners k (some (w - x.work.zCal)) } := by
    rw [calCornerDone, modSession_some hsx]
    rfl
  have read : stepReading b w s = endStep .done (calCornerDone k w s) := by
    unfold stepReading
    simp only [hx, hrun, hk]
  rw [read, endStep_run (by rw [done]; exact hrun), modSession_some done, modSession_some hsx, calCornerDone,
    modSession_some hsx]
  rfl

theorem stepReading_span {mass g : Nat} (hk : run.step = .span mass) (hg : spanGain x.work mass w = some g) :
    stepReading b w s = deriveBridge b (endStep .done (calSpanDone b g x s)) := by
  unfold stepReading
  simp only [hx, hrun, hk, hg]

/-- A span step with no gain it may take is answered RANGE and changes nothing more (R39). -/
theorem stepReading_noGain {mass : Nat} (hk : run.step = .span mass) (hg : spanGain x.work mass w = none) :
    stepReading b w s = answer run.tag .range [] (modSession (fun y => { y with step := none }) s) := by
  have read : stepReading b w s = endStep .range s := by
    unfold stepReading
    simp only [hx, hrun, hk, hg]
  rw [read, endStep_run (session_run hx hrun)]

end

/-- A zero as CAL SPAN rescales it (R39). -/
def Zero.scaled (g gain : Nat) (z : Zero) : Zero :=
  { zb := roundDiv (z.zb * g) gain, zinit := roundDiv (z.zinit * g) gain }

/-- The working copy as CAL SPAN leaves it (R39). -/
def CalData.spanned (g : Nat) (d : CalData) : CalData := { d with gain := g, zCal := roundDiv (d.zCal * g) d.gain }

/-- CAL SPAN's effect: the new copy, no corner readings, and the zero rescaled and tested. -/
theorem calSpanDone_spec {s : State} {x : Session} (hx : s.cal.session = some x) (b : BridgeId) (g : Nat) :
    (calSpanDone b g x s).cal.session = some { x with work := x.work.spanned g, corners := noCorners }
      ∧ (calSpanDone b g x s).port = s.port
      ∧ ((calSpanDone b g x s).engine[b]).zero = ((s.engine[b]).zero.map (Zero.scaled g x.work.gain)).filter
          (fun z => |z.zinit - (x.work.spanned g).zCal| ≤ (x.work.max : Int)
            ∧ 5 * |z.zb - z.zinit| ≤ (x.work.max : Int)) := by
  unfold calSpanDone
  extract_lets scale work
  rw [modSession_some hx]
  refine ⟨rfl, rfl, (zeroBoundTest_zero _ _ _).trans ?_⟩
  simp only [Fin.getElem_fin, modEngine_engine, getElem_alter_self]
  rfl

/-- CAL ZERO's effect: the copy's zero, no corner readings, and the working zero with its marks (R38). -/
theorem calZeroDone_spec {s : State} {x : Session} (hx : s.cal.session = some x) (b : BridgeId) (w : Int) :
    (calZeroDone b w s).cal.session = some { x with work := { x.work with zCal := w }, corners := noCorners }
      ∧ (calZeroDone b w s).port = s.port
      ∧ ((calZeroDone b w s).engine[b]).zero = some { zb := w, zinit := w }
      ∧ ((calZeroDone b w s).engine[b]).zeroReturn = true ∧ ((calZeroDone b w s).engine[b]).zeroLimit = false := by
  unfold calZeroDone
  rw [modSession_some hx]
  simp

end Sys2Proof.Machine

namespace Sys2Proof.Certificates
open Sys2Proof.Machine

/-- The step requests are taken (R37). -/
theorem calibrationSteps_taken (s : State) (tag : Byte) (b : BridgeId) (x : Session) (he : s.calEnable = true)
    (hx : sessionOf s b = some x) (hs : x.step = none) (hc : x.commit = none) :
    (RequestAt s 6 calZeroLayout tag [some (.num (b.val + 1))] →
        exec .calZero s = .next (popRequest (stepTaken .zero tag (fresh s))))
      ∧ (∀ mass : Nat, 1 ≤ mass → mass ≤ 150000 →
          RequestAt s 7 calSpanLayout tag [some (.num (b.val + 1)), some (.int mass)] →
          exec .calSpan s = .next (popRequest (stepTaken (.span mass) tag (fresh s))))
      ∧ (∀ k : CellPos, k.val < x.work.n →
          RequestAt s 8 calCornerLayout tag [some (.num (b.val + 1)), some (.num (k.val + 1))] →
          exec .calCorner s = .next (popRequest (stepTaken (.corner k) tag (fresh s)))) := by
  have free : freeSession (fresh s) b = some x := freeSession_of (s := fresh s) hx hs hc
  exact ⟨fun h => deferred_of_owner rfl h (calZero_taken (s := fresh s) he free),
    fun mass h1 h2 h => deferred_of_owner rfl h (calSpan_taken (s := fresh s) he free h1 h2),
    fun k hk h => deferred_of_owner rfl h (calCorner_taken (s := fresh s) he free hk)⟩

/-- Settles O46: a step is taken with its answer deferred, and a reading ends it by its kind. -/
theorem calibrationStepsAreTakenAndRead : Obligations.CalibrationStepsAreTakenAndRead := by
  unfold Obligations.CalibrationStepsAreTakenAndRead
  refine ⟨calibrationSteps_taken, fun s b x run w hsx hb hrun => ?_⟩
  have hx : sessionOf s b = some x := hb ▸ sessionOf_open hsx
  refine ⟨fun hk => ?_, fun k hk => stepReading_corner hx hrun w hk, fun mass g hk _ hd hg h1 h2 => ?_,
    fun mass g hk hd hg h => stepReading_noGain hx hrun w hk (spanGain_outside hd hg h),
    fun mass hk hd => stepReading_noGain hx hrun w hk (spanGain_nonpos hd)⟩
  · obtain ⟨session, port, zero, back, limit⟩ := calZeroDone_spec hsx b w
    obtain ⟨ended, zero', back', limit', answered⟩ := endStep_derived session hrun b .done
    exact ⟨_, _, stepReading_zero hx hrun w hk, ended, rfl, rfl, rfl, zero'.trans zero, back'.trans back,
      limit'.trans limit, port ▸ answered⟩
  · obtain ⟨n, rfl⟩ := Int.eq_ofNat_of_zero_le (show 0 ≤ g by omega)
    obtain ⟨session, port, zero⟩ := calSpanDone_spec hsx b n
    obtain ⟨ended, zero', -, -, answered⟩ := endStep_derived session hrun b .done
    refine ⟨_, _, stepReading_span hx hrun w hk (spanGain_inside hd hg h1 h2), ended, rfl, rfl, rfl, fun hz => ?_,
      fun z hz => ⟨fun fits => ?_, fun misfits => ?_⟩, port ▸ answered⟩
    · rw [Int.toNat_natCast, zero', zero, hz]
      rfl
    · rw [Int.toNat_natCast, zero', zero, hz]
      exact Option.filter_some_pos (decide_eq_true fits)
    · rw [Int.toNat_natCast, zero', zero, hz]
      exact Option.filter_some_neg (decide_eq_false misfits)

end Sys2Proof.Certificates

namespace Sys2Proof.Machine

/-! ## The working copy: trims, limits and the commit (R33, R41, R42, R43) -/

/-! ### Trims -/

/-- A new trim: s times the mean over the reading, rounded (R41). -/
def newTrim (mean : Int) (cell : CalCell) (reading : Int) : Int := roundDiv ((cell.s : Int) * mean) reading.toNat

/-- A trim that a record may hold (R32). -/
abbrev trimFits (t : Int) : Prop := 32768 ≤ t ∧ t ≤ 131071

/-- The positions of a list of readings trimmed in its order, while every trim fits. -/
def trimAll (mean : Int) (cells : Vector CalCell 8) (readings : List (CellPos × Int)) : Option (Vector CalCell 8) :=
  readings.foldl (fun acc r => acc.bind (fun cells =>
    let t := roundDiv (((cells[r.1]).s : Int) * mean) r.2.toNat
    if 32768 ≤ t ∧ t ≤ 131071 then some (alter cells r.1 (fun c => { c with s := t.toNat })) else none)) (some cells)

theorem newTrims_eq (d : CalData) (readings : List (CellPos × Int)) :
    newTrims d readings = trimAll (roundDiv ((readings.map (·.2)).foldl (· + ·) 0) d.n) d.cells readings := rfl

theorem trimAll_cons {mean : Int} {cells : Vector CalCell 8} {p : CellPos} {reading : Int} {rest : List (CellPos × Int)}
    (h : trimFits (newTrim mean (cells[p]) reading)) : trimAll mean cells ((p, reading) :: rest)
      = trimAll mean (alter cells p (fun c => { c with s := (newTrim mean (cells[p]) reading).toNat })) rest := by
  show rest.foldl _ (if trimFits (newTrim mean (cells[p]) reading) then _ else none) = _
  rw [if_pos h]
  rfl

/-- Where every trim fits, each position given once has its own and the other cells stand. -/
theorem trimAll_fits (mean : Int) (r : CellPos → Int) {ps : List CellPos} (once : ps.Nodup) (cells : Vector CalCell 8)
    (fits : ∀ p ∈ ps, trimFits (newTrim mean (cells[p]) (r p))) :
    ∃ out : Vector CalCell 8, trimAll mean cells (ps.map (fun p => (p, r p))) = some out
      ∧ (∀ p ∈ ps, out[p] = { cells[p] with s := (newTrim mean (cells[p]) (r p)).toNat })
      ∧ ∀ p ∉ ps, out[p] = cells[p] := by
  induction ps generalizing cells with
  | nil => exact ⟨cells, rfl, fun p hp => absurd hp List.not_mem_nil, fun _ _ => rfl⟩
  | cons q qs ih =>
    obtain ⟨fresh, once⟩ := List.nodup_cons.1 once
    set next := alter cells q (fun c => { c with s := (newTrim mean (cells[q]) (r q)).toNat }) with hnext
    have here : next[q] = { cells[q] with s := (newTrim mean (cells[q]) (r q)).toNat } := getElem_alter_self cells q _
    have other : ∀ p : CellPos, p ≠ q → next[p] = cells[p] := fun p hp => getElem_alter_ne cells (Ne.symm hp) _
    have later : ∀ p ∈ qs, next[p] = cells[p] := fun p hp => other p (fun same => fresh (same ▸ hp))
    obtain ⟨out, trimmed, inside, outside⟩ := ih once next (fun p hp => by
      rw [later p hp]
      exact fits p (List.mem_cons_of_mem q hp))
    refine ⟨out, ?_, fun p hp => ?_, fun p hp => ?_⟩
    · rw [List.map_cons, trimAll_cons (fits q List.mem_cons_self)]
      exact trimmed
    · rcases List.mem_cons.1 hp with rfl | hp
      · rw [outside p fresh, here]
      · rw [inside p hp, later p hp]
    · rw [List.mem_cons, not_or] at hp
      rw [outside p hp.2, other p hp.1]

/-- CAL TRIM with a positive reading of every position and every trim in range (R41). -/
theorem calTrim_trims {s : State} {b : BridgeId} {x : Session} {tag : Byte} {r : CellPos → Int}
    {cells : Vector CalCell 8} (he : s.calEnable = true) (hx : freeSession s b = some x)
    (readings : ∀ p ∈ x.work.positions, x.corners[p] = some (r p) ∧ 0 < r p)
    (trims : newTrims x.work (x.work.positions.map (fun p => (p, r p))) = some cells) :
    calTrim tag [some (.num (b.val + 1))] s = reply .done (modSession (fun y =>
      { y with work := { y.work with cells := cells }, corners := noCorners }) s) := by
  have given : x.work.positions.map (fun p => (p, x.corners[p])) = x.work.positions.map (fun p => (p, some (r p))) :=
    List.map_congr_left (fun p hp => by rw [(readings p hp).1])
  have none : (x.work.positions.map (fun p => (p, some (r p)))).any (fun c => c.2.isNone) = false := by simp
  have positive : (x.work.positions.map (fun p => (p, some (r p)))).any (fun c => decide (c.2.getD 0 ≤ 0)) = false := by
    rw [List.any_map, List.any_eq_false]
    intro p hp
    have := (readings p hp).2
    simp
    omega
  have taken : (x.work.positions.map (fun p => (p, some (r p)))).map (fun c => (c.1, c.2.getD 0))
      = x.work.positions.map (fun p => (p, r p)) := List.map_map
  unfold calTrim
  simp only [he, bridgeOf_val, hx, given, none, positive, taken, trims, Bool.not_true, Bool.false_eq_true, if_false]

/-! ### Limits -/

theorem limitsValid_nonneg {e : Nat} {max : Int} (h : limitsValid e max = true) : 0 ≤ max := by
  simp only [limitsValid, Bool.and_eq_true, decide_eq_true_eq] at h
  omega

theorem calSetLimits_sets {s : State} {b : BridgeId} {x : Session} {tag : Byte} {e : Nat} {max : Int}
    (he : s.calEnable = true) (hx : freeSession s b = some x) (h : limitsValid e max = true) :
    calSetLimits tag [some (.num (b.val + 1)), some (.num e), some (.int max)] s =
      reply .done (deriveBridge b (zeroBoundTest b { x.work with e := e, max := max.toNat }
        (modSession (fun y => { y with work := { x.work with e := e, max := max.toNat } }) s))) := by
  unfold calSetLimits
  simp only [he, bridgeOf_val, hx, h, Bool.not_true, Bool.false_eq_true, if_false]

/-! ### The commit -/

/-- CAL COMMIT with every position FILLED and an audit value left asks for its record's write (R43). -/
theorem calCommit_asks {s : State} {b : BridgeId} {x : Session} {tag : Byte} (he : s.calEnable = true)
    (hx : freeSession s b = some x) (hf : ∀ p ∈ x.work.positions, filled s (.cell b p) = true) (ha : nextAudit s ≤ 65535) :
    calCommit tag [some (.num (b.val + 1))] s =
      (askWrite (.record b { data := withSerials s b x.work, commitTime := stamp s, audit := nextAudit s })
        (modSession (fun y => { y with work := withSerials s b x.work, commit := some tag }) s), none) := by
  have all : x.work.positions.all (fun p => filled s (.cell b p)) = true := List.all_eq_true.2 hf
  have left : ¬ Config.max16 < nextAudit s := Nat.not_lt.2 ha
  unfold calCommit
  simp only [he, bridgeOf_val, hx, all, left, Bool.not_true, Bool.false_eq_true, if_false]

end Sys2Proof.Machine

namespace Sys2Proof.Certificates
open Sys2Proof.Machine

/-- Settles O47: the trims position by position, the limits against the zero bound test, and the write of the commit. -/
theorem calibrationWorkingCopy : Obligations.CalibrationWorkingCopy := by
  unfold Obligations.CalibrationWorkingCopy
  intro s tag b x he hsx hb hs hc
  have free : freeSession (fresh s) b = some x := freeSession_of (s := fresh s) (hb ▸ sessionOf_open hsx) hs hc
  refine ⟨fun r h readings => ?_, fun e max h valid => ?_, fun h hf ha hi => ?_⟩
  · intro mean trim fits
    have once : x.work.positions.Nodup := (List.nodup_finRange 8).filter _
    obtain ⟨cells, trimmed, inside, outside⟩ := trimAll_fits mean r once x.work.cells fits
    have sum : (x.work.positions.map (fun p => (p, r p))).map (·.2) = x.work.positions.map r := List.map_map
    have trims : newTrims x.work (x.work.positions.map (fun p => (p, r p))) = some cells := by
      rw [newTrims_eq, sum]
      exact trimmed
    exact ⟨cells, answers_of_owner rfl h (calTrim_trims (s := fresh s) he free readings trims), inside, outside⟩
  · set work : CalData := { x.work with e := e, max := max.toNat }
    set u := zeroBoundTest b work (modSession (fun y => { y with work := work }) (fresh s)) with hu
    have session : u.cal = { s.cal with session := some { x with work := work } } := by
      rw [hu, modSession_some (s := fresh s) hsx]
      rfl
    have frame := deriveBridge_deriveFrame b u
    have zero : ((deriveBridge b u).engine[b]).zero = (s.engine[b]).zero.filter (fun z =>
        |z.zinit - x.work.zCal| ≤ (max.toNat : Int) ∧ 5 * |z.zb - z.zinit| ≤ (max.toNat : Int)) := by
      rw [deriveBridge_engine]
      exact zeroBoundTest_zero b work _
    rw [Int.toNat_of_nonneg (limitsValid_nonneg valid)] at zero
    refine ⟨deriveBridge b u, { x with work := work }, answers_of_owner rfl h (calSetLimits_sets (s := fresh s) he free valid),
      by rw [frame.session, session], rfl, by rw [frame.store, session], fun hz => ?_,
      fun z hz => ⟨fun fits => ?_, fun misfits => ?_⟩⟩
    · rw [zero, hz]
      rfl
    · rw [zero, hz]
      exact Option.filter_some_pos (decide_eq_true fits)
    · rw [zero, hz]
      exact Option.filter_some_neg (decide_eq_false misfits)
  · have asks := calCommit_asks (s := fresh s) (tag := tag) he free hf ha
    rw [askWrite_idle _ (s := modSession _ (fresh s)) hi] at asks
    exact deferred_of_owner rfl h asks

end Sys2Proof.Certificates

namespace Sys2Proof.Machine

/-! ## Requests of the ticket unit and the start of a numbering (R180, R182, R189, R190) -/

/-- The COPY that REPRINT TICKET makes of a closed visit's ticket (R189). -/
def ticketCopy (n : Nat) (c : ClosedVisit) : Ticket :=
  { kind := .copy, number := some n, stage := .waiting, content := c.content, parts := [], pos := 0, jobTag := none }

/-- A ticket at the tail of a printer's queue. -/
def ticketJoined (l : LaneId) (t : Ticket) (s : State) : State := modPrinter l (fun p => { p with queue := p.queue ++ [t] }) s

theorem ticketJoined_queue (l : LaneId) (t : Ticket) (s : State) :
    ((ticketJoined l t s).tickets.printers[l]).queue = (s.tickets.printers[l]).queue ++ [t] := by
  simp [ticketJoined]

section
variable {s : State} {tag : Byte} {n : Nat}

theorem setTicketNumber_range (h : n < 1 ∨ 99999999 < n) : setTicketNumber tag [some (.num n)] s = reply .range s := if_pos h

variable (h1 : 1 ≤ n) (h2 : n ≤ 99999999)
include h1 h2

theorem not_outsideTickets : ¬ (n < 1 ∨ Config.maxTicket < n) := by
  rw [not_or, Nat.not_lt, Nat.not_lt]
  exact ⟨h1, h2⟩

theorem setTicketNumber_state (h : s.cal.store.ticket.valid = true ∨ numberSetting s.cal.store = true) :
    setTicketNumber tag [some (.num n)] s = reply .state s := by
  unfold setTicketNumber
  dsimp only
  rw [if_neg (not_outsideTickets h1 h2)]
  split
  · rfl
  · rename_i invalid
    exact if_pos (h.resolve_left invalid)

theorem setTicketNumber_asks (hv : s.cal.store.ticket.valid = false) (hw : numberSetting s.cal.store = false) :
    setTicketNumber tag [some (.num n)] s = (askWrite (.setTicket n tag) s, none) := by
  unfold setTicketNumber
  simp only [not_outsideTickets h1 h2, hv, hw, Bool.false_eq_true, if_false]

variable {l : LaneId} {c : ClosedVisit} (hc : closedRecord s n = some c)
include hc

theorem reprintTicket_state (h : (roleOf s (.printer l)).fill = .empty) :
    reprintTicket tag [some (.num n), some (.num (l.val + 1))] s = reply .state s := by
  unfold reprintTicket
  simp only [laneOf_val, not_outsideTickets h1 h2, hc, h, if_true, if_false]

theorem reprintTicket_full (h : (roleOf s (.printer l)).fill ≠ .empty) (hq : 4 ≤ (s.tickets.printers[l]).queue.length) :
    reprintTicket tag [some (.num n), some (.num (l.val + 1))] s = reply .full s := by
  have full : Config.ticketSlots ≤ (s.tickets.printers[l]).queue.length := hq
  unfold reprintTicket
  simp only [laneOf_val, not_outsideTickets h1 h2, hc, h, full, if_true, if_false]

/-- The COPY joins the printer's queue, and its head starts where R185 allows. -/
theorem reprintTicket_joins (h : (roleOf s (.printer l)).fill ≠ .empty) (hq : (s.tickets.printers[l]).queue.length < 4) :
    reprintTicket tag [some (.num n), some (.num (l.val + 1))] s
      = reply .done (startHead l (ticketJoined l (ticketCopy n c) s)) := by
  have room : ¬ Config.ticketSlots ≤ (s.tickets.printers[l]).queue.length := Nat.not_le.2 hq
  unfold reprintTicket
  simp only [laneOf_val, not_outsideTickets h1 h2, hc, h, room, if_false]
  rfl

end

/-- A head ticket past WAITING is not started again (R185). -/
theorem startHead_started {s : State} {l : LaneId} {t : Ticket} {rest : List Ticket}
    (hq : (s.tickets.printers[l]).queue = t :: rest) (ht : t.stage ≠ .waiting) : startHead l s = s := by
  unfold startHead runHead
  rw [hq]
  exact if_pos ht

theorem setTicketHeader_range {s : State} {tag : Byte} {i : Fin 4} {text : Text} (h : 64 < text.length) :
    setTicketHeader tag [some (.num (i.val + 1)), some (.text text)] s = reply .range s := by
  unfold setTicketHeader
  simp only [bridgeOf_val, h, if_true]

theorem setTicketHeader_sets {s : State} {tag : Byte} {i : Fin 4} {text : Text} (h : text.length ≤ 64) :
    setTicketHeader tag [some (.num (i.val + 1)), some (.text text)] s = reply .done (modTickets (fun x =>
      { x with headers := put x.headers i (if text = [] then none else some text) }) s) := by
  have fits : ¬ 64 < text.length := Nat.not_lt.2 h
  unfold setTicketHeader
  simp only [bridgeOf_val, fits, if_false]

/-- The ticket number after `k` (R180). -/
def nextTicket (k : Nat) : Nat := if k = 99999999 then 1 else k + 1

/-- The numbering at the head of the list in flight, its ticket NUMBERING. -/
def numberingBegun (v : Nat) (l : LaneId) (rest : List (Nat × LaneId)) (s : State) : State :=
  modOriginal l v (fun t => { t with stage := .numbering })
    (modTickets (fun t => { t with inFlight := some (v, l, s.cal.store.ticket.content), numbering := rest }) s)

/-- Steps 1 and 2 of a numbering (R180). -/
theorem startNumbering_begins {s : State} {v : Nat} {l : LaneId} {rest : List (Nat × LaneId)} (hf : s.tickets.inFlight = none)
    (hn : s.tickets.numbering = (v, l) :: rest) (hv : s.cal.store.ticket.valid = true) : startNumbering s
      = askWriteBehindReset (.ticket (nextTicket s.cal.store.ticket.content)) (numberingBegun v l rest s) := by
  unfold startNumbering
  rw [hf, hn]
  exact if_pos hv

theorem numberingBegun_queue (v : Nat) (l : LaneId) (rest : List (Nat × LaneId)) (s : State) :
    ((numberingBegun v l rest s).tickets.printers[l]).queue = (s.tickets.printers[l]).queue.map (fun x =>
      if x.kind = .original ∧ x.content.visit = v then { x with stage := .numbering } else x) := by
  simp [numberingBegun, modOriginal]

end Sys2Proof.Machine

namespace Sys2Proof.Certificates
open Sys2Proof.Machine

/-- A numbering starts, its write begun or behind a write in flight or a warm reset that waits (R31, R180). -/
theorem numbering_starts (s : State) (v : Nat) (l : LaneId) (rest : List (Nat × LaneId)) (hf : s.tickets.inFlight = none)
    (hn : s.tickets.numbering = (v, l) :: rest) (hv : s.cal.store.ticket.valid = true) :
    let k := s.cal.store.ticket.content
    let t := startNumbering s
    t.tickets.inFlight = some (v, l, k) ∧ t.tickets.numbering = rest
      ∧ (s.port.resetAsked = none → s.cal.store.inFlight = none →
          t.cal.store.inFlight = some (.ticket (nextTicket k)) ∧ t.cal.store.asked = s.cal.store.asked)
      ∧ (s.port.resetAsked ≠ none ∨ s.cal.store.inFlight ≠ none → t.cal.store.inFlight = s.cal.store.inFlight
          ∧ t.cal.store.asked = s.cal.store.asked ++ [.ticket (nextTicket k)])
      ∧ t.cal.store.ticket = s.cal.store.ticket
      ∧ (t.tickets.printers[l]).queue = (s.tickets.printers[l]).queue.map (fun x =>
          if x.kind = .original ∧ x.content.visit = v then { x with stage := .numbering } else x) := by
  intro k t
  have begins : t = _ := startNumbering_begins hf hn hv
  have queue := numberingBegun_queue v l rest s
  rcases askWriteBehindReset_cases (.ticket (nextTicket k)) (numberingBegun v l rest s) with
    ⟨noReset, idle, starts⟩ | ⟨waits, joins⟩
  · rw [begins, starts]
    refine ⟨rfl, rfl, fun _ _ => ⟨rfl, rfl⟩, fun waits => ?_, rfl, queue⟩
    exact absurd waits (not_or.2 ⟨not_not.2 noReset, not_not.2 idle⟩)
  · rw [begins, joins]
    refine ⟨rfl, rfl, fun noReset idle => ?_, fun _ => ⟨rfl, rfl⟩, rfl, queue⟩
    exact absurd waits (not_or.2 ⟨not_not.2 noReset, not_not.2 idle⟩)

/-- Settles O56: the three requests case by case, then the start of a numbering. -/
theorem ticketRequests : Obligations.TicketRequests := by
  unfold Obligations.TicketRequests
  refine ⟨fun s tag n h => ⟨fun outside => ?_, fun h1 h2 set => ?_, fun h1 h2 hv hw =>
      ⟨fun idle => ?_, fun busy => ?_⟩⟩,
    fun s tag n l c h h1 h2 hc => ⟨fun empty => ?_, fun fill full => ?_, fun still room => ?_⟩,
    fun s tag i text h => ⟨fun long => ?_, fun fits => ?_⟩, numbering_starts⟩
  · exact answers_of_owner rfl h (setTicketNumber_range outside)
  · exact answers_of_owner rfl h (setTicketNumber_state (s := fresh s) h1 h2 set)
  · have asks := setTicketNumber_asks (s := fresh s) (tag := tag) h1 h2 hv hw
    rw [askWrite_idle (s := fresh s) _ idle] at asks
    exact deferred_of_owner rfl h asks
  · have asks := setTicketNumber_asks (s := fresh s) (tag := tag) h1 h2 hv hw
    rw [askWrite_busy (s := fresh s) _ busy] at asks
    exact deferred_of_owner rfl h asks
  · exact answers_of_owner rfl h (reprintTicket_state (s := fresh s) h1 h2 hc empty)
  · exact answers_of_owner rfl h (reprintTicket_full (s := fresh s) h1 h2 hc fill full)
  · have fill : (roleOf s (.printer l)).fill ≠ .empty := by
      rcases still with fill | ⟨fill, -⟩ <;> rw [fill] <;> decide
    have joins := reprintTicket_joins (s := fresh s) (tag := tag) h1 h2 hc fill room
    rcases still with degraded | ⟨-, t, rest, hq, started⟩
    · rw [startHead_degraded (by exact degraded)] at joins
      exact answers_of_owner rfl h joins
    · have queue := (ticketJoined_queue l (ticketCopy n c) (fresh s)).trans (congrArg (· ++ [ticketCopy n c]) hq)
      rw [startHead_started queue started] at joins
      exact answers_of_owner rfl h joins
  · exact answers_of_owner rfl h (setTicketHeader_range long)
  · exact answers_of_owner rfl h (setTicketHeader_sets fits)

end Sys2Proof.Certificates

namespace Sys2Proof.Machine

/-! ## The command queue under an offer (R63, R64) -/

/-- A list of commands with a DRIVE OFF placed: it stands behind those at the head and ahead of all others (R64). -/
theorem insertDriveOff_eq (c : Command) (q : List Command) : ∃ before after, insertDriveOff c q = before ++ c :: after
    ∧ q = before ++ after ∧ ∀ x ∈ before, x.frame = .driveOff := by
  induction q with
  | nil => exact ⟨[], [], rfl, rfl, fun _ h => nomatch h⟩
  | cons x xs ih =>
    unfold insertDriveOff
    split
    · rename_i off
      obtain ⟨before, after, placed, whole, offs⟩ := ih
      refine ⟨x :: before, after, by rw [placed]; rfl, by rw [whole]; rfl, fun y hy => ?_⟩
      rcases List.mem_cons.1 hy with rfl | later
      · exact off
      · exact offs y later
    · exact ⟨[], x :: xs, rfl, rfl, fun _ h => nomatch h⟩

theorem insertDriveOff_length (c : Command) (q : List Command) : (insertDriveOff c q).length = q.length + 1 := by
  obtain ⟨before, after, placed, whole, -⟩ := insertDriveOff_eq c q
  rw [placed, whole]
  simp
  omega

theorem mem_insertDriveOff {c x : Command} {q : List Command} : x ∈ insertDriveOff c q ↔ x = c ∨ x ∈ q := by
  obtain ⟨before, after, placed, whole, -⟩ := insertDriveOff_eq c q
  rw [placed, whole]
  simp only [List.mem_append, List.mem_cons]
  tauto

/-- A command pushed out leaves the queue, and of the port it can only shorten the pass-through list (R64). -/
theorem tellDropped_lists (c : Command) (s : State) : (tellDropped c s).bus.queue = s.bus.queue
    ∧ (tellDropped c s).port.buffer = s.port.buffer ∧ (tellDropped c s).port.pass.length ≤ s.port.pass.length := by
  unfold tellDropped
  split
  · unfold holdReset
    split <;> exact ⟨rfl, rfl, le_rfl⟩
  · exact ⟨rfl, rfl, le_rfl⟩
  · exact ⟨rfl, rfl, le_rfl⟩
  · exact ⟨rfl, rfl, le_rfl⟩
  · unfold stationRetry
    split <;> exact ⟨rfl, rfl, le_rfl⟩
  · split <;> exact ⟨rfl, rfl, le_rfl⟩
  · unfold passDropped passEnds
    rw [makeReady_rest]
    refine ⟨rfl, rfl, ?_⟩
    simpa using List.length_erase_le (a := _) (l := s.port.pass.reverse)

theorem tellAllDropped_lists (cs : List Command) (s : State) :
    (cs.foldl (fun s c => tellDropped c s) s).bus.queue = s.bus.queue
      ∧ (cs.foldl (fun s c => tellDropped c s) s).port.buffer = s.port.buffer
      ∧ (cs.foldl (fun s c => tellDropped c s) s).port.pass.length ≤ s.port.pass.length := by
  refine LaneOps.foldl (P := fun u => u.bus.queue = s.bus.queue ∧ u.port.buffer = s.port.buffer
    ∧ u.port.pass.length ≤ s.port.pass.length) (fun u c hu => ?_) cs ⟨rfl, rfl, le_rfl⟩
  obtain ⟨queue, buffer, pass⟩ := tellDropped_lists c u
  exact ⟨queue.trans hu.1, buffer.trans hu.2.1, pass.trans hu.2.2⟩

/-- The queue a DRIVE OFF finds: without its newest command where 16 are queued, and without the RAISEs for its station. -/
def driveOffRoom (a : NodeId) (q : List Command) : List Command :=
  (if Config.commandSlots ≤ q.length then q.take (Config.commandSlots - 1) else q).filter (fun x => !isRaiseFor a x)

theorem driveOffRoom_length (a : NodeId) (q : List Command) : (driveOffRoom a q).length < Config.commandSlots := by
  refine (List.length_filter_le _ _).trans_lt ?_
  split
  · rw [List.length_take]
    exact (min_le_left _ _).trans_lt (by decide)
  · omega

theorem mem_of_mem_driveOffRoom {a : NodeId} {c : Command} {q : List Command} (h : c ∈ driveOffRoom a q) :
    c ∈ q ∧ isRaiseFor a c = false := by
  obtain ⟨hc, raise⟩ := List.mem_filter.1 h
  refine ⟨?_, by simpa using raise⟩
  split at hc
  · exact List.mem_of_mem_take hc
  · exact hc

/-- The queue with a DRIVE OFF placed: the DRIVE OFF in the room found, and held resets behind (R63, R64). -/
theorem placeDriveOff_queue (c : Command) (s : State) : ∃ resets : List HeldReset,
    (placeDriveOff c s).bus.queue = insertDriveOff c (driveOffRoom c.node s.bus.queue) ++ resets.map HeldReset.command
      ∧ (placeDriveOff c s).bus.queue.length ≤ Config.commandSlots
      ∧ (placeDriveOff c s).port.buffer = s.port.buffer ∧ (placeDriveOff c s).port.pass.length ≤ s.port.pass.length := by
  set q := if Config.commandSlots ≤ s.bus.queue.length then s.bus.queue.take (Config.commandSlots - 1) else s.bus.queue with hq
  set pushed := if Config.commandSlots ≤ s.bus.queue.length then s.bus.queue.drop (Config.commandSlots - 1) else [] with hp
  set raises := q.filter (isRaiseFor c.node) with hr
  set u := pushed.foldl (fun s c => tellDropped c s)
    (modBus (fun x => { x with queue := insertDriveOff c (driveOffRoom c.node s.bus.queue) }) s) with hu
  have whole : placeDriveOff c s = raises.foldl (fun s c => tellDropped c s) (modBus (placeHeld raises.length) u) := rfl
  obtain ⟨queue, buffer, pass⟩ := tellAllDropped_lists pushed
    (modBus (fun x => { x with queue := insertDriveOff c (driveOffRoom c.node s.bus.queue) }) s)
  obtain ⟨queue', buffer', pass'⟩ := tellAllDropped_lists raises (modBus (placeHeld raises.length) u)
  rw [← hu] at queue buffer pass
  rw [← whole] at queue' buffer' pass'
  have room : u.bus.queue.length ≤ Config.commandSlots := by
    rw [queue, modBus_bus]
    dsimp only
    rw [insertDriveOff_length]
    exact driveOffRoom_length _ _
  refine ⟨u.bus.heldResets.take (min raises.length (Config.commandSlots - u.bus.queue.length)), ?_, ?_, buffer'.trans buffer,
    pass'.trans pass⟩
  · rw [queue']
    exact congrArg (· ++ _) queue
  · rw [queue']
    exact placeHeld_length _ _ room

/-! ## The sizes of the queues (R63, R71, R196, R206) -/

/-- The queues as they were, the pass-through list perhaps shorter. -/
theorem QueueLaw.of_le {s t : State} (h : QueueLaw s) (hq : t.bus.queue.length ≤ Config.commandSlots)
    (hr : t.bus.reports.length ≤ s.bus.reports.length) (hb : t.port.buffer.length ≤ s.port.buffer.length)
    (hp : t.port.pass.length ≤ s.port.pass.length) : QueueLaw t := by
  obtain ⟨-, reports, buffer, pass⟩ := h
  exact ⟨hq, hr.trans reports, hb.trans buffer, hp.trans pass⟩

theorem QueueLaw.of_eq {s t : State} (h : QueueLaw s) (hb : t.bus = s.bus) (hl : t.port.buffer = s.port.buffer)
    (hp : t.port.pass = s.port.pass) : QueueLaw t := by
  unfold QueueLaw at *
  rw [hb, hl, hp]
  exact h

theorem QueueLaw.recorded {s t : State} (h : QueueLaw s) (k : RecordFrame s t) : QueueLaw t :=
  h.of_eq (by rw [k.rest]) (by rw [k.port]) (by rw [k.port])

theorem QueueLaw.makeReady {s : State} (h : QueueLaw s) (f : OutFrame) : QueueLaw (makeReady f s) := by
  rw [makeReady_rest]
  exact h

/-- An offer joins the queue with room; a DRIVE OFF makes its own (R63, R64). -/
theorem QueueLaw.offer {s : State} (h : QueueLaw s) (a : NodeId) (f : CommandFrame) (o : Origin) :
    QueueLaw (offer a f o s).1 := by
  unfold Machine.offer
  dsimp only
  split_ifs with inactive long off full room
  · exact h
  · exact h
  · exact h
  · obtain ⟨-, -, length, buffer, pass⟩ := placeDriveOff_queue { node := a, frame := f, origin := o, sent := false } s
    refine h.of_le length ?_ (congrArg List.length buffer).le pass
    rw [(placeDriveOff_frame _ s).reports]
  · exact h
  · refine h.of_le ?_ le_rfl le_rfl le_rfl
    simp only [modBus_bus, List.length_append, List.length_singleton]
    omega

theorem QueueLaw.modPort {s : State} (h : QueueLaw s) {f : Port → Port}
    (hb : (f s.port).buffer.length ≤ s.port.buffer.length) (hp : (f s.port).pass.length ≤ s.port.pass.length) :
    QueueLaw (modPort f s) :=
  h.of_le h.1 le_rfl hb hp

theorem QueueLaw.askWrite {s : State} (h : QueueLaw s) (w : StoreWrite) : QueueLaw (askWrite w s) := by
  by_cases idle : s.cal.store.inFlight = none
  · rw [askWrite_idle _ idle]
    exact h
  · rw [askWrite_busy _ idle]
    exact h

theorem QueueLaw.askWriteBehindReset {s : State} (h : QueueLaw s) (w : StoreWrite) : QueueLaw (askWriteBehindReset w s) := by
  rcases askWriteBehindReset_cases w s with ⟨-, -, hq⟩ | ⟨-, hq⟩ <;> rw [hq] <;> exact h

theorem QueueLaw.writeEnds {s : State} (h : QueueLaw s) : QueueLaw (writeEnds s) := by
  obtain ⟨w, asked, -, he⟩ := writeEnds_eq s
  rw [he]
  exact h

/-- The work of the parts and the bridge samples keep the sizes. -/
theorem queueLaw_sampleOps : SampleOps QueueLaw where
  capture _ h := h
  lane _ h := h
  station h := h
  bridge h := h
  offer _ h := h.offer _ _ _
  record h := h.recorded (queueRecord_spec _ _).1
  account h := h
  refBank h := h
  unrefBank h := h
  visit _ h := h
  removeVisit h := h
  nextVisit h := h
  visitOpens _ h := h
  takeClaims h := h.recorded (takeClaims_frame _ _)
  releaseClaims h := h
  spendClaim h := h.recorded (spendClaim_frame _ _)
  printer _ h := h
  ticketJoins _ h := h
  tickets _ h := h
  ticketWrite h := h.askWriteBehindReset _
  status h := h
  judge {b s} h := by
    obtain ⟨r, hr⟩ := judge_eq b s
    rw [hr]
    exact h
  samples _ h := h
  planNode h := h
  role h := h
  ready h := h.makeReady _
  passLeaves shorter h := h.modPort le_rfl shorter
  node h := h
  queue {f s} change h := by
    obtain ⟨rest, length⟩ := change s.bus
    refine h.of_le (length h.1) (le_of_eq ?_) le_rfl le_rfl
    rw [modBus_bus, rest]
  reports {f s} change h := by
    obtain ⟨rest, length⟩ := change s.bus
    refine h.of_le ?_ length le_rfl le_rfl
    rw [modBus_bus, rest]
    exact h.1
  reportJoins room h := by
    obtain ⟨queue, -, buffer, pass⟩ := h
    exact ⟨queue, by simpa using room, buffer, pass⟩
  scan h := h
  enumeration h := h
  sendBus h := h
  engine h := h
  session h := h

/-- The requests keep the sizes: a request joins the buffer, and a pass-through command its list, with room. -/
theorem queueLaw_requestOps : RequestOps QueueLaw where
  toCycleOps := queueLaw_sampleOps.cycleOps
  port shorter h := by
    obtain ⟨-, -, buffer, pass⟩ := shorter _
    exact h.modPort buffer pass
  bufferJoins room h := by
    obtain ⟨queue, reports, -, pass⟩ := h
    exact ⟨queue, reports, by simpa using room, pass⟩
  passJoins room h := by
    obtain ⟨queue, reports, buffer, -⟩ := h
    exact ⟨queue, reports, buffer, by simpa using room⟩
  resetOffered h := h.offer _ _ _
  settings _ h := h
  laneSettings h := h
  planEntries h := h
  clock _ h := h
  tolerance h := h
  numberWrite h := h.askWrite _
  putVehicle h := by
    unfold putVehicle
    split
    · split_ifs <;> exact h
    · exact h
  dropVehicle h := by
    unfold dropVehicle
    split
    · split_ifs <;> exact h
    · exact h
  putAccount h := by
    unfold putAccount
    split
    · dsimp only
      split_ifs
      · exact h
      · exact h
      · refine queueLaw_sampleOps.evaluateOverLimit ?_
        unfold writeAccount
        split <;> exact h
    · exact h
  dropAccount h := by
    unfold dropAccount
    split
    · split
      · exact h
      · split
        · exact h
        · split_ifs <;> exact h
    · exact h
  putTariffRow h := by
    unfold putTariffRow
    split
    · split
      · exact h
      · split_ifs <;> exact h
    · exact h
  dropTariffRow h := by
    unfold dropTariffRow
    split
    · split
      · exact h
      · split_ifs <;> exact h
    · exact h

/-! ### Sessions and steps -/

theorem QueueLaw.dropSession {s : State} (h : QueueLaw s) (x : Session) : QueueLaw (dropSession x s) := h

theorem QueueLaw.lineAbort {s : State} (h : QueueLaw s) : QueueLaw (lineAbort s) := by
  have ops := queueLaw_sampleOps
  unfold Machine.lineAbort
  split
  · exact h
  · rename_i x _
    split
    · exact h
    · refine ops.deriveBridge (ops.judge (QueueLaw.dropSession ?_ x))
      split
      · exact ops.answer (ops.endStep h)
      · exact ops.endStep h

theorem QueueLaw.takeStep {s : State} (h : QueueLaw s) (b : BridgeId) (step : CalStep) (tag : Byte) :
    QueueLaw (takeStep b step tag s).1 := by
  unfold Machine.takeStep
  split <;> exact h

theorem QueueLaw.zeroBoundTest {s : State} (h : QueueLaw s) (b : BridgeId) (d : CalData) : QueueLaw (zeroBoundTest b d s) := h

/-! ### Resets -/

theorem QueueLaw.stopAtReset {s : State} (h : QueueLaw s) : QueueLaw (stopAtReset s) := by
  unfold Machine.stopAtReset
  split
  · exact queueLaw_sampleOps.assertStop h
  · exact h

theorem QueueLaw.deriveAtReset {s : State} (h : QueueLaw s) : QueueLaw (deriveAtReset s) :=
  LaneOps.foldl (fun _ _ hu => queueLaw_sampleOps.status hu) _
    (LaneOps.foldl (fun _ _ hu => queueLaw_sampleOps.judge hu) _ h)

/-- The queues are empty as a reset sets its values. -/
theorem queueLaw_empty {s : State} (hq : s.bus.queue = []) (hr : s.bus.reports = []) (hb : s.port.buffer = [])
    (hp : s.port.pass = []) : QueueLaw s := by
  unfold QueueLaw
  rw [hq, hr, hb, hp]
  exact ⟨Nat.zero_le _, Nat.zero_le _, Nat.zero_le _, Nat.zero_le _⟩

theorem coldValues_queueLaw (s : State) : QueueLaw (coldValues s) :=
  QueueLaw.stopAtReset (queueLaw_sampleOps.record (QueueLaw.deriveAtReset (queueLaw_empty rfl rfl rfl rfl)))

/-- The ticket unit is emptied and its tickets end: work of visits and tickets. -/
theorem QueueLaw.resetTickets {s : State} (h : QueueLaw s) : QueueLaw (resetTickets s) :=
  queueLaw_sampleOps.resetTickets (QueueLaw.of_eq h rfl rfl rfl)

theorem warmValues_queueLaw (kind : ResetKind) (s : State) : QueueLaw (warmValues kind s) := by
  unfold warmValues
  extract_lets u kept v
  have emptied : QueueLaw v := queueLaw_empty rfl rfl rfl rfl
  exact QueueLaw.stopAtReset (QueueLaw.resetTickets (queueLaw_sampleOps.record (QueueLaw.deriveAtReset emptied)))

/-! ### Every step keeps the sizes -/

theorem queueLaw_execOps : ExecOps QueueLaw where
  toRequestOps := queueLaw_requestOps
  fresh h := h
  pending h := h
  idleTick _ h := h
  coldValues _ := coldValues_queueLaw _
  warmValues _ _ := warmValues_queueLaw _ _
  calEnable {level s} h := by
    unfold setCalEnable
    dsimp only
    split
    · exact QueueLaw.lineAbort (s := { s with calEnable := level }) h
    · exact h
  stopLevel h := h
  losePower h := h
  trackExpiry h := by
    unfold trackExpiry
    dsimp only
    split
    · split_ifs
      · exact h
      · exact h
      · exact h
      · exact queueLaw_sampleOps.record h
      · exact h
    · exact h
  stepTimeout h := queueLaw_sampleOps.endStep h
  recordWritten h := by
    unfold recordWritten
    split
    · exact queueLaw_sampleOps.deriveBridge h
    · exact h
  counterWritten h := by
    have ops := queueLaw_sampleOps
    unfold counterWritten
    split
    · refine LaneOps.foldl (fun _ _ hu => ops.deriveBridge hu) _ (LaneOps.foldl (fun _ _ hu => ops.judge hu) _ ?_)
      refine QueueLaw.of_eq ?_ rfl rfl rfl
      split
      · exact ops.answer (ops.spendClaim (QueueLaw.writeEnds h))
      · exact ops.spendClaim (QueueLaw.writeEnds h)
    · exact h
  ticketNumbered h := by
    have ops := queueLaw_sampleOps
    unfold ticketNumbered
    split
    · exact ops.startHead (ops.startNumbering (ops.modOriginal (ops.tickets (fun _ => rfl) (QueueLaw.writeEnds h))))
    · exact h
  numberSet h := by
    have ops := queueLaw_sampleOps
    unfold numberSet
    split
    · exact ops.startNumbering (ops.answer (QueueLaw.writeEnds h))
    · exact h
  zeroBridge h := by
    unfold zeroBridge
    split
    · split
      · exact h
      · dsimp only
        split
        · exact h
        · split
          · exact h
          · split_ifs
            · exact h
            · exact h
            · exact h
            · split
              · split <;> exact h
              · exact h
    · exact h
  calBegin {tag vs s} h := by
    have ops := queueLaw_sampleOps
    unfold calBegin
    split
    · exact h
    · split
      · extract_lets count
        clear_value count
        split
        · exact h
        · rename_i b _
          rcases beginCopy (s.cal.store.records[b]) count with _ | work
          · split_ifs <;> exact h
          · split_ifs
            · exact h
            · exact h
            · exact h
            · exact h
            · exact h
            · exact ops.deriveBridge (QueueLaw.of_eq (ops.takeClaims h) rfl rfl rfl)
      · exact h
  calZero h := by
    unfold calZero
    split
    · exact h
    · split
      · split
        · exact h
        · exact h.takeStep _ _ _
      · exact h
  calSpan h := by
    unfold calSpan
    split
    · exact h
    · split
      · split
        · exact h
        · split
          · exact h
          · exact h.takeStep _ _ _
      · exact h
  calCorner h := by
    unfold calCorner
    split
    · exact h
    · split
      · split
        · split
          · exact h
          · split
            · exact h
            · exact h.takeStep _ _ _
        · exact h
      · exact h
  calTrim h := by
    unfold calTrim
    split
    · exact h
    · split
      · split
        · exact h
        · split
          · exact h
          · dsimp only
            split_ifs
            · exact h
            · exact h
            · split <;> exact h
      · exact h
  calSetLimits h := by
    unfold calSetLimits
    split
    · exact h
    · split
      · split
        · exact h
        · split
          · exact h
          · split
            · exact h
            · exact queueLaw_sampleOps.deriveBridge h
      · exact h
  calCommit h := by
    unfold calCommit
    split
    · exact h
    · split
      · split
        · exact h
        · split
          · exact h
          · split_ifs
            · exact h
            · exact h
            · exact QueueLaw.askWrite (queueLaw_sampleOps.session h) _
      · exact h
  calAbort h := by
    have ops := queueLaw_sampleOps
    unfold calAbort
    split
    · exact h
    · split
      · split
        · exact h
        · split
          · exact h
          · split
            · exact h
            · exact ops.deriveBridge (ops.judge (QueueLaw.dropSession (ops.endStep h) _))
      · exact h

end Sys2Proof.Machine

namespace Sys2Proof.Certificates
open Sys2Proof.Machine

/-- Settles O5: every command is made of operations that keep the sizes, and a step is a command or a millisecond. -/
theorem queueLawKept : Obligations.QueueLawKept := by
  unfold Obligations.QueueLawKept
  intro s t h he
  exact queueLaw_execOps.step h he

end Sys2Proof.Certificates

namespace Sys2Proof.Machine

/-! ## The checks of an offer (R63) -/

/-- The check of an entry's state: a NODE RESET passes it in any (R63). -/
def CommandFrame.mayGo (f : CommandFrame) (n : NodeEntry) : Prop := n.state = .active ∨ f.isReset = true

/-- The command an offer brings. -/
def offered (a : NodeId) (f : CommandFrame) (o : Origin) : Command := { node := a, frame := f, origin := o, sent := false }

theorem offer_notActive {a : NodeId} {f : CommandFrame} {o : Origin} {s : State} (ha : (s.bus.nodes[a]).state ≠ .active)
    (hf : f.isReset = false) : offer a f o s = (s, some .notActive) := by
  cases f with
  | nodeReset k => cases hf
  | _ =>
    unfold offer
    exact if_pos ⟨ha, rfl⟩

/-- Behind the check of the entry's state an offer is judged by its length and the room (R63). -/
theorem offer_mayGo {a : NodeId} {f : CommandFrame} {o : Origin} {s : State} (h : f.mayGo (s.bus.nodes[a])) : offer a f o s =
    if ((s.bus.nodes[a]).desc.map (·.maxPayload)).getD 32 < f.payload.length then (s, some .tooLong)
    else if f = .driveOff then
      if Config.commandSlots ≤ s.bus.queue.length ∧ s.bus.queue.all (fun x => x.frame == .driveOff) then (s, some .queueFull)
      else (placeDriveOff (offered a f o) s, none)
    else if Config.commandSlots ≤ s.bus.queue.length then (s, some .queueFull)
    else (modBus (fun x => { x with queue := x.queue ++ [offered a f o] }) s, none) := by
  rcases h with active | reset
  · unfold offer
    exact if_neg (fun refused => refused.1 active)
  · cases f with
    | nodeReset k =>
      unfold offer
      exact if_neg (fun refused => Bool.noConfusion refused.2)
    | _ => cases reset

theorem offer_tooLong {a : NodeId} {f : CommandFrame} {o : Origin} {s : State} (h : f.mayGo (s.bus.nodes[a]))
    (hl : ((s.bus.nodes[a]).desc.map (·.maxPayload)).getD 32 < f.payload.length) : offer a f o s = (s, some .tooLong) := by
  rw [offer_mayGo h, if_pos hl]

/-- A command that is no DRIVE OFF and passes the first two checks waits for room alone (R63). -/
theorem offer_fits {a : NodeId} {f : CommandFrame} {o : Origin} {s : State} (h : f.mayGo (s.bus.nodes[a]))
    (hl : f.payload.length ≤ ((s.bus.nodes[a]).desc.map (·.maxPayload)).getD 32) (hf : f ≠ .driveOff) : offer a f o s =
    if Config.commandSlots ≤ s.bus.queue.length then (s, some .queueFull)
    else (modBus (fun x => { x with queue := x.queue ++ [offered a f o] }) s, none) := by
  rw [offer_mayGo h, if_neg (Nat.not_lt.2 hl), if_neg hf]

/-- A DRIVE OFF is taken only by being placed (R64). -/
theorem offer_driveOff_taken {a : NodeId} {o : Origin} {s t : State} (h : offer a .driveOff o s = (t, none)) :
    t = placeDriveOff (offered a .driveOff o) s := by
  by_cases active : (s.bus.nodes[a]).state = .active
  · rw [offer_mayGo (.inl active), if_neg (show ¬ _ < CommandFrame.driveOff.payload.length from Nat.not_lt_zero _),
      if_pos rfl] at h
    split at h <;> cases h
    rfl
  · rw [offer_notActive active rfl] at h
    cases h

end Sys2Proof.Machine

namespace Sys2Proof.Certificates
open Sys2Proof.Machine

/-- Settles O26: the three checks of R63 one after the other. -/
theorem offerIsTakenOrRefused : Obligations.OfferIsTakenOrRefused := by
  unfold Obligations.OfferIsTakenOrRefused
  refine fun s a f o => ⟨offer_notActive, fun may => ⟨offer_tooLong may, fun fits off => ⟨fun full => ?_, fun room => ?_⟩⟩⟩
  · rw [offer_fits may fits off]
    exact if_pos full
  · rw [offer_fits may fits off]
    exact if_neg (Nat.not_le.2 room)

/-- Settles O27: the DRIVE OFF is inserted behind the DRIVE OFFs at the head of a queue without RAISEs for its station, and
what comes in behind is NODE RESETs. -/
theorem driveOffGoesAheadAndClearsRaises : Obligations.DriveOffGoesAheadAndClearsRaises := by
  unfold Obligations.DriveOffGoesAheadAndClearsRaises
  intro s t a o taken _
  obtain ⟨resets, queue, length, -, -⟩ := placeDriveOff_queue (offered a .driveOff o) s
  rw [← offer_driveOff_taken taken] at queue length
  obtain ⟨before, after, placed, -, offs⟩ := insertDriveOff_eq (offered a .driveOff o) (driveOffRoom a s.bus.queue)
  refine ⟨⟨before, after ++ resets.map HeldReset.command, ?_, offs⟩, fun c hc ⟨node, frame⟩ => ?_, length⟩
  · rw [queue]
    exact (congrArg (· ++ _) placed).trans (List.append_assoc _ _ _)
  · rw [queue, List.mem_append, mem_insertDriveOff] at hc
    rcases hc with (rfl | waiting) | held
    · cases frame
    · have raise := (mem_of_mem_driveOffRoom waiting).2
      rw [isRaiseFor, frame, node] at raise
      simp [offered] at raise
    · obtain ⟨r, -, rfl⟩ := List.mem_map.1 held
      cases frame

end Sys2Proof.Certificates

namespace Sys2Proof.Machine

/-! ## How an exchange and a cycle end (R54, R57, R58, R68) -/

theorem answerArrives_good {s : State} {x : Exchange} {a : NodeId} {kind : Byte} {f : BusAnswer} {ans : Answer}
    (hx : s.bus.scan.exchange = some x) (ha : x.entry = some a) (hj : judgeAnswer s x a kind f = .ok ans) :
    answerArrives kind f s = exchangeGood x ans s := by
  simp only [answerArrives, hx, ha, hj]

theorem errorArrives_failed {s : State} {x : Exchange} {a : NodeId} {kind : Byte} {f : BusAnswer} {e : BusError}
    (hx : s.bus.scan.exchange = some x) (ha : x.entry = some a) (hj : judgeAnswer s x a kind f = .error e) :
    errorArrives kind f s = exchangeFailed x s := by
  simp only [errorArrives, hx, ha, hj]

theorem noAnswer_failed {s : State} {x : Exchange} {a : NodeId} (hx : s.bus.scan.exchange = some x)
    (ha : x.entry = some a) : noAnswer s = exchangeFailed x s := by
  simp only [noAnswer, hx, ha, Option.isSome_some, if_true]

/-- A good answer of an entry that is not SILENT clears its miss count and does no more (R58). -/
theorem countGood_active {a : NodeId} {s : State} (ha : (s.bus.nodes[a]).state = .active) :
    countGood a s = modNode a (fun n => { n with misses := 0 }) s := by
  unfold countGood
  dsimp only
  rw [ha, if_neg NodeState.noConfusion]

/-- An entry with a response error counted (R58). -/
def NodeEntry.missed (n : NodeEntry) : NodeEntry :=
  { n with errors := min Config.max16 (n.errors + 1), misses := min 3 (n.misses + 1) }

/-- A response error raises the counts, and at the third miss of an ACTIVE entry makes it SILENT (R58, R59). -/
theorem countError_eq (a : NodeId) (s : State) : countError a s =
    if (s.bus.nodes[a]).state = .active ∧ 2 ≤ (s.bus.nodes[a]).misses then goSilent a (modNode a NodeEntry.missed s)
    else modNode a NodeEntry.missed s := by
  have counted : (modNode a NodeEntry.missed s).bus.nodes[a] = (s.bus.nodes[a]).missed := by simp
  have third : 3 ≤ (s.bus.nodes[a]).missed.misses ↔ 2 ≤ (s.bus.nodes[a]).misses := by
    show 3 ≤ min 3 ((s.bus.nodes[a]).misses + 1) ↔ _
    omega
  show (if ((modNode a NodeEntry.missed s).bus.nodes[a]).state = .active
    ∧ 3 ≤ ((modNode a NodeEntry.missed s).bus.nodes[a]).misses then _ else _) = _
  rw [counted]
  exact if_congr (and_congr Iff.rfl third) rfl rfl

theorem countError_raises {a : NodeId} {s : State} (h : (s.bus.nodes[a]).state ≠ .active ∨ (s.bus.nodes[a]).misses < 2) :
    countError a s = modNode a NodeEntry.missed s := by
  rw [countError_eq]
  refine if_neg (fun third => ?_)
  rcases h with other | few
  · exact other third.1
  · exact absurd third.2 (Nat.not_le.2 few)

theorem alter_congr {α : Type} {n : Nat} (v : Vector α n) (i : Fin n) {f g : α → α} (h : f v[i] = g v[i]) :
    alter v i f = alter v i g :=
  congrArg (put v i) h

/-- With no cycle due the cycle ends (R54). -/
theorem endCycle_idle {s : State} (h : s.bus.scan.overdue = false) :
    endCycle s = modScan (fun x => { x with part := none, exchange := none }) s :=
  if_neg (fun due => Bool.noConfusion (h.symm.trans due))

theorem slotPart_noRound {s : State} (h : s.bus.enum.running = false) : slotPart s = endCycle s :=
  if_neg (fun round => Bool.noConfusion (h.symm.trans round))

theorem nextWindow_opens {s : State} {n : Nat} (hp : s.bus.scan.part = some (.attention n)) (hn : n < 4) :
    nextWindow s = openWindow n s := by
  unfold nextWindow
  rw [hp]
  exact if_pos hn

/-! ## Attention windows (R68, R70) -/

theorem windowValue (a : NodeId) : (BitVec.ofNat 6 (a.val + 1)).toNat = a.val + 1 := by
  rw [BitVec.toNat_ofNat]
  exact Nat.mod_eq_of_lt (by omega)

/-- An address of the node table reads as its entry. -/
theorem windowRead_address {s : State} {a : NodeId} (hx : s.bus.scan.exchange = some .attentionCall) :
    ((s.bus.nodes[a]).state = .active ∨ (s.bus.nodes[a]).state = .silent → ∀ part, s.bus.scan.part = some part →
        windowRead (BitVec.ofNat 6 (a.val + 1)) s = openExchange (a.val + 1) 0x04 [] part (.go a) (closeExchange s))
      ∧ ((s.bus.nodes[a]).state = .free ∨ (s.bus.nodes[a]).state = .lost →
        windowRead (BitVec.ofNat 6 (a.val + 1)) s = nextWindow (sendBus (a.val + 1) 0x0B [2] (closeExchange s))) := by
  have read : windowRead (BitVec.ofNat 6 (a.val + 1)) s
      = if (s.bus.nodes[a]).state = .active ∨ (s.bus.nodes[a]).state = .silent then
          s.bus.scan.part.elim (closeExchange s) (fun part => openExchange (a.val + 1) 0x04 [] part (.go a) (closeExchange s))
        else nextWindow (sendBus (a.val + 1) 0x0B [2] (closeExchange s)) := by
    unfold windowRead
    rw [if_neg (not_not.2 hx)]
    dsimp only
    rw [windowValue, if_neg (by omega), if_neg (by omega), nodeOf_val]
    refine if_congr Iff.rfl ?_ rfl
    rw [show (closeExchange s).bus.scan.part = s.bus.scan.part from rfl]
    cases s.bus.scan.part <;> rfl
  refine ⟨fun called part hp => ?_, fun stray => ?_⟩
  · rw [read, if_pos called, hp]
    rfl
  · rw [read, if_neg (by rcases stray with free | lost <;> simp only [*] <;> decide)]

theorem windowRead_join {s : State} (hx : s.bus.scan.exchange = some .attentionCall) :
    windowRead 0 s = nextWindow (joinRequest (sendBus 0 0x07 [] (closeExchange s))) := by
  unfold windowRead
  rw [if_neg (not_not.2 hx)]
  rfl

theorem windowRead_silence {s : State} (hx : s.bus.scan.exchange = some .attentionCall) :
    windowRead 63 s = slotPart (closeExchange s) := by
  unfold windowRead
  rw [if_neg (not_not.2 hx)]
  rfl

/-- With no round running and no hold-off a join request starts a round (R70). -/
theorem joinRequest_starts {s : State} (hr : s.bus.enum.running = false) (hh : s.bus.enum.holdOff = none) :
    joinRequest s = modEnum (fun e => { e with running := true, gaveZero := false, failed := [] }) s := by
  unfold joinRequest startRound modEnum
  simp only [hr, hh, Bool.false_eq_true, if_false, Option.isSome_none]

/-! ## Reports (R69) -/

theorem takeReport_discards {a : NodeId} {r : Report} {s : State} (ha : (s.bus.nodes[a]).attention = false) :
    takeReport a r s = sendBus (a.val + 1) 0x05 [] s := by
  unfold takeReport
  exact if_pos (by rw [ha]; rfl)

theorem takeReport_busy {a : NodeId} {r : Report} {s : State} (ha : (s.bus.nodes[a]).attention = true)
    (full : 16 ≤ s.bus.reports.length) : takeReport a r s = sendBus (a.val + 1) 0x06 [] s := by
  unfold takeReport
  rw [if_neg (by rw [ha]; decide)]
  exact if_pos full

theorem takeReport_queues {a : NodeId} {r : Report} {s : State} (ha : (s.bus.nodes[a]).attention = true)
    (room : s.bus.reports.length < 16) : takeReport a r s = sendBus (a.val + 1) 0x05 [] (settleReports
      (modBus (fun x => { x with reports := x.reports ++ [{ node := a, report := r, plan := boundPlan s a }] }) s)) := by
  unfold takeReport
  rw [if_neg (by rw [ha]; decide)]
  exact if_neg (Nat.not_le.2 room)

/-- Reports of which the first stands stay as they are (R71). -/
theorem settleReports_stands {s : State} (h : ∀ q ∈ s.bus.reports.head?, reportStale s q = false) :
    (settleReports s).bus.reports = s.bus.reports := by
  show s.bus.reports.dropWhile (reportStale s) = s.bus.reports
  cases hq : s.bus.reports with
  | nil => rfl
  | cons q rest =>
    have stands : reportStale s q = false := h q (by rw [hq]; rfl)
    rw [List.dropWhile_cons_of_neg (by rw [stands]; decide)]

theorem boundPlan_bound {s : State} {a : NodeId} {p : PlanId} (h : (s.plan.nodes[a]).binding = some (.bound p)) :
    boundPlan s a = some p := by
  unfold boundPlan
  rw [h]

/-- A report of a bound node stands (R71). -/
theorem reportStale_bound {s : State} {a : NodeId} {r : Report} {p : PlanId}
    (h : (s.plan.nodes[a]).binding = some (.bound p)) : reportStale s { node := a, report := r, plan := some p } = false := by
  simp only [reportStale, h]
  exact decide_eq_false (fun stale => stale rfl)

/-! ## The enumeration slot (R72, R73, R74) -/

theorem find?_finRange_some {n : Nat} {p : Fin n → Bool} {a : Fin n} (h : (List.finRange n).find? p = some a) :
    p a = true ∧ ∀ b, b < a → p b = false := by
  obtain ⟨holds, before, after, split, none_⟩ := List.find?_eq_some_iff_append.1 h
  refine ⟨holds, fun b hb => ?_⟩
  have sorted := List.pairwise_lt_finRange n
  have member := List.mem_finRange b
  rw [split] at sorted member
  obtain ⟨-, tail, -⟩ := List.pairwise_append.1 sorted
  rcases List.mem_append.1 member with early | late
  · simpa using none_ b early
  · rcases List.mem_cons.1 late with rfl | behind
    · exact absurd hb (lt_irrefl _)
    · exact absurd (hb.trans ((List.pairwise_cons.1 tail).1 b behind)) (lt_irrefl _)

theorem find?_finRange_none {n : Nat} {p : Fin n → Bool} (h : (List.finRange n).find? p = none) (a : Fin n) : p a = false := by
  simpa using List.find?_eq_none.1 h a (List.mem_finRange a)

/-- A FREE entry that holds no serial. -/
def NodeEntry.blank (n : NodeEntry) : Prop := n.state = .free ∧ n.serial = none

theorem NodeEntry.blank_iff (n : NodeEntry) : (n.state == .free && n.serial.isNone) = true ↔ n.blank := by
  rw [Bool.and_eq_true, beq_iff_eq, Option.isNone_iff_eq_none]
  exact Iff.rfl

/-- The three lines of R73: the entry that holds the serial, a FREE entry without one, a FREE entry that remembers another. -/
theorem chooseEntry_some {s : State} {x : Serial} {a : NodeId} (h : chooseEntry s x = some a) :
    ((s.bus.nodes[a]).serial = some x ∧ ∀ b : NodeId, b < a → (s.bus.nodes[b]).serial ≠ some x)
      ∨ ((∀ b : NodeId, (s.bus.nodes[b]).serial ≠ some x) ∧ (s.bus.nodes[a]).blank
        ∧ ∀ b : NodeId, b < a → ¬ (s.bus.nodes[b]).blank)
      ∨ ((∀ b : NodeId, (s.bus.nodes[b]).serial ≠ some x) ∧ (∀ b : NodeId, ¬ (s.bus.nodes[b]).blank)
        ∧ (s.bus.nodes[a]).state = .free ∧ ∀ b : NodeId, b < a → (s.bus.nodes[b]).state ≠ .free) := by
  unfold chooseEntry at h
  dsimp only at h
  rcases holder : (List.finRange 32).find? (fun a => (s.bus.nodes[a]).serial == some x) with _ | k
  · have unheld : ∀ b : NodeId, (s.bus.nodes[b]).serial ≠ some x := fun b =>
      beq_eq_false_iff_ne.1 (find?_finRange_none holder b)
    rcases blank : (List.finRange 32).find? (fun a => (s.bus.nodes[a]).state == .free && (s.bus.nodes[a]).serial.isNone)
      with _ | k
    · have taken : ∀ b : NodeId, ¬ (s.bus.nodes[b]).blank := fun b =>
        mt (s.bus.nodes[b]).blank_iff.2 (Bool.eq_false_iff.1 (find?_finRange_none blank b))
      rw [holder, blank, Option.none_or, Option.none_or] at h
      obtain ⟨free, lowest⟩ := find?_finRange_some h
      refine .inr (.inr ⟨unheld, taken, by simp_all, fun b hb isFree => ?_⟩)
      have remembers : (s.bus.nodes[b]).serial.isSome = true := by
        rw [Option.isSome_iff_ne_none]
        exact fun none_ => taken b ⟨isFree, none_⟩
      have := lowest b hb
      simp only [isFree, remembers] at this
      exact absurd this (by decide)
    · rw [holder, blank, Option.none_or, Option.some_or] at h
      cases h
      obtain ⟨chosen, lowest⟩ := find?_finRange_some blank
      exact .inr (.inl ⟨unheld, (s.bus.nodes[a]).blank_iff.1 chosen,
        fun b hb => mt (s.bus.nodes[b]).blank_iff.2 (Bool.eq_false_iff.1 (lowest b hb))⟩)
  · rw [holder, Option.some_or, Option.some_or] at h
    cases h
    obtain ⟨holds, lowest⟩ := find?_finRange_some holder
    exact .inl ⟨by simpa using holds, fun b hb => beq_eq_false_iff_ne.1 (lowest b hb)⟩

theorem chooseEntry_none_iff (s : State) (x : Serial) :
    chooseEntry s x = none ↔ ∀ a : NodeId, (s.bus.nodes[a]).serial ≠ some x ∧ (s.bus.nodes[a]).state ≠ .free := by
  unfold chooseEntry
  simp only [Option.or_eq_none_iff, List.find?_eq_none, List.mem_finRange, true_imp_iff, Bool.and_eq_true, beq_iff_eq,
    Option.isNone_iff_eq_none, Option.isSome_iff_ne_none]
  constructor
  · rintro ⟨⟨unheld, blank⟩, remembers⟩ a
    refine ⟨unheld a, fun free => ?_⟩
    by_cases none_ : (s.bus.nodes[a]).serial = none
    · exact blank a ⟨free, none_⟩
    · exact remembers a ⟨free, none_⟩
  · intro h
    exact ⟨⟨fun a => (h a).1, fun a free => (h a).2 free.1⟩, fun a free => (h a).2 free.1⟩

theorem slotRead_assigns {s : State} {x : Serial} {a : NodeId} (hx : s.bus.scan.exchange = some .enumerate)
    (named : x ≠ Serial.none) (fresh_ : s.bus.enum.failed.count x < 2) (chosen : chooseEntry s x = some a) :
    slotRead x s = modScan (fun c => { c with exchange := some (.assign a x ((s.bus.nodes[a]).state == .free)) })
      (sendAssign x (busAddress a) (closeExchange s)) := by
  unfold slotRead
  rw [if_neg (not_not.2 hx)]
  dsimp only
  rw [if_neg named, if_neg (show ¬ 2 ≤ (closeExchange s).bus.enum.failed.count x from Nat.not_le.2 fresh_),
    show chooseEntry (closeExchange s) x = some a from chosen]
  rfl

theorem slotRead_ends {s : State} (hx : s.bus.scan.exchange = some .enumerate) :
    slotRead Serial.none s = endCycle (endRound (closeExchange s)) := by
  unfold slotRead
  rw [if_neg (not_not.2 hx)]
  exact if_pos rfl

/-! ## Pass-through commands answered (R65, R207) -/

/-- The body of the PASS RESULT that an answer brings (R207). -/
def Outcome.passBody : Outcome → Bytes
  | .ack => [2]
  | .nak reason => [3, reason]
  | .reply payload => 1 :: u8 payload.length ++ payload

theorem tellAnswered_pass {c : Command} {e : PassEntry} (h : c.origin = .pass e) (o : Outcome) (s : State) :
    tellAnswered c o s = passOutcome e o.passBody s := by
  unfold tellAnswered
  rw [h]
  cases o <;> rfl

theorem mirrorAttention_eq (a : NodeId) (f : CommandFrame) (o : Outcome) (s : State) :
    ∃ g, mirrorAttention a f o s = modNode a g s := by
  unfold mirrorAttention
  split
  · exact ⟨_, rfl⟩
  · exact ⟨_, rfl⟩
  · refine ⟨id, ?_⟩
    show s = { s with bus := { s.bus with nodes := alter s.bus.nodes a id } }
    rw [alter_fixed s.bus.nodes a (f := id) rfl]

/-- The command of the open exchange stands at the head of the queue and leaves it with its answer. -/
theorem commandAnswered_head {c : Command} {rest : List Command} {o : Outcome} {s : State} (hq : s.bus.queue = c :: rest)
    (sent : c.sent = true) (held : s.bus.heldResets = []) :
    commandAnswered o s = tellAnswered c o (modBus (fun x => { x with queue := rest }) s) := by
  have first : s.bus.queue.find? (fun c => c.sent) = some c := by rw [hq, List.find?_cons_of_pos sent]
  have leaves : modBus (fun x => placeHeld 1 { x with queue := x.queue.erase c }) s
      = modBus (fun x => { x with queue := rest }) s := by
    unfold modBus placeHeld
    simp only [hq, held, List.erase_cons_head, List.take_nil, List.map_nil, List.append_nil, List.drop_nil]
  unfold commandAnswered
  rw [first]
  dsimp only
  rw [leaves]

theorem runCommands_full {n : Nat} {s : State} (h : Config.commandsPerCycle ≤ n) : runCommands n s = openWindow 0 s :=
  if_pos h

/-- The fourth command of a cycle, a pass-through one, answered: its outcome goes to the office and the first window opens. -/
theorem exchangeGood_pass {s : State} {a : NodeId} {c : Command} {rest : List Command} {e : PassEntry} (ans : Answer)
    (ha : (s.bus.nodes[a]).state = .active) (hq : s.bus.queue = c :: rest) (sent : c.sent = true) (ho : c.origin = .pass e)
    (hp : s.bus.scan.part = some (.commands 3)) (held : s.bus.heldResets = []) :
    ∃ u, exchangeGood (.command a c.frame) ans s = openWindow 0 (passOutcome e ans.outcome.passBody u)
      ∧ u.bus.queue = rest ∧ u.port = s.port := by
  set u := modNode a (fun n => { n with misses := 0 }) (closeExchange s) with hu
  obtain ⟨g, mirrored⟩ := mirrorAttention_eq a c.frame ans.outcome u
  refine ⟨modBus (fun x => { x with queue := rest }) (modNode a g u), ?_, rfl, rfl⟩
  have done : commandsDone (closeExchange s) = 3 := by
    unfold commandsDone
    rw [show (closeExchange s).bus.scan.part = some (.commands 3) from hp]
  unfold exchangeGood
  dsimp only
  rw [countGood_active (s := closeExchange s) ha, ← hu, mirrored, done, commandAnswered_head (s := modNode a g u) hq sent held,
    tellAnswered_pass ho]
  exact runCommands_full le_rfl

/-- What is left of the queue, the list and the transmitter as a pass-through command's outcome is told. -/
theorem passOutcome_window {s : State} (e : PassEntry) (body : Bytes) :
    (openWindow 0 (passOutcome e body s)).bus.queue = s.bus.queue
      ∧ (openWindow 0 (passOutcome e body s)).port.pass = s.port.pass.erase e
      ∧ (openWindow 0 (passOutcome e body s)).bus.scan.exchange = some .attentionCall
      ∧ (s.port.up = true → .passResult e.tag body ∈ outgoing (openWindow 0 (passOutcome e body s)).port) := by
  set left := modPort (fun p => { p with pass := s.port.pass.erase e }) s with hl
  have told : passOutcome e body s = makeReady (.passResult e.tag body) left := rfl
  have rest := makeReady_rest (.passResult e.tag body) left
  refine ⟨?_, ?_, rfl, fun up => ?_⟩
  · show (passOutcome e body s).bus.queue = _
    rw [told, rest]
    rfl
  · show (passOutcome e body s).port.pass = _
    rw [told, rest]
    rfl
  · show _ ∈ outgoing (passOutcome e body s).port
    rw [told]
    exact makeReady_mem up

/-! ## The ladder's first step (R59) -/

theorem queueReset_room {a : NodeId} {level : Nat} {s : State} (room : s.bus.queue.length < 16) :
    queueReset a level s = modBus (fun x => { x with
      queue := x.queue ++ [{ node := a, frame := .nodeReset level, origin := .controller, sent := false }] }) s := by
  unfold queueReset modBus
  exact congrArg (fun x => { s with bus := x }) (if_pos room)

theorem level1Expiry_running {a : NodeId} {n : Nat} {s : State} (h : (s.bus.nodes[a]).ladder = some (.level1 n)) :
    level1Expiry a s = queueReset a 2 (modNode a (fun n => { n with ladder := some (.level2 none) }) s) := by
  unfold level1Expiry
  rw [h]

theorem level2Expiry_running {a : NodeId} {n : Nat} {s : State} (h : (s.bus.nodes[a]).ladder = some (.level2 (some n))) :
    level2Expiry a s = reportChange a .silent (modNode a (fun n => { n with state := .lost, ladder := none }) s) := by
  unfold level2Expiry
  rw [h]

end Sys2Proof.Machine

namespace Sys2Proof.Certificates
open Sys2Proof.Machine

/-- Settles O19: whatever the answer, the command has left and its outcome is told. -/
theorem commandAnswersReachThePassThrough : Obligations.CommandAnswersReachThePassThrough := by
  unfold Obligations.CommandAnswersReachThePassThrough
  intro s f a c rest e hopen ha hq sent ho hp held
  obtain ⟨hpow, hx, hentry⟩ := hopen
  have told : ∀ (kind : Byte) (ans : Answer), judgeAnswer s (.command a c.frame) a kind f = .ok ans →
      ∃ t, act (answerArrives kind f) s = .next t ∧ t.bus.queue = rest ∧ t.port.pass = s.port.pass.erase e
        ∧ t.bus.scan.exchange = some .attentionCall
        ∧ (s.port.up = true → .passResult e.tag ans.outcome.passBody ∈ outgoing t.port) := by
    intro kind ans hj
    obtain ⟨u, run, queue, port⟩ := exchangeGood_pass (s := fresh s) ans ha hq sent ho hp held
    obtain ⟨queue', pass, window, owed⟩ := passOutcome_window (s := u) e ans.outcome.passBody
    have port' : u.port = s.port := port
    rw [port'] at pass owed
    exact ⟨_, (act_of_powered hpow).trans (congrArg _ ((answerArrives_good (s := fresh s) hx hentry hj).trans run)),
      queue'.trans queue, pass, window, owed⟩
  exact ⟨told 0x45 .ack, fun reason => told 0x46 (.nak reason), fun payload => told 0x47 (.reply payload)⟩

/-- Settles O22: the four values of the field, each followed to the frame it is answered with. -/
theorem attentionWindowActs : Obligations.AttentionWindowActs := by
  unfold Obligations.AttentionWindowActs
  refine ⟨fun s a n hpow hx hp called => ?_, fun s a n hpow hx hp hn stray => ?_, fun s n hpow hx hp hn hr hh => ?_,
    fun s hpow hx hr due => ?_⟩ <;> refine (act_of_powered hpow).trans (congrArg _ ?_)
  · rw [(windowRead_address (s := fresh s) hx).1 called _ hp, openExchange, ← hp]
    rfl
  · rw [(windowRead_address (s := fresh s) hx).2 stray,
      nextWindow_opens (s := sendBus (a.val + 1) 0x0B [2] (closeExchange (fresh s))) hp hn, openWindow, openExchange, ← hx]
    rfl
  · rw [windowRead_join (s := fresh s) hx, joinRequest_starts (s := sendBus 0 0x07 [] (closeExchange (fresh s))) hr hh,
      nextWindow_opens (s := modEnum _ (sendBus 0 0x07 [] (closeExchange (fresh s)))) hp hn, openWindow, openExchange, ← hx]
    rfl
  · rw [windowRead_silence (s := fresh s) hx, slotPart_noRound (s := closeExchange (fresh s)) hr,
      endCycle_idle (s := closeExchange (fresh s)) due]
    rfl

/-- Settles O23: the report is counted and taken, and the next window opens. -/
theorem reportIsAnsweredAndQueued : Obligations.ReportIsAnsweredAndQueued := by
  unfold Obligations.ReportIsAnsweredAndQueued
  intro s kind f a r n hopen hp hn hj ha
  obtain ⟨hpow, hx, hentry⟩ := hopen
  set u := modNode a (fun n => { n with misses := 0 }) (closeExchange (fresh s)) with hu
  have part : u.bus.scan.part = some (.attention n) := hp
  have attention : (u.bus.nodes[a]).attention = (s.bus.nodes[a]).attention := by simp [hu, closeExchange]
  have run : exec (.report kind f) s = .next (nextWindow (takeReport a r u)) := by
    refine (act_of_powered hpow).trans (congrArg _ ((answerArrives_good (s := fresh s) hx hentry hj).trans ?_))
    unfold exchangeGood
    dsimp only
    rw [countGood_active (s := closeExchange (fresh s)) ha]
  refine ⟨fun off => ?_, fun on full => ?_, fun p on room bound stands => ?_⟩
  · rw [run, takeReport_discards (attention.trans off), nextWindow_opens (s := sendBus (a.val + 1) 0x05 [] u) part hn]
    exact ⟨_, rfl, rfl, rfl⟩
  · rw [run, takeReport_busy (attention.trans on) full, nextWindow_opens (s := sendBus (a.val + 1) 0x06 [] u) part hn]
    exact ⟨_, rfl, rfl, rfl⟩
  · set w := modBus (fun x => { x with reports := x.reports ++ [{ node := a, report := r, plan := some p }] }) u with hw
    rw [run, takeReport_queues (attention.trans on) room, boundPlan_bound (s := u) bound, ← hw,
      nextWindow_opens (s := sendBus (a.val + 1) 0x05 [] (settleReports w)) part hn]
    refine ⟨_, rfl, settleReports_stands (s := w) (fun q hq => ?_), rfl⟩
    have reports : w.bus.reports = s.bus.reports ++ [{ node := a, report := r, plan := some p }] := rfl
    rw [reports] at hq
    cases hs : s.bus.reports with
    | nil =>
      rw [hs] at hq
      cases hq
      exact reportStale_bound (s := w) bound
    | cons head rest =>
      rw [hs] at hq
      cases hq
      exact stands q (by rw [hs]; rfl)

/-- Settles O24: the slot's field read, the entry chosen by the three lines of R73, and the DESCRIPTOR that does not come. -/
theorem slotAssignsOrEndsTheRound : Obligations.SlotAssignsOrEndsTheRound := by
  unfold Obligations.SlotAssignsOrEndsTheRound
  refine ⟨fun s x a hpow hx named few chosen => ?_, fun s hpow hx due gave => ?_, fun s hpow hx due gave => ?_,
    fun s x => ⟨fun a chosen => ?_, chooseEntry_none_iff s x⟩, fun s a x wasFree hpow hx due counts => ?_⟩
  · refine (act_of_powered hpow).trans (congrArg _ ?_)
    rw [slotRead_assigns (s := fresh s) hx named few chosen]
    rfl
  · refine (act_of_powered hpow).trans (congrArg _ ?_)
    rw [slotRead_ends (s := fresh s) hx, endCycle_idle (s := endRound (closeExchange (fresh s))) due]
    simp only [endRound, modEnum, modScan, closeExchange, fresh, gave]
    rfl
  · refine (act_of_powered hpow).trans (congrArg _ ?_)
    rw [slotRead_ends (s := fresh s) hx, endCycle_idle (s := endRound (closeExchange (fresh s))) due]
    simp only [endRound, modEnum, modScan, closeExchange, fresh, gave]
    rfl
  · rcases chooseEntry_some chosen with holder | ⟨unheld, ⟨free, unnamed⟩, lowest⟩ | remembering
    · exact .inl holder
    · exact .inr (.inl ⟨unheld, free, unnamed, lowest⟩)
    · exact .inr (.inr remembering)
  · refine (act_of_powered hpow).trans (congrArg _ ((noAnswer_failed (s := fresh s) hx rfl).trans ?_))
    unfold exchangeFailed slotFailed
    dsimp only
    cases wasFree with
    | true =>
      rw [if_pos rfl, endCycle_idle (by exact due)]
      rfl
    | false =>
      have silent : (s.bus.nodes[a]).state ≠ .active := counts.resolve_left Bool.false_ne_true
      rw [if_neg Bool.false_ne_true, countError_raises (s := closeExchange (fresh s)) (.inl silent),
        endCycle_idle (by exact due)]
      rfl

end Sys2Proof.Certificates

namespace Sys2Proof.Machine

/-! ## What the owners' work leaves of the lane bus -/

/-- A property of states that judging, deriving, telling the owners and the bridge samples keep. It asks for less than `PartOps`
and `SampleOps`, which a frame of the bus does not meet: this work changes no node's binding, and of the bus only the command
queue. -/
structure DeriveOps (P : State → Prop) : Prop extends WorkOps P where
  engine : ∀ {b f s}, P s → P (modEngine b f s)
  session : ∀ {f s}, P s → P (modSession f s)
  judge : ∀ {b s}, P s → P (judge b s)
  planNode : ∀ {a f s}, (∀ x : PlanNode, (f x).binding = x.binding) → P s → P (modPlanNode a f s)
  role : ∀ {x r s}, P s → P (setRole x r s)
  ready : ∀ {f s}, P s → P (makeReady f s)
  passLeaves : ∀ {left s}, P s → P (modPort (fun p => { p with pass := left }) s)

namespace DeriveOps
variable {P : State → Prop} {s : State} (h : DeriveOps P)
include h

/-! ### Bridges and owners (R23, R89) -/

theorem deriveBridge {b} (hs : P s) : P (deriveBridge b s) := by
  unfold Machine.deriveBridge
  dsimp only
  split
  · exact hs
  · exact h.bridgeStateTold (h.record (h.engine hs))

theorem tellCell {b p old new} (hs : P s) : P (tellCell b p old new s) := by
  refine h.deriveBridge (h.judge ?_)
  split
  · exact h.engine hs
  · exact hs

theorem tellBeams {b old new} (hs : P s) : P (tellBeams b old new s) := by
  refine h.grantTest (h.pauseUpdate (h.deriveBridge ?_))
  split
  · exact h.beamsUnknown hs
  · exact hs

theorem tellStation {l e old new} (hs : P s) : P (tellStation l e old new s) := by
  have unknown : P (unknownStation l e s) := h.station hs
  unfold Machine.tellStation
  dsimp only
  split
  · split
    · exact unknown
    · exact h.stationEmptied hs
  · by_cases renewed : otherNode old new = true <;> simp only [renewed, if_true, if_false, Bool.false_eq_true] <;> split
    · exact h.stationOffers unknown
    · exact h.stationFilled unknown
    · exact hs
    · exact h.stationFilled hs
  · split
    · exact unknown
    · exact hs

theorem tellTerminal {l old new} (hs : P s) : P (tellTerminal l old new s) := by
  unfold Machine.tellTerminal
  split
  · exact h.showState hs
  · exact hs

theorem tellPrinter {l old new} (hs : P s) : P (tellPrinter l old new s) := by
  unfold Machine.tellPrinter
  split
  · split
    · exact hs
    · exact h.printerEmptied hs
  · split
    · exact h.printerChanged hs
    · exact h.startHead hs

theorem tellOwners {x old new} (hs : P s) : P (tellOwners x old new s) := by
  cases x with
  | cell b p => exact h.tellCell hs
  | beams b => exact h.tellBeams hs
  | station l e => exact h.tellStation hs
  | terminal l => exact h.tellTerminal hs
  | printer l => exact h.tellPrinter hs

/-! ### The site plan (R83, R86) and the originators of commands (R66) -/

theorem compareAttention {a} (hs : P s) : P (compareAttention a s) := by
  unfold Machine.compareAttention
  dsimp only
  split
  · exact hs
  · split
    · exact h.planNode (fun _ => rfl) hs
    · split
      · exact hs
      · have offers := h.offer (a := a) (f := if attentionWanted s a then .attentionOn else .attentionOff) (o := .plan)
          (by split <;> rfl) hs
        split <;> rename_i offered <;> rw [offered] at offers <;> exact h.planNode (fun _ => rfl) offers

theorem deriveRoles {places} (hs : P s) : P (deriveRoles places s) := by
  unfold Machine.deriveRoles
  extract_lets changed t
  have set : P t := LaneOps.foldl (fun _ _ hu => h.role hu) _ hs
  exact LaneOps.foldl (fun _ _ hu => h.tellOwners hu) _ set

theorem recordMisfit {a p} (hs : P s) : P (recordMisfit a p s) := by
  unfold Machine.recordMisfit
  dsimp only
  split
  · exact h.record hs
  · exact hs

/-- Once the binding itself has been set, the rest of its derivation keeps the property. -/
theorem deriveBinding {a extra} (bound : P (modPlanNode a (fun x => { x with binding := bindingNow s a }) s)) :
    P (deriveBinding a extra s) := by
  unfold Machine.deriveBinding
  extract_lets former new s1 s2 s3
  have set : P s1 := bound
  have recorded : P s2 := by
    unfold s2
    clear_value s1 new
    split
    · split
      · exact set
      · exact h.recordMisfit set
    · exact set
  exact h.deriveRoles (h.compareAttention recorded)

theorem tellUndelivered {c} (hs : P s) : P (tellUndelivered c s) := by
  unfold Machine.tellUndelivered
  split
  · exact hs
  · exact hs
  · exact hs
  · exact h.planNode (fun _ => rfl) hs
  · exact h.stationUndelivered hs
  · exact h.printFail hs
  · exact h.ready (h.passLeaves hs)

/-! ### Bridge samples (R4) -/

theorem endStep {r} (hs : P s) : P (endStep r s) := by
  unfold Machine.endStep
  split
  · exact h.ready (h.session hs)
  · exact hs

theorem stepReading {b w} (hs : P s) : P (stepReading b w s) := by
  unfold Machine.stepReading
  split
  · exact hs
  · split
    · exact hs
    · split
      · exact h.deriveBridge (h.endStep (h.engine (h.session hs)))
      · exact h.endStep (h.session hs)
      · split
        · exact h.endStep hs
        · exact h.deriveBridge (h.endStep (h.engine (h.engine (h.session hs))))

theorem stepTest {b} (hs : P s) : P (stepTest b s) := by
  unfold Machine.stepTest
  dsimp only
  split
  · split
    · exact h.stepReading hs
    · exact hs
  · exact hs

theorem captureTest {b d} (hs : P s) : P (captureTest b d s) := by
  unfold Machine.captureTest
  dsimp only
  split
  · split
    · exact h.deliverCapture (h.engine hs)
    · exact hs
  · exact hs

theorem establishZero {b d} (hs : P s) : P (establishZero b d s) := by
  unfold Machine.establishZero
  dsimp only
  split_ifs
  · exact h.engine hs
  · exact hs
  · exact h.record (h.engine hs)
  · exact hs
  · exact h.engine hs

theorem bridgeSample {b} (hs : P s) : P (bridgeSample b s) := by
  unfold Machine.bridgeSample
  refine h.sampleReport ?_
  split
  · exact h.captureTest (h.stepTest (h.deriveBridge (h.engine (h.establishZero (h.engine hs)))))
  · exact h.engine hs

theorem endCellPolls {s} (hs : P s) : P (endCellPolls s) :=
  LaneOps.foldl (fun _ _ hu => h.bridgeSample hu) _ (LaneOps.foldl (fun _ _ hu => h.engine hu) _ hs)

theorem setMissed {s} (hs : P s) : P (setMissed s) := LaneOps.foldl (fun _ _ hu => h.engine hu) _ hs

end DeriveOps

/-! ## The line's own state -/

/-- A command that an offer leaves in the queue was there, is a NODE RESET or goes to an ACTIVE entry (R63). -/
theorem mem_offer {a : NodeId} {f : CommandFrame} {o : Origin} {s : State} {c : Command}
    (h : c ∈ (offer a f o s).1.bus.queue) :
    c ∈ s.bus.queue ∨ c.frame.isReset = true ∨ (s.bus.nodes[c.node]).state = .active := by
  by_cases may : f.mayGo (s.bus.nodes[a])
  · have fresh : ∀ d : Command, d = offered a f o → d.frame.isReset = true ∨ (s.bus.nodes[d.node]).state = .active := by
      rintro d rfl
      exact may.symm
    rw [offer_mayGo may] at h
    split_ifs at h
    · exact .inl h
    · exact .inl h
    · obtain ⟨resets, queue, -⟩ := placeDriveOff_queue (offered a f o) s
      rw [queue, List.mem_append, mem_insertDriveOff] at h
      rcases h with (new | waiting) | held
      · exact .inr (fresh c new)
      · exact .inl (mem_of_mem_driveOffRoom waiting).1
      · obtain ⟨r, -, rfl⟩ := List.mem_map.1 held
        exact .inr (.inl rfl)
    · exact .inl h
    · rcases List.mem_append.1 h with queued | new
      · exact .inl queued
      · exact .inr (fresh c (List.mem_singleton.1 new))
  · obtain ⟨inactive, noReset⟩ := not_or.1 may
    rw [offer_notActive inactive (Bool.not_eq_true _ ▸ noReset)] at h
    exact .inl h

/-- What the owners' work leaves of the lane bus: all but the command queue, which takes NODE RESETs and commands for ACTIVE
entries. The frames sent and the bindings stand, and the records queued stay queued. -/
structure LineFrame (s t : State) : Prop where
  bus : t.bus = { s.bus with queue := t.bus.queue, heldResets := t.bus.heldResets }
  sent : t.sentFrames = s.sentFrames
  binding : ∀ a : NodeId, (t.plan.nodes[a]).binding = (s.plan.nodes[a]).binding
  records : ∀ r ∈ s.port.records, r ∈ t.port.records
  queue : ∀ c ∈ t.bus.queue, c ∈ s.bus.queue ∨ c.frame.isReset = true ∨ (s.bus.nodes[c.node]).state = .active

namespace LineFrame
variable {s t u : State}

theorem nodes (h : LineFrame s t) : t.bus.nodes = s.bus.nodes := by rw [h.bus]

theorem scan (h : LineFrame s t) : t.bus.scan = s.bus.scan := by rw [h.bus]

theorem enum (h : LineFrame s t) : t.bus.enum = s.bus.enum := by rw [h.bus]

/-- A change of blocks other than the bus and the plan's bindings. -/
theorem of_eq (bus : t.bus = s.bus) (sent : t.sentFrames = s.sentFrames)
    (binding : ∀ a : NodeId, (t.plan.nodes[a]).binding = (s.plan.nodes[a]).binding)
    (records : t.port.records = s.port.records) : LineFrame s t :=
  ⟨by rw [bus], sent, binding, fun r hr => by rw [records]; exact hr, fun c hc => .inl (bus ▸ hc)⟩

theorem refl (s : State) : LineFrame s s := .of_eq rfl rfl (fun _ => rfl) rfl

theorem trans (h : LineFrame s t) (k : LineFrame t u) : LineFrame s u where
  bus := by rw [k.bus, h.bus]
  sent := k.sent.trans h.sent
  binding a := (k.binding a).trans (h.binding a)
  records r hr := k.records r (h.records r hr)
  queue c hc := by
    rcases k.queue c hc with old | reset | active
    · exact h.queue c old
    · exact .inr (.inl reset)
    · exact .inr (.inr (h.nodes ▸ active))

theorem offered (a : NodeId) (f : CommandFrame) (o : Origin) (s : State) : LineFrame s (offer a f o s).1 := by
  have frame := offer_frame a f o s
  exact ⟨frame.bus, frame.sentFrames, frame.binding, fun r hr => by rw [frame.port]; exact hr, fun c hc => mem_offer hc⟩

theorem recorded (k : RecordFrame s t) (records : ∀ r ∈ s.port.records, r ∈ t.port.records) : LineFrame s t :=
  ⟨by rw [k.rest], by rw [k.rest], fun a => by rw [k.rest], records, fun c hc => .inl (by rw [k.rest] at hc; exact hc)⟩

theorem ready (f : OutFrame) (s : State) : LineFrame s (makeReady f s) := by
  rw [makeReady_rest]
  exact .of_eq rfl rfl (fun _ => rfl) rfl

theorem queueRecord (body : RecordBody) (s : State) : LineFrame s (queueRecord body s) :=
  .recorded (queueRecord_spec body s).1 (fun _ => mem_queueRecord)

theorem takeClaims (k : Nat) (s : State) : LineFrame s (takeClaims k s) := by
  unfold Machine.takeClaims
  split
  · exact .of_eq rfl rfl (fun _ => rfl) rfl
  · exact .refl s

theorem spendClaim (body : RecordBody) (s : State) : LineFrame s (spendClaim body s) := by
  by_cases claimed : 1 ≤ s.port.claims
  · obtain ⟨frame, -, records⟩ := spendClaim_spec body s claimed
    exact .recorded frame (fun r hr => by rw [records]; exact List.mem_append_left _ hr)
  · unfold Machine.spendClaim
    rw [if_neg claimed]
    exact .queueRecord body s

theorem modPlanNode {a : NodeId} {f : PlanNode → PlanNode} (s : State) (hf : ∀ x : PlanNode, (f x).binding = x.binding) :
    LineFrame s (modPlanNode a f s) := by
  refine .of_eq rfl rfl (fun k => ?_) rfl
  simp only [Machine.modPlanNode, Fin.getElem_fin, getElem_alter]
  split
  · rename_i same
    subst same
    exact hf _
  · rfl

theorem setRole (x : Attach) (r : Role) (s : State) : LineFrame s (setRole x r s) := .of_eq rfl rfl (fun _ => rfl) rfl

/-- The owners' work keeps the frame. -/
theorem ops (s : State) : DeriveOps (LineFrame s) where
  capture _ h := h.trans (.of_eq rfl rfl (fun _ => rfl) rfl)
  lane _ h := h.trans (.of_eq rfl rfl (fun _ => rfl) rfl)
  station h := h.trans (.of_eq rfl rfl (fun _ => rfl) rfl)
  bridge h := h.trans (.of_eq rfl rfl (fun _ => rfl) rfl)
  offer _ h := h.trans (.offered _ _ _ _)
  record h := h.trans (.queueRecord _ _)
  account h := h.trans (.of_eq rfl rfl (fun _ => rfl) rfl)
  refBank h := h.trans (.of_eq rfl rfl (fun _ => rfl) rfl)
  unrefBank h := h.trans (.of_eq rfl rfl (fun _ => rfl) rfl)
  visit _ h := h.trans (.of_eq rfl rfl (fun _ => rfl) rfl)
  removeVisit h := h.trans (.of_eq rfl rfl (fun _ => rfl) rfl)
  nextVisit h := h.trans (.of_eq rfl rfl (fun _ => rfl) rfl)
  visitOpens _ h := h.trans (.of_eq rfl rfl (fun _ => rfl) rfl)
  takeClaims h := h.trans (.takeClaims _ _)
  releaseClaims h := h.trans (.of_eq rfl rfl (fun _ => rfl) rfl)
  spendClaim h := h.trans (.spendClaim _ _)
  printer _ h := h.trans (.of_eq rfl rfl (fun _ => rfl) rfl)
  ticketJoins _ h := h.trans (.of_eq rfl rfl (fun _ => rfl) rfl)
  tickets _ h := h.trans (.of_eq rfl rfl (fun _ => rfl) rfl)
  ticketWrite {k u} h := by
    rcases askWriteBehindReset_cases (.ticket k) u with ⟨-, -, hq⟩ | ⟨-, hq⟩ <;> rw [hq] <;>
      exact h.trans (.of_eq rfl rfl (fun _ => rfl) rfl)
  engine h := h.trans (.of_eq rfl rfl (fun _ => rfl) rfl)
  session h := h.trans (.of_eq rfl rfl (fun _ => rfl) rfl)
  judge {b u} h := by
    obtain ⟨r, hr⟩ := judge_eq b u
    rw [hr]
    exact h.trans (.of_eq rfl rfl (fun _ => rfl) rfl)
  planNode hf h := h.trans (.modPlanNode _ hf)
  role h := h.trans (.setRole _ _ _)
  ready h := h.trans (.ready _ _)
  passLeaves h := h.trans (.of_eq rfl rfl (fun _ => rfl) rfl)

end LineFrame

/-- A binding derived: the binding itself is set, and the line stands (R83). -/
theorem deriveBinding_line (a : NodeId) (extra : List Attach) (s : State) :
    LineFrame (modPlanNode a (fun x => { x with binding := bindingNow s a }) s) (deriveBinding a extra s) :=
  (LineFrame.ops _).deriveBinding (.refl _)

/-- The NODE_STATE record of a change of an entry's state (R62). -/
def changeBody (a : NodeId) (former : NodeState) (s : State) : RecordBody :=
  let n := s.bus.nodes[a]
  .nodeState a n.serialNow n.kindNow former n.state (.change n.errors)

/-- A change of an entry's state reported: the line stands, the binding is derived and the record, with room, is queued. -/
theorem reportChange_spec (a : NodeId) (former : NodeState) (s : State) :
    (reportChange a former s).bus = { s.bus with
        queue := (reportChange a former s).bus.queue, heldResets := (reportChange a former s).bus.heldResets }
      ∧ ((reportChange a former s).plan.nodes[a]).binding = bindingNow s a
      ∧ (1 ≤ unclaimedFree s → ∃ r ∈ (reportChange a former s).port.records, r.body = changeBody a former s)
      ∧ ∀ c ∈ (reportChange a former s).bus.queue,
          c ∈ s.bus.queue ∨ c.frame.isReset = true ∨ (s.bus.nodes[c.node]).state = .active := by
  obtain ⟨recorded, -, records, -⟩ := queueRecord_spec (changeBody a former s) s
  have frame := deriveBinding_line a [] (queueRecord (changeBody a former s) s)
  have bus : (queueRecord (changeBody a former s) s).bus = s.bus := by rw [recorded.rest]
  have binding : bindingNow (queueRecord (changeBody a former s) s) a = bindingNow s a := by rw [recorded.rest]; rfl
  refine ⟨?_, ?_, fun room =>
    ⟨{ number := s.port.nextRecord, time := stamp s, body := changeBody a former s }, frame.records _ ?_, rfl⟩, fun c hc => ?_⟩
  · exact frame.bus.trans (by rw [modPlanNode_bus, bus]; rfl)
  · exact (frame.binding a).trans (by simp [modPlanNode, binding])
  · exact records room ▸ List.mem_append_right _ (List.mem_singleton_self _)
  · rw [← bus]
    exact frame.queue c hc

/-! ## The third miss (R59) -/

/-- No command for an entry is queued but NODE RESETs. -/
def OnlyResetsFor (a : NodeId) (s : State) : Prop := ∀ c ∈ s.bus.queue, c.node = a → c.frame.isReset = true

theorem OnlyResetsFor.kept {a : NodeId} {s t : State} (h : OnlyResetsFor a s) (silent : (s.bus.nodes[a]).state ≠ .active)
    (queue : ∀ c ∈ t.bus.queue, c ∈ s.bus.queue ∨ c.frame.isReset = true ∨ (s.bus.nodes[c.node]).state = .active) :
    OnlyResetsFor a t := by
  rintro c hc rfl
  rcases queue c hc with old | reset | active
  · exact h c old rfl
  · exact reset
  · exact absurd active silent

/-- Once an entry's commands have left the queue none but NODE RESETs come in for those held. -/
theorem onlyResetsFor_removeCommands (a : NodeId) (s : State) :
    OnlyResetsFor a (removeCommands (fun c => c.node == a && !c.frame.isReset) s) := by
  intro c hc node
  rcases List.mem_append.1 hc with kept | held
  · have stays := (List.mem_filter.1 kept).2
    simpa [node] using stays
  · obtain ⟨r, -, rfl⟩ := List.mem_map.1 held
    rfl

theorem queueReset_spec (a : NodeId) (level : Nat) (s : State) : (queueReset a level s).bus.nodes = s.bus.nodes
    ∧ ∀ c ∈ (queueReset a level s).bus.queue, c ∈ s.bus.queue ∨ c.frame.isReset = true := by
  unfold queueReset
  simp only [modBus_bus]
  split
  · refine ⟨rfl, fun c hc => ?_⟩
    rcases List.mem_append.1 hc with queued | new
    · exact .inl queued
    · exact .inr (List.mem_singleton.1 new ▸ rfl)
  · exact ⟨rfl, fun c hc => .inl hc⟩

/-- An entry gone SILENT stands on LEVEL_1, with its serial, counts and descriptor, and has lost its commands (R59). -/
theorem goSilent_spec (a : NodeId) (s : State) :
    (goSilent a s).bus.nodes[a] = { s.bus.nodes[a] with state := .silent, ladder := some (.level1 Config.level1Time) }
      ∧ OnlyResetsFor a (goSilent a s) := by
  unfold goSilent
  extract_lets s1 mine gone s2
  have node : s1.bus.nodes[a] = { s.bus.nodes[a] with state := .silent, ladder := some (.level1 Config.level1Time) } := by
    simp [s1]
  have told : LineFrame (removeCommands mine s1) s2 :=
    LaneOps.foldl (fun _ _ hu => (LineFrame.ops _).tellUndelivered hu) _ (.refl _)
  have nodes2 : s2.bus.nodes = s1.bus.nodes := told.nodes
  obtain ⟨nodes3, queue3⟩ := queueReset_spec a 1 s2
  obtain ⟨bus, -, -, queue⟩ := reportChange_spec a .active (queueReset a 1 s2)
  have nodes : (queueReset a 1 s2).bus.nodes[a]
      = { s.bus.nodes[a] with state := .silent, ladder := some (.level1 Config.level1Time) } := by
    rw [nodes3, nodes2, node]
  have silent1 : (s1.bus.nodes[a]).state ≠ .active := by rw [node]; exact NodeState.noConfusion
  have silent3 : ((queueReset a 1 s2).bus.nodes[a]).state ≠ .active := by rw [nodes]; exact NodeState.noConfusion
  have emptied : OnlyResetsFor a s2 := (onlyResetsFor_removeCommands a s1).kept silent1 told.queue
  have reset : OnlyResetsFor a (queueReset a 1 s2) := fun c hc mine => (queue3 c hc).elim (fun old => emptied c old mine) id
  refine ⟨?_, reset.kept silent3 queue⟩
  rw [bus]
  exact nodes

/-! ## A DESCRIPTOR taken (R74) -/

theorem dropOwnResets_bus (a : NodeId) (s : State) : (dropOwnResets a s).bus.nodes = s.bus.nodes
    ∧ (dropOwnResets a s).bus.scan = s.bus.scan := ⟨rfl, rfl⟩

/-- An entry as a good DESCRIPTOR leaves it (R53). -/
def NodeEntry.assigned (x : Serial) (d : NodeDesc) (n : NodeEntry) : NodeEntry := {
  state := .active, serial := some x, desc := some d, misses := 0, errors := if n.serial = some x then n.errors else 0,
  attention := false, ladder := none }

theorem entryAssigned_spec (a : NodeId) (x : Serial) (d : NodeDesc) (s : State) :
    (entryAssigned a x d s).bus.nodes[a] = (s.bus.nodes[a]).assigned x d
      ∧ (entryAssigned a x d s).bus.scan = s.bus.scan := by
  unfold entryAssigned
  extract_lets former s1 s2
  have node : s2.bus.nodes[a] = (s.bus.nodes[a]).assigned x d := by
    rw [(dropOwnResets_bus a s1).1]
    simp [s1, NodeEntry.assigned]
  have kept : ∀ t : State, t.bus.nodes = s2.bus.nodes → t.bus.scan = s2.bus.scan →
      t.bus.nodes[a] = (s.bus.nodes[a]).assigned x d ∧ t.bus.scan = s.bus.scan :=
    fun t nodes scan => ⟨by rw [nodes]; exact node, scan⟩
  split
  · have frame := deriveBinding_line a [] s2
    exact kept _ frame.nodes frame.scan
  · obtain ⟨bus, -⟩ := reportChange_spec a former s2
    exact kept _ (by rw [bus]) (by rw [bus])

/-! ## Requests on the line (R72, R77, R78) -/

theorem endHoldOff_spec (s : State) : (endHoldOff s).bus.nodes = s.bus.nodes ∧ (endHoldOff s).plan = s.plan
    ∧ (endHoldOff s).port = s.port ∧ (endHoldOff s).bus.enum.holdOff = none
    ∧ (endHoldOff s).bus.enum.joinPending = false := by
  unfold endHoldOff startRound
  dsimp only
  split
  · refine ⟨rfl, rfl, rfl, ?_, ?_⟩ <;> simp only [modEnum_bus] <;> split <;> rfl
  · exact ⟨rfl, rfl, rfl, rfl, rfl⟩

/-- A FREE entry has no binding (R83). -/
theorem bindingNow_free {s : State} {a : NodeId} (h : (s.bus.nodes[a]).state = .free) : bindingNow s a = none := if_pos h

theorem resetNode_address {s : State} {tag : Byte} {a : NodeId} {k : Nat} :
    resetNode tag [some (.num (a.val + 1)), some (.num k)] s =
      if k ≠ 1 ∧ k ≠ 2 then reply .range s
      else if (s.bus.nodes[a]).state = .free ∨ (s.bus.nodes[a]).state = .lost then reply .state s
      else ((offer a (.nodeReset k) .office s).2.elim (reply .done (offer a (.nodeReset k) .office s).1)
        (fun _ => reply .busy (offer a (.nodeReset k) .office s).1)) := by
  unfold resetNode
  simp only [nodeOf_val]
  refine if_congr Iff.rfl rfl (if_congr Iff.rfl rfl ?_)
  rcases offer a (.nodeReset k) .office s with ⟨t, _ | r⟩ <;> rfl

theorem releaseNode_address {s : State} {tag : Byte} {a : NodeId} : releaseNode tag [some (.num (a.val + 1))] s =
    if (s.bus.nodes[a]).state ≠ .lost then reply .state s
    else reply .done (endHoldOff (reportChange a .lost (modNode a (fun n => { n with state := .free }) s))) := by
  unfold releaseNode
  simp only [nodeOf_val]

end Sys2Proof.Machine

namespace Sys2Proof.Machine

/-! ## What the parts of a scan cycle leave (R54) -/

/-- What a part of a cycle leaves as it was: the period in use, the marks of the cycle, enumeration, every entry but its ladder;
frames are sent behind those sent. -/
structure CycleFrame (s t : State) : Prop where
  period : t.bus.scan.periodInUse = s.bus.scan.periodInUse
  startup : t.bus.scan.startup = s.bus.scan.startup
  overdue : t.bus.scan.overdue = s.bus.scan.overdue
  enum : t.bus.enum = s.bus.enum
  node : ∀ a : NodeId, t.bus.nodes[a] = { s.bus.nodes[a] with ladder := (t.bus.nodes[a]).ladder }
  sent : s.sentFrames <+: t.sentFrames

namespace CycleFrame
variable {s t u : State}

theorem trans (h : CycleFrame s t) (k : CycleFrame t u) : CycleFrame s u where
  period := k.period.trans h.period
  startup := k.startup.trans h.startup
  overdue := k.overdue.trans h.overdue
  enum := k.enum.trans h.enum
  node a := by rw [k.node a, h.node a]
  sent := h.sent.trans k.sent

theorem line (h : LineFrame s t) : CycleFrame s t where
  period := by rw [h.scan]
  startup := by rw [h.scan]
  overdue := by rw [h.scan]
  enum := h.enum
  node a := by rw [h.nodes]
  sent := by rw [h.sent]

/-- The command queue's own changes. -/
theorem modBus {f : Bus → Bus} (s : State)
    (hf : f s.bus = { s.bus with queue := (f s.bus).queue, heldResets := (f s.bus).heldResets }) :
    CycleFrame s (modBus f s) := by
  refine ⟨?_, ?_, ?_, ?_, fun a => ?_, List.prefix_rfl⟩ <;> rw [modBus_bus, hf]

theorem sendBus (address kind : Nat) (payload : Bytes) (s : State) : CycleFrame s (sendBus address kind payload s) :=
  ⟨rfl, rfl, rfl, rfl, fun _ => rfl, List.prefix_append _ _⟩

theorem ladder {a : NodeId} {f : NodeEntry → NodeEntry} (s : State)
    (hf : ∀ n : NodeEntry, f n = { n with ladder := (f n).ladder }) : CycleFrame s (modNode a f s) := by
  refine ⟨rfl, rfl, rfl, rfl, fun k => ?_, List.prefix_rfl⟩
  simp only [Fin.getElem_fin, modNode_bus, getElem_alter]
  split
  · rename_i same
    subst same
    exact hf _
  · rfl

theorem openExchange (address kind : Nat) (payload : Bytes) (part : ScanPart) (x : Exchange) (s : State) :
    CycleFrame s (openExchange address kind payload part x s) :=
  (sendBus address kind payload s).trans ⟨rfl, rfl, rfl, rfl, fun _ => rfl, List.prefix_rfl⟩

theorem sendReset (c : Command) (k : Nat) (s : State) : CycleFrame s (sendReset c k s) := by
  have sent : CycleFrame s (popCommand (Machine.sendBus (busAddress c.node) c.frame.code c.frame.payload s)) :=
    (sendBus _ _ _ s).trans (.modBus _ rfl)
  unfold Machine.sendReset
  dsimp only
  split
  · refine sent.trans (.ladder _ (fun n => ?_))
    split <;> rfl
  · exact sent

end CycleFrame

/-- A part has gone on until the controller waits for an answer or an arbitration field. -/
structure GoesOn (s t : State) : Prop extends CycleFrame s t where
  waits : t.bus.scan.exchange.isSome = true
  runs : t.bus.scan.part.isSome = true

theorem CycleFrame.goesOn {s t u : State} (h : CycleFrame s t) (k : GoesOn t u) : GoesOn s u :=
  ⟨h.trans k.toCycleFrame, k.waits, k.runs⟩

theorem openExchange_goesOn (address kind : Nat) (payload : Bytes) (part : ScanPart) (x : Exchange) (s : State) :
    GoesOn s (openExchange address kind payload part x s) := ⟨.openExchange address kind payload part x s, rfl, rfl⟩

theorem commandPart_goesOn (fuel done : Nat) (s : State) : GoesOn s (commandPart fuel done s) := by
  induction fuel generalizing done s with
  | zero => exact openExchange_goesOn _ _ _ _ _ s
  | succ fuel ih =>
    unfold commandPart
    split
    · exact openExchange_goesOn _ _ _ _ _ s
    · split
      · exact openExchange_goesOn _ _ _ _ _ s
      · split
        · exact (CycleFrame.sendReset _ _ s).goesOn (ih _ _)
        · split
          · have popped : CycleFrame s (popCommand s) := .modBus s rfl
            exact (popped.trans (.line ((LineFrame.ops _).tellUndelivered (.refl _)))).goesOn (ih _ _)
          · exact (CycleFrame.modBus s rfl).goesOn (openExchange_goesOn _ _ _ _ _ _)

theorem slowPart_goesOn (next : Nat) (s : State) : GoesOn s (slowPart next s) := by
  have phase : CycleFrame s (modScan (fun x => { x with phase := (x.phase + 1) % 8 }) s) :=
    ⟨rfl, rfl, rfl, rfl, fun _ => rfl, List.prefix_rfl⟩
  unfold slowPart
  split
  · split <;> exact openExchange_goesOn _ _ _ _ _ s
  · exact phase.goesOn (commandPart_goesOn _ _ _)

theorem cellPart_goesOn (next : Nat) (s : State) : GoesOn s (cellPart next s) := by
  have polled : ∀ a : NodeId, CycleFrame s (modScan (fun x => { x with polled := x.polled ++ [a] }) s) :=
    fun _ => ⟨rfl, rfl, rfl, rfl, fun _ => rfl, List.prefix_rfl⟩
  unfold cellPart
  split
  · exact (polled _).goesOn (openExchange_goesOn _ _ _ _ _ _)
  · exact (CycleFrame.line ((LineFrame.ops s).endCellPolls (.refl s))).goesOn (slowPart_goesOn _ _)

/-- The state in which a cycle begins its cell polls, behind FORGET ADDRESSES where it is the first (R54, R72, R81). -/
def cycleOpened (s : State) : State :=
  let t := modScan (fun x => { x with periodInUse := x.period, startup := false, overdue := false, polled := [] }) s
  if s.bus.scan.startup then startRound (sendBus 63 0x0A [] t) else t

theorem startCycle_goesOn (s : State) : GoesOn (cycleOpened s) (startCycle s) :=
  (CycleFrame.line ((LineFrame.ops _).setMissed (.refl _))).goesOn (cellPart_goesOn 0 _)

theorem startRound_spec (s : State) : (startRound s).bus.scan = s.bus.scan ∧ (startRound s).sentFrames = s.sentFrames
    ∧ (startRound s).bus.enum.running = true := by
  refine ⟨rfl, rfl, ?_⟩
  show (if s.bus.enum.running then s.bus.enum else _).running = true
  split
  · assumption
  · rfl

theorem cycleOpened_spec (s : State) : (cycleOpened s).bus.scan.periodInUse = s.bus.scan.period
    ∧ (cycleOpened s).bus.scan.startup = false ∧ (cycleOpened s).bus.scan.overdue = false
    ∧ (s.bus.scan.startup = true → (cycleOpened s).bus.enum.running = true
      ∧ (cycleOpened s).sentFrames = s.sentFrames ++ [{ address := 63, kind := 0x0A, payload := [] }]) := by
  unfold cycleOpened
  dsimp only
  split
  · obtain ⟨scan, sent, running⟩ := startRound_spec (sendBus 63 0x0A []
      (modScan (fun x => { x with periodInUse := x.period, startup := false, overdue := false, polled := [] }) s))
    rw [scan, sent]
    exact ⟨rfl, rfl, rfl, fun _ => ⟨running, rfl⟩⟩
  · rename_i later
    exact ⟨rfl, rfl, rfl, fun first => absurd first later⟩

theorem clamp_eq_min_max {lo hi v : Nat} (h : lo ≤ hi) : clamp lo hi v = min hi (max lo v) := by
  unfold clamp
  split_ifs <;> omega

/-! ## A command's exchange that fails (R58, R65) -/

theorem NodeEntry.missed_few {n : NodeEntry} (h : n.misses < 2) :
    n.missed = { n with errors := min 65535 (n.errors + 1), misses := n.misses + 1 } := by
  unfold NodeEntry.missed
  rw [min_eq_right (show n.misses + 1 ≤ 3 by omega)]
  rfl

/-- An ACTIVE entry's command without a good answer, with fewer than 2 misses: the counts rise, the commands stay to be sent
again, and the first window opens. -/
theorem exchangeFailed_command {s : State} {a : NodeId} {g : CommandFrame} (few : (s.bus.nodes[a]).misses < 2) :
    exchangeFailed (.command a g) s = { s with
      bus := { s.bus with
        nodes := alter s.bus.nodes a NodeEntry.missed
        queue := s.bus.queue.map (fun c => { c with sent := false })
        scan := { s.bus.scan with part := some (.attention 1), exchange := some .attentionCall } }
      sentFrames := s.sentFrames ++ [{ address := 63, kind := 0x03, payload := [] }] } := by
  unfold exchangeFailed
  dsimp only
  rw [countError_raises (s := closeExchange s) (.inr few)]
  rfl

end Sys2Proof.Machine

namespace Sys2Proof.Certificates
open Sys2Proof.Machine

/-- Settles O16: a start behind a running cycle is noted once, and a cycle that starts goes on from where it is opened. -/
theorem cycleStartsOrFallsDue : Obligations.CycleStartsOrFallsDue := by
  unfold Obligations.CycleStartsOrFallsDue
  have due : ∀ s : State, s.powered = true → exec .scanCycleStart s = .next (cycleDue (fresh s)) := fun s on =>
    act_of_powered on
  have running : ∀ s : State, s.bus.scan.part ≠ none → ¬ (fresh s).bus.scan.part.isNone = true := fun s hp => by
    rw [Option.isNone_iff_eq_none]
    exact hp
  refine ⟨fun s on hp first => ?_, fun s on hp again => ?_, fun s on hp => ?_⟩
  · rw [due s on]
    unfold cycleDue
    rw [if_neg (running s hp)]
    exact congrArg _ (if_neg (by rw [fresh_bus, first]; exact Bool.false_ne_true))
  · rw [due s on]
    unfold cycleDue
    rw [if_neg (running s hp)]
    exact congrArg _ (if_pos again)
  · have starts : cycleDue (fresh s) = startCycle (fresh s) := if_pos (by rw [fresh_bus, hp]; rfl)
    have goes := startCycle_goesOn (fresh s)
    obtain ⟨period, startup, overdue, first⟩ := cycleOpened_spec (fresh s)
    refine ⟨_, (due s on).trans (congrArg _ starts), goes.waits, goes.runs, goes.period.trans period,
      goes.startup.trans startup, goes.overdue.trans overdue, fun mark => ?_⟩
    obtain ⟨round, opening⟩ := first mark
    have sent := goes.sent
    rw [opening] at sent
    obtain ⟨later, sent⟩ := sent
    refine ⟨by rw [goes.enum]; exact round, ?_⟩
    rw [← sent]
    rfl

/-- Settles O18: what follows a slow poll leaves the counts, and a command that fails ends the command part. -/
theorem answersAreCounted : Obligations.AnswersAreCounted := by
  unfold Obligations.AnswersAreCounted
  refine ⟨fun s f a ans n hopen hp hj ha => ?_, fun s a g kind f e hopen ha few hj => ?_⟩
  · obtain ⟨on, hx, hentry⟩ := hopen
    set u := modNode a (fun n => { n with misses := 0 }) (closeExchange (fresh s)) with hu
    have run : exec (.present f) s = .next (slowPart n u) := by
      refine (act_of_powered on).trans (congrArg _ ((answerArrives_good (s := fresh s) hx hentry hj).trans ?_))
      unfold exchangeGood nextPoll
      dsimp only
      rw [countGood_active (s := closeExchange (fresh s)) ha, show u.bus.scan.part = some (.slowPolls n) from hp]
    have node : u.bus.nodes[a] = { s.bus.nodes[a] with misses := 0 } := by simp [hu, closeExchange]
    have kept := (slowPart_goesOn n u).node a
    rw [node] at kept
    refine ⟨_, run, ?_, ?_, ?_⟩ <;> rw [kept]
    exact ha
  · obtain ⟨on, hx, hentry⟩ := hopen
    have failed := exchangeFailed_command (s := fresh s) (g := g) few
    have silence : exec .noResponse s = .next (exchangeFailed (.command a g) (fresh s)) :=
      (act_of_powered on).trans (congrArg _ (noAnswer_failed (s := fresh s) hx hentry))
    have error : exec (.responseError kind f) s = .next (exchangeFailed (.command a g) (fresh s)) :=
      (act_of_powered on).trans (congrArg _ (errorArrives_failed (s := fresh s) hx hentry hj))
    rw [failed] at silence error
    refine ⟨_, silence, error, alter_congr _ _ (NodeEntry.missed_few few), rfl, rfl, rfl, rfl, rfl, rfl, rfl, rfl⟩

/-- Settles O20: the third miss sends the entry SILENT, and its commands are withdrawn. -/
theorem thirdMissStartsTheLadder : Obligations.ThirdMissStartsTheLadder := by
  unfold Obligations.ThirdMissStartsTheLadder
  intro s a ha third
  have silent : countError a s = goSilent a (modNode a NodeEntry.missed s) := by
    rw [countError_eq, if_pos ⟨ha, third.ge⟩]
  obtain ⟨node, resets⟩ := goSilent_spec a (modNode a NodeEntry.missed s)
  have counted : (modNode a NodeEntry.missed s).bus.nodes[a] = (s.bus.nodes[a]).missed := by simp
  rw [silent, node, counted]
  refine ⟨rfl, ?_, rfl, resets⟩
  show min 3 ((s.bus.nodes[a]).misses + 1) = 3
  rw [third]
  rfl

/-- Settles O21: the first timer queues the reset of level 2, the second makes the entry LOST. -/
theorem ladderTimersExpire : Obligations.LadderTimersExpire := by
  unfold Obligations.LadderTimersExpire
  refine ⟨fun s a n on timer room => ?_, fun s a n on timer => ?_⟩
  · refine (act_of_powered on).trans (congrArg _ ((level1Expiry_running (s := fresh s) timer).trans ?_))
    rw [queueReset_room (s := modNode a _ (fresh s)) room]
    rfl
  · refine ⟨_, (act_of_powered on).trans (congrArg _ (level2Expiry_running (s := fresh s) timer)), ?_⟩
    obtain ⟨bus, -⟩ := reportChange_spec a .silent (modNode a (fun n => { n with state := .lost, ladder := none }) (fresh s))
    rw [bus]
    simp

/-- Settles O25: the entry takes the node, and the slot ends with the cycle. -/
theorem goodDescriptorMakesTheEntryActive : Obligations.GoodDescriptorMakesTheEntryActive := by
  unfold Obligations.GoodDescriptorMakesTheEntryActive
  intro s f a x wasFree d hopen hj due
  obtain ⟨on, hx, hentry⟩ := hopen
  obtain ⟨node, scan⟩ := entryAssigned_spec a x d (closeExchange (fresh s))
  have idle : (entryAssigned a x d (closeExchange (fresh s))).bus.scan.overdue = false := by
    rw [scan]
    exact due
  refine ⟨_, (act_of_powered on).trans (congrArg _ ((answerArrives_good (s := fresh s) hx hentry hj).trans
    (endCycle_idle idle))), node, rfl, rfl⟩

/-- Settles O48: each request by its owner's tests, a NODE RESET by the room in the queue. -/
theorem busRequests : Obligations.BusRequests := by
  unfold Obligations.BusRequests
  refine ⟨fun s tag n h => ?_, fun s tag h => ?_, fun s tag a k h => ?_, fun s tag a h => ?_⟩
  · refine answers_of_owner rfl h ?_
    unfold setScanPeriod
    dsimp only
    rw [if_congr clamp_eq_iff rfl rfl, clamp_eq_min_max (by decide)]
    rfl
  · refine answers_of_owner rfl h ?_
    unfold enumerate startRound modEnum
    dsimp only
    rw [fresh_bus]
    cases s.bus.enum.running <;> rfl
  · have owner := resetNode_address (s := fresh s) (tag := tag) (a := a) (k := k)
    have level : k = 1 ∨ k = 2 → ¬ (k ≠ 1 ∧ k ≠ 2) := by omega
    refine ⟨fun other => answers_of_owner rfl h (owner.trans (if_pos other)), fun hk gone => ?_, fun hk here fits => ?_⟩
    · exact answers_of_owner rfl h (owner.trans ((if_neg (level hk)).trans (if_pos gone)))
    · have present : ¬ ((s.bus.nodes[a]).state = .free ∨ (s.bus.nodes[a]).state = .lost) := by
        rcases here with active | silent <;> simp only [*] <;> decide
      rw [if_neg (level hk)] at owner
      rw [if_neg (by exact present), offer_fits (a := a) (f := .nodeReset k) (s := fresh s) (.inr rfl) fits CommandFrame.noConfusion] at owner
      refine ⟨fun full => answers_of_owner rfl h ?_, fun room => answers_of_owner rfl h ?_⟩
      · rw [if_pos (by exact full)] at owner
        exact owner
      · rw [if_neg (by exact Nat.not_le.2 room)] at owner
        exact owner
  · have owner := releaseNode_address (s := fresh s) (tag := tag) (a := a)
    refine ⟨fun other => answers_of_owner rfl h (owner.trans (if_pos other)), fun lost => ?_⟩
    set u := modNode a (fun n => { n with state := .free }) (fresh s) with hu
    have node : u.bus.nodes[a] = { s.bus.nodes[a] with state := .free } := by simp [hu]
    obtain ⟨bus, binding, records, -⟩ := reportChange_spec a .lost u
    obtain ⟨nodes, plan, port, holdOff, join⟩ := endHoldOff_spec (reportChange a .lost u)
    refine ⟨_, answers_of_owner rfl h (owner.trans (if_neg (not_not.2 lost))), ?_, ?_, holdOff, join, fun room => ?_⟩
    · rw [nodes, bus]
      exact node
    · rw [plan, binding]
      exact bindingNow_free (by rw [node])
    · obtain ⟨r, member, body⟩ := records room
      refine ⟨r, by rw [port]; exact member, body.trans ?_⟩
      unfold changeBody
      rw [node]
      rfl

end Sys2Proof.Certificates

namespace Sys2Proof.Machine

/-! ## What a report leaves behind the images it sets (R71, R103, R109) -/

/-- The image of a station: the four parts a STATION report gives. -/
def Station.image (x : Station) : ArmImage × LoopImage × Option Aspect × DriveImage := (x.arm, x.loop, x.signal, x.drive)

/-- The images of a lane's stations stand. -/
def Lane.SameImages (x y : Lane) : Prop := y.entry.image = x.entry.image ∧ y.exit.image = x.exit.image

theorem Lane.SameImages.station {x y : Lane} (h : x.SameImages y) (e : LaneEnd) :
    (y.station e).image = (x.station e).image := by
  cases e with
  | entry => exact h.1
  | exit => exact h.2

/-- The beam images stand, and a pause stays. -/
def BridgeSeq.SameBeams (x y : BridgeSeq) : Prop :=
  y.beamA = x.beamA ∧ y.beamB = x.beamB ∧ (x.pause = true → y.pause = true)

/-- What the work that follows a report leaves as it was: the tables, the calibration, the bus but its command queue, the
bindings and every image; an intrusion pause and the records queued stay. -/
structure ImageFrame (s t : State) : Prop where
  tables : t.tables = s.tables
  cal : t.cal = s.cal
  bus : t.bus = { s.bus with queue := t.bus.queue, heldResets := t.bus.heldResets }
  binding : ∀ a : NodeId, (t.plan.nodes[a]).binding = (s.plan.nodes[a]).binding
  images : ∀ l : LaneId, (s.seq.lanes[l]).SameImages t.seq.lanes[l]
  beams : ∀ b : BridgeId, (s.seq.bridges[b]).SameBeams t.seq.bridges[b]
  records : ∀ r ∈ s.port.records, r ∈ t.port.records

namespace ImageFrame
variable {s t u : State}

theorem trans (h : ImageFrame s t) (k : ImageFrame t u) : ImageFrame s u where
  tables := k.tables.trans h.tables
  cal := k.cal.trans h.cal
  bus := by rw [k.bus, h.bus]
  binding a := (k.binding a).trans (h.binding a)
  images l := ⟨(k.images l).1.trans (h.images l).1, (k.images l).2.trans (h.images l).2⟩
  beams b := by
    obtain ⟨beamA, beamB, pause⟩ := h.beams b
    obtain ⟨beamA', beamB', pause'⟩ := k.beams b
    exact ⟨beamA'.trans beamA, beamB'.trans beamB, fun held => pause' (pause held)⟩
  records r hr := k.records r (h.records r hr)

/-! ### The generators -/

/-- A change of blocks the frame does not read. -/
theorem of_eq (tables : t.tables = s.tables) (cal : t.cal = s.cal) (bus : t.bus = s.bus) (plan : t.plan = s.plan)
    (seq : t.seq = s.seq) (port : t.port = s.port) : ImageFrame s t :=
  ⟨tables, cal, by rw [bus], fun _ => by rw [plan], fun _ => by rw [seq]; exact ⟨rfl, rfl⟩,
    fun _ => by rw [seq]; exact ⟨rfl, rfl, id⟩, fun _ hr => by rw [port]; exact hr⟩

theorem refl (s : State) : ImageFrame s s := .of_eq rfl rfl rfl rfl rfl rfl

theorem offered (h : ImageFrame s t) (k : OfferFrame t u) : ImageFrame s u := by
  refine h.trans ⟨k.tables, k.cal, k.bus, k.binding, fun l => ⟨?_, ?_⟩, fun _ => by rw [k.bridges]; exact ⟨rfl, rfl, id⟩,
    fun r hr => by rw [k.records]; exact hr⟩
  · have core := congrArg (fun x : Lane => x.entry.image) (k.lanes l)
    exact core
  · have core := congrArg (fun x : Lane => x.exit.image) (k.lanes l)
    exact core

theorem queueRecord {body : RecordBody} (h : ImageFrame s t) : ImageFrame s (queueRecord body t) := by
  have rest := (queueRecord_spec body t).1.rest
  refine h.trans ⟨?_, ?_, ?_, fun _ => ?_, fun _ => ?_, fun _ => ?_, fun _ => mem_queueRecord⟩ <;> rw [rest]
  · exact ⟨rfl, rfl⟩
  · exact ⟨rfl, rfl, id⟩

theorem modLane {l : LaneId} {f : Lane → Lane} (hf : ∀ x : Lane, x.SameImages (f x)) (h : ImageFrame s t) :
    ImageFrame s (modLane l f t) := by
  refine h.trans ⟨rfl, rfl, rfl, fun _ => rfl, fun k => ?_, fun _ => ⟨rfl, rfl, id⟩, fun _ => id⟩
  simp only [Fin.getElem_fin, modLane_seq, getElem_alter]
  split
  · exact hf _
  · exact ⟨rfl, rfl⟩

theorem modStation {l : LaneId} {e : LaneEnd} {f : Station → Station} (hf : ∀ x : Station, (f x).image = x.image)
    (h : ImageFrame s t) : ImageFrame s (modStation l e f t) := by
  refine modLane (fun x => ?_) h
  cases e with
  | entry => exact ⟨hf _, rfl⟩
  | exit => exact ⟨rfl, hf _⟩

theorem modBridge {b : BridgeId} {f : BridgeSeq → BridgeSeq} (hf : ∀ x : BridgeSeq, x.SameBeams (f x))
    (h : ImageFrame s t) : ImageFrame s (modBridge b f t) := by
  refine h.trans ⟨rfl, rfl, rfl, fun _ => rfl, fun _ => ⟨rfl, rfl⟩, fun k => ?_, fun _ => id⟩
  simp only [Fin.getElem_fin, modBridge_seq, getElem_alter]
  split
  · exact hf _
  · exact ⟨rfl, rfl, id⟩

/-! ### Lanes (R96, R101, R102, R112) -/

theorem withdraw {l : LaneId} (h : ImageFrame s t) : ImageFrame s (withdraw l t) := by
  rw [withdraw_rest]
  exact h.trans (.of_eq rfl rfl rfl rfl rfl rfl)

theorem offerStation {l : LaneId} {e : LaneEnd} (h : ImageFrame s t) : ImageFrame s (offerStation l e t).1 :=
  h.offered (offerStation_frame l e t)

theorem showState {l : LaneId} (h : ImageFrame s t) : ImageFrame s (showState l t) := h.offered (showState_frame l t)

theorem offerDisplay {l : LaneId} {d : Display} (h : ImageFrame s t) : ImageFrame s (offerDisplay l d t) :=
  h.offered (offerDisplay_frame l d t)

theorem wantStations {l : LaneId} {entryArm exitArm : WantedArm} {entrySignal exitSignal : Aspect} (h : ImageFrame s t) :
    ImageFrame s (wantStations l entryArm exitArm entrySignal exitSignal t) :=
  modStation (fun _ => rfl) (modStation (fun _ => rfl) h)

theorem wantFor {l : LaneId} {st : LaneState} (h : ImageFrame s t) : ImageFrame s (wantFor l st t) := by
  cases st <;> exact h.wantStations

theorem settleStill {l : LaneId} (h : ImageFrame s t) : ImageFrame s (settleStill l t) :=
  showState (offerStation (offerStation h.wantStations))

theorem faultLane {l : LaneId} {reason : FaultReason} {e : Option LaneEnd} (h : ImageFrame s t) :
    ImageFrame s (faultLane l reason e t) :=
  queueRecord (settleStill (modLane (fun _ => ⟨rfl, rfl⟩) h.withdraw))

theorem joinQueue {l : LaneId} (h : ImageFrame s t) : ImageFrame s (joinQueue l t) := by
  unfold Machine.joinQueue
  split
  · refine modBridge (fun x => ?_) h
    split <;> exact ⟨rfl, rfl, id⟩
  · exact h

theorem leaveQueue {l : LaneId} (h : ImageFrame s t) : ImageFrame s (leaveQueue l t) := by
  unfold Machine.leaveQueue
  split
  · exact modBridge (fun _ => ⟨rfl, rfl, id⟩) h
  · exact h

theorem placeCapture {l : LaneId} (h : ImageFrame s t) : ImageFrame s (placeCapture l t) := by
  unfold Machine.placeCapture
  split
  · split
    · exact h.trans (.of_eq rfl rfl rfl rfl rfl rfl)
    · exact h
  · exact h

theorem enterPlain {l : LaneId} {st : LaneState} (h : ImageFrame s t) : ImageFrame s (enterPlain l st t) := by
  unfold Machine.enterPlain
  extract_lets t1 t2 t3 lane t4
  have left : ImageFrame s t2 := modLane (fun _ => ⟨rfl, rfl⟩) h.withdraw
  have queued : ImageFrame s t3 := by
    unfold t3
    split
    · exact left.joinQueue
    · exact left.leaveQueue
  have placed : ImageFrame s t4 := by
    unfold t4
    split
    · exact queued.placeCapture
    · exact queued
  clear_value t3 t4
  split
  · exact queued.faultLane
  · split
    rename_i v lostEntry entryOffers
    have offers := (placed.wantFor (l := l) (st := st)).offerStation (l := l) (e := .entry)
    rw [entryOffers] at offers
    split
    rename_i w lostExit exitOffers
    have entered := offers.offerStation (l := l) (e := .exit)
    rw [exitOffers] at entered
    split
    · exact entered.faultLane
    · exact entered.showState

theorem grantTest {b : BridgeId} (h : ImageFrame s t) : ImageFrame s (grantTest b t) := by
  unfold Machine.grantTest
  dsimp only
  split
  · split
    · exact enterPlain (modLane (fun _ => ⟨rfl, rfl⟩) (modBridge (fun _ => ⟨rfl, rfl, id⟩) h))
    · exact h
  · exact h

theorem releaseGrant {l : LaneId} (h : ImageFrame s t) : ImageFrame s (releaseGrant l t) := by
  unfold Machine.releaseGrant
  split
  · split
    · exact grantTest (modBridge (fun _ => ⟨rfl, rfl, id⟩) h)
    · exact h
  · exact h

theorem dropVisit {l : LaneId} (h : ImageFrame s t) : ImageFrame s (dropVisit l t) := by
  unfold Machine.dropVisit
  split
  · rename_i n _
    have dropped : ImageFrame s (Machine.modLane l (fun x => { x with visit := none }) t) := modLane (fun _ => ⟨rfl, rfl⟩) h
    exact dropped.trans (.of_eq (t := laneDrops n l _) rfl rfl rfl rfl rfl rfl)
  · exact h

theorem goRest {l : LaneId} (h : ImageFrame s t) : ImageFrame s (goRest l t) := by
  have dropped : ImageFrame s (Machine.modLane l (fun x => { x with asking := none }) (Machine.dropVisit l t)) :=
    modLane (fun _ => ⟨rfl, rfl⟩) h.dropVisit
  unfold Machine.goRest
  dsimp only
  split <;> exact dropped.enterPlain

/-! ### The tests of a report (R103 to R110) -/

theorem completionTest {l : LaneId} (h : ImageFrame s t) : ImageFrame s (completionTest l t) := by
  unfold Machine.completionTest
  split
  · exact goRest (releaseGrant (dropVisit (modLane (fun _ => ⟨rfl, rfl⟩) h)))
  · exact h

theorem sampleTests {l : LaneId} (h : ImageFrame s t) : ImageFrame s (sampleTests l t) := by
  unfold Machine.sampleTests
  split
  · split
    · exact h.enterPlain
    · exact h
  · exact h.completionTest
  · exact h

theorem beamTests {l : LaneId} (h : ImageFrame s t) : ImageFrame s (beamTests l t) := by
  unfold Machine.beamTests
  split
  · exact h
  · split
    · refine sampleTests ?_
      split
      · exact modLane (fun _ => ⟨rfl, rfl⟩) h
      · exact h
    · split_ifs
      · exact offerDisplay (modLane (fun _ => ⟨rfl, rfl⟩) h)
      · exact offerDisplay (modLane (fun _ => ⟨rfl, rfl⟩) h)
      · exact h
    · exact h.completionTest
    · exact h

theorem pauseUpdate {b : BridgeId} (h : ImageFrame s t) : ImageFrame s (pauseUpdate b t) := by
  refine modBridge (fun x => ?_) h
  split <;> exact ⟨rfl, rfl, id⟩

theorem intrusion {b : BridgeId} {beam : BeamEnd} {former now : BeamImage} (h : ImageFrame s t) :
    ImageFrame s (intrusion b beam former now t) := by
  unfold Machine.intrusion
  dsimp only
  split
  · exact queueRecord (modBridge (fun _ => ⟨rfl, rfl, fun _ => rfl⟩) h)
  · exact h

theorem stationOffers {l : LaneId} {e : LaneEnd} (h : ImageFrame s t) : ImageFrame s (stationOffers l e t) := by
  have offers := h.offerStation (l := l) (e := e)
  unfold Machine.stationOffers afterOffers
  split <;> rename_i offered <;> rw [offered] at offers
  · split
    · exact offers.faultLane
    · exact offers
  · exact offers

end ImageFrame

/-! ## A report taken by its owner (R71) -/

/-- A report that stands goes to its owner and leaves the queue. -/
theorem takeHead_reportAt {s t : State} {r : Report} {a : NodeId} {x : Attach}
    {pick : Report → Option (NodeId → Attach → State → State)} {owner : NodeId → Attach → State → State}
    (h : ReportAt s r a x) (picked : pick r = some owner) (work : owner a x (reportTaken s) = t) :
    act (takeHead pick) s = .next (settleReports t) := by
  subst work
  obtain ⟨on, q, rest, p, e, reports, rfl, rfl, plan, bound, entry, rfl⟩ := h
  have stands : reportStale (fresh s) q = false := by
    unfold reportStale
    rw [plan]
    exact decide_eq_false (not_not.2 bound)
  have place : (q.plan.bind (fun p => (fresh s).plan.entries[p])).map (·.attach) = some e.attach := by
    rw [plan]
    exact congrArg (Option.map (·.attach)) entry
  rw [act_of_powered on]
  refine congrArg _ ?_
  unfold takeHead
  rw [show (fresh s).bus.reports = q :: rest from reports]
  dsimp only
  rw [picked]
  dsimp only
  rw [stands, place]
  rfl

theorem reportStale_binding {s t : State} (h : ∀ a : NodeId, (t.plan.nodes[a]).binding = (s.plan.nodes[a]).binding)
    (r : QueuedReport) : reportStale t r = reportStale s r := by
  unfold reportStale
  rw [h r.node]

/-- The reports behind the one taken stay, unless the first of them is stale. -/
theorem settleReports_kept {s t : State}
    (bus : t.bus = { (reportTaken s).bus with queue := t.bus.queue, heldResets := t.bus.heldResets })
    (binding : ∀ a : NodeId, (t.plan.nodes[a]).binding = (s.plan.nodes[a]).binding)
    (stand : ∀ r ∈ s.bus.reports.tail.head?, reportStale s r = false) :
    (settleReports t).bus.reports = s.bus.reports.tail := by
  have reports : t.bus.reports = s.bus.reports.tail := by rw [bus]; rfl
  rw [settleReports_stands (fun q hq => ?_), reports]
  rw [reports] at hq
  exact (reportStale_binding binding q).trans (stand q hq)

/-! ## BEAM reports (R103, R104) -/

/-- The images a BEAM report sets. -/
def beamsSet (b : BridgeId) (brokenA brokenB : Bool) (s : State) : State :=
  modBridge b (fun x => { x with beamA := beamImage brokenA, beamB := beamImage brokenB }) s

/-- What follows the intrusion tests of a BEAM report leaves the images. -/
theorem beamReport_afterIntrusion (b : BridgeId) (x y : Bool) (s : State) :
    ImageFrame (intrusion b .b (s.seq.bridges[b]).beamB (beamImage y)
      (intrusion b .a (s.seq.bridges[b]).beamA (beamImage x) (beamsSet b x y s))) (beamReport b x y s) := by
  unfold beamReport
  extract_lets old s1 s2 s3 s4 s5
  have paused : ImageFrame s3 s4 := (ImageFrame.refl s3).pauseUpdate
  refine ImageFrame.grantTest ?_
  unfold s5
  split
  · exact paused.beamTests
  · exact paused

theorem beamReport_frame (b : BridgeId) (x y : Bool) (s : State) : ImageFrame (beamsSet b x y s) (beamReport b x y s) :=
  (ImageFrame.refl _).intrusion.intrusion.trans (beamReport_afterIntrusion b x y s)

/-- A beam that goes to BROKEN with no grant held and no pause: an intrusion pause and, with room, its record. -/
theorem intrusion_starts {b : BridgeId} {beam : BeamEnd} {former : BeamImage} {s : State} (whole : former ≠ .broken)
    (free : (s.seq.bridges[b]).holder = none) (calm : (s.seq.bridges[b]).pause = false) :
    intrusion b beam former .broken s
      = queueRecord (.intrusion b beam (s.engine[b]).w) (modBridge b (fun x => { x with pause := true }) s) := by
  unfold intrusion
  dsimp only
  rw [if_pos ⟨whole, rfl, by rw [free]; rfl, by rw [calm]; rfl⟩]

/-- Beam A going to BROKEN in a BEAM report starts the pause, whatever beam B does. -/
theorem beamReport_intrusion {b : BridgeId} {x y : Bool} {s : State} (broken : x = true) (whole : (s.seq.bridges[b]).beamA ≠ .broken)
    (free : (s.seq.bridges[b]).holder = none) (calm : (s.seq.bridges[b]).pause = false) (room : 1 ≤ unclaimedFree s) :
    ((beamReport b x y s).seq.bridges[b]).pause = true
      ∧ ∃ r ∈ (beamReport b x y s).port.records, r.body = .intrusion b .a (s.engine[b]).w := by
  subst broken
  set u := modBridge b (fun x => { x with pause := true }) (beamsSet b true y s) with hu
  have first : intrusion b .a (s.seq.bridges[b]).beamA (beamImage true) (beamsSet b true y s)
      = queueRecord (.intrusion b .a (s.engine[b]).w) u :=
    intrusion_starts whole (by simpa [beamsSet] using free) (by simpa [beamsSet] using calm)
  have rest := beamReport_afterIntrusion b true y s
  rw [first] at rest
  have frame := ((ImageFrame.refl _).intrusion (b := b) (beam := .b) (former := (s.seq.bridges[b]).beamB)
    (now := beamImage y)).trans rest
  obtain ⟨-, -, records, -⟩ := queueRecord_spec (.intrusion b .a (s.engine[b]).w) u
  have paused : (u.seq.bridges[b]).pause = true := by simp [hu]
  obtain ⟨-, -, stays⟩ := frame.beams b
  obtain ⟨-, -, kept⟩ := ((ImageFrame.refl u).queueRecord (body := .intrusion b .a (s.engine[b]).w)).beams b
  exact ⟨stays (kept paused), { number := u.port.nextRecord, time := stamp u, body := .intrusion b .a (s.engine[b]).w },
    frame.records _ (records room ▸ List.mem_append_right _ (List.mem_singleton_self _)), rfl⟩

/-! ## STATION reports (R109, R112) -/

/-- A station altered leaves its lane but for the stations. -/
theorem modStation_lane (l k : LaneId) (e : LaneEnd) (f : Station → Station) (s : State) :
    (modStation l e f s).seq.lanes[k] = { s.seq.lanes[k] with
      entry := ((modStation l e f s).seq.lanes[k]).entry, exit := ((modStation l e f s).seq.lanes[k]).exit } := by
  simp only [modStation, Fin.getElem_fin, modLane_seq, getElem_alter]
  split
  · cases e <;> rfl
  · rfl

/-- An offer leaves a lane but for its stations. -/
theorem OfferFrame.lane {s t : State} (h : OfferFrame s t) (l : LaneId) : t.seq.lanes[l] = { s.seq.lanes[l] with
    entry := (t.seq.lanes[l]).entry, exit := (t.seq.lanes[l]).exit } := by
  have core := h.lanes l
  simp only [Fin.getElem_fin]
  cases hx : s.seq.lanes[l.val]
  cases hy : t.seq.lanes[l.val]
  simp only [hx, hy, Lane.core, Lane.mk.injEq] at core ⊢
  simp only [core, and_self]

/-- Behind its settings a lane settled still makes offers and no more (R96). -/
theorem settleStill_frame (l : LaneId) (s : State) :
    OfferFrame (wantStations l .none .none .red .red s) (settleStill l s) :=
  ((offerStation_frame l .entry _).trans (offerStation_frame l .exit _)).trans (showState_frame l _)

/-- Lanes whose stations are settled still stay as they are but for the stations (R96). -/
theorem settleStill_lane (l k : LaneId) (s : State) : (settleStill l s).seq.lanes[k] = { s.seq.lanes[k] with
    entry := ((settleStill l s).seq.lanes[k]).entry, exit := ((settleStill l s).seq.lanes[k]).exit } := by
  rw [(settleStill_frame l s).lane k]
  unfold wantStations
  rw [modStation_lane, modStation_lane]

/-- The lane's state and fault once it has faulted (R112). -/
theorem faultLane_lane (l : LaneId) (reason : FaultReason) (e : Option LaneEnd) (s : State) :
    ((faultLane l reason e s).seq.lanes[l]).state = .fault
      ∧ ((faultLane l reason e s).seq.lanes[l]).fault = some (reason, (s.seq.lanes[l]).state) := by
  unfold faultLane
  extract_lets left s1 s2 s3
  have lane : (s2.seq.lanes[l]).state = .fault ∧ (s2.seq.lanes[l]).fault = some (reason, left) := by simp [s2]
  rw [(queueRecord_spec _ _).1.rest]
  dsimp only
  rw [show s3 = settleStill l s2 from rfl, settleStill_lane]
  exact lane

/-- The image a STATION report sets, and the fault of an arm that becomes FAULT. -/
def stationSet (l : LaneId) (e : LaneEnd) (arm : ArmImage) (loop : LoopImage) (signal : Aspect) (drive : DriveImage)
    (s : State) : State :=
  let s := modStation l e (fun x => { x with
    arm := if arm = .fault then x.arm else arm, loop := loop, signal := some signal, drive := drive,
    motion := if stopsMotion arm x.motion then none else x.motion }) s
  if arm = .fault then armFault l e .armFault s else s

theorem stationReport_eq (l : LaneId) (e : LaneEnd) (arm : ArmImage) (loop : LoopImage) (signal : Aspect)
    (drive : DriveImage) (s : State) : stationReport l e arm loop signal drive s =
      stationOffers l e (if e = .exit then completionTest l (stationSet l e arm loop signal drive s)
        else stationSet l e arm loop signal drive s) := rfl

theorem modStation_station (l : LaneId) (e : LaneEnd) (f : Station → Station) (s : State) :
    ((modStation l e f s).seq.lanes[l]).station e = f ((s.seq.lanes[l]).station e) := by
  simp

/-- A report sets all four parts of the station's image. -/
theorem stationSet_image (l : LaneId) (e : LaneEnd) (arm : ArmImage) (loop : LoopImage) (signal : Aspect)
    (drive : DriveImage) (s : State) :
    (((stationSet l e arm loop signal drive s).seq.lanes[l]).station e).image = (arm, loop, some signal, drive) := by
  unfold stationSet
  extract_lets s1
  have set : ((s1.seq.lanes[l]).station e).image = (if arm = .fault then ((s.seq.lanes[l]).station e).arm else arm,
      loop, some signal, drive) := by
    unfold s1
    rw [modStation_station]
    rfl
  by_cases fault : arm = .fault
  · rw [if_pos fault]
    rw [if_pos fault] at set
    unfold armFault
    extract_lets former s2
    have broken : ((s2.seq.lanes[l]).station e).image = (.fault, loop, some signal, drive) := by
      unfold s2
      rw [modStation_station]
      exact congrArg (fun p => (ArmImage.fault, p.2)) set
    rw [fault, ← broken]
    split
    · exact (((ImageFrame.refl s2).faultLane.images l).station e)
    · rfl
  · rw [if_neg fault]
    rw [if_neg fault] at set
    exact set

/-- An arm that becomes FAULT in a lane from IDLE to RELEASING faults the lane. -/
theorem stationSet_faults {l : LaneId} {e : LaneEnd} (loop : LoopImage) (signal : Aspect) (drive : DriveImage) {s : State}
    (sound : ((s.seq.lanes[l]).station e).arm ≠ .fault) (faults : (s.seq.lanes[l]).state.faults = true) :
    ((stationSet l e .fault loop signal drive s).seq.lanes[l]).state = .fault
      ∧ ((stationSet l e .fault loop signal drive s).seq.lanes[l]).fault = some (.armFault, (s.seq.lanes[l]).state) := by
  unfold stationSet
  extract_lets s1
  have state : (s1.seq.lanes[l]).state = (s.seq.lanes[l]).state := modStation_state l l e _ s
  have arm : ((s1.seq.lanes[l]).station e).arm = ((s.seq.lanes[l]).station e).arm := by
    unfold s1
    rw [modStation_station]
    rfl
  rw [if_pos rfl]
  unfold armFault
  extract_lets former s2
  have state2 : (s2.seq.lanes[l]).state = (s.seq.lanes[l]).state := (modStation_state l l e _ s1).trans state
  rw [if_pos ⟨fun broken => sound (arm.symm.trans broken), state2 ▸ faults⟩, ← state2]
  exact faultLane_lane l .armFault (some e) s2

/-- A lane in FAULT makes its stations' offers and stays as it is. -/
theorem stationOffers_fault {l : LaneId} {e : LaneEnd} {s : State} (h : (s.seq.lanes[l]).state = .fault) :
    stationOffers l e s = (offerStation l e s).1 := by
  have state : ((offerStation l e s).1.seq.lanes[l]).state = .fault := ((offerStation_frame l e s).state l).trans h
  unfold stationOffers afterOffers
  split <;> rename_i offered <;> rw [offered] at state ⊢
  rw [show _ = LaneState.fault from state]
  rfl

/-- What follows the image of a STATION report leaves the images. -/
theorem stationReport_frame (l : LaneId) (e : LaneEnd) (arm : ArmImage) (loop : LoopImage) (signal : Aspect)
    (drive : DriveImage) (s : State) :
    ImageFrame (stationSet l e arm loop signal drive s) (stationReport l e arm loop signal drive s) := by
  rw [stationReport_eq]
  refine ImageFrame.stationOffers ?_
  split
  · exact (ImageFrame.refl _).completionTest
  · exact .refl _

/-- A STATION report leaves the bus but the command queue, and every binding. -/
theorem stationReport_bus (l : LaneId) (e : LaneEnd) (arm : ArmImage) (loop : LoopImage) (signal : Aspect)
    (drive : DriveImage) (s : State) : (stationReport l e arm loop signal drive s).bus = { s.bus with
        queue := (stationReport l e arm loop signal drive s).bus.queue
        heldResets := (stationReport l e arm loop signal drive s).bus.heldResets }
      ∧ ∀ a : NodeId, ((stationReport l e arm loop signal drive s).plan.nodes[a]).binding = (s.plan.nodes[a]).binding := by
  have line : LineFrame s (stationSet l e arm loop signal drive s) := by
    have ops := LineFrame.ops s
    unfold stationSet
    dsimp only
    split
    · exact ops.armFault (ops.station (.refl s))
    · exact ops.station (.refl s)
  have frame := stationReport_frame l e arm loop signal drive s
  exact ⟨by rw [frame.bus, line.bus], fun a => (frame.binding a).trans (line.binding a)⟩

theorem completionTest_fault {l : LaneId} {s : State} (h : (s.seq.lanes[l]).state = .fault) : completionTest l s = s := by
  unfold completionTest
  rw [h]
  exact if_neg (fun releasing => LaneState.noConfusion releasing.1)

theorem stationReport_faults {l : LaneId} {e : LaneEnd} {arm : ArmImage} {loop : LoopImage} {signal : Aspect}
    {drive : DriveImage} {s : State} (broken : arm = .fault) (sound : ((s.seq.lanes[l]).station e).arm ≠ .fault)
    (faults : (s.seq.lanes[l]).state.faults = true) :
    ((stationReport l e arm loop signal drive s).seq.lanes[l]).state = .fault
      ∧ ((stationReport l e arm loop signal drive s).seq.lanes[l]).fault
          = some (.armFault, (s.seq.lanes[l]).state) := by
  subst broken
  obtain ⟨state, fault⟩ := stationSet_faults loop signal drive sound faults
  have offers : stationReport l e .fault loop signal drive s
      = (offerStation l e (stationSet l e .fault loop signal drive s)).1 := by
    rw [stationReport_eq, completionTest_fault state, ite_self, stationOffers_fault state]
  rw [offers]
  rw [(offerStation_frame l e _).lane l]
  exact ⟨state, fault⟩

end Sys2Proof.Machine

namespace Sys2Proof.Certificates
open Sys2Proof.Machine

/-- Settles O28: each report is taken by its owner, which sets the images; what follows leaves them. -/
theorem beamAndStationReports : Obligations.BeamAndStationReports := by
  unfold Obligations.BeamAndStationReports
  refine ⟨fun s a b x y h => ?_, fun s a l e arm loop signal drive h => ?_, fun s a l code h => ?_⟩
  · have run : exec .beam s = .next (settleReports (beamReport b x y (reportTaken s))) :=
      takeHead_reportAt (pick := pickBeam) h rfl rfl
    have frame := beamReport_frame b x y (reportTaken s)
    have intruded := @beamReport_intrusion b x y (reportTaken s)
    generalize beamReport b x y (reportTaken s) = t at run frame intruded
    obtain ⟨beamA, beamB, -⟩ := frame.beams b
    refine ⟨_, run, beamA.trans ?_, beamB.trans ?_, frame.tables, frame.cal, (congrArg Bus.nodes frame.bus :),
      settleReports_kept frame.bus frame.binding, intruded⟩
    · simp [beamsSet]
    · simp [beamsSet]
  · have run : exec .station s = .next (settleReports (stationReport l e arm loop signal drive (reportTaken s))) :=
      takeHead_reportAt (pick := pickStation) h rfl rfl
    have frame := stationReport_frame l e arm loop signal drive (reportTaken s)
    have image := (frame.images l).station e
    rw [stationSet_image] at image
    obtain ⟨bus, binding⟩ := stationReport_bus l e arm loop signal drive (reportTaken s)
    have faulted := @stationReport_faults l e arm loop signal drive (reportTaken s)
    generalize stationReport l e arm loop signal drive (reportTaken s) = t at run image bus binding faulted
    refine ⟨_, run, congrArg (·.1) image, congrArg (·.2.1) image, congrArg (·.2.2.1) image, congrArg (·.2.2.2) image,
      settleReports_kept bus binding, faulted⟩
  · have run : exec .help s = .next (settleReports (helpReport l a code (reportTaken s))) :=
      takeHead_reportAt (pick := pickHelp) h rfl rfl
    exact run

end Sys2Proof.Certificates

namespace Sys2Proof.Machine

/-! ## Stations and their outstanding drive commands (R117) -/

theorem mem_allStations (l : LaneId) (e : LaneEnd) : (l, e) ∈ allStations :=
  List.mem_flatMap.2 ⟨l, List.mem_finRange l, List.mem_map.2 ⟨e, by cases e <;> decide, rfl⟩⟩

theorem modStation_stations (l k : LaneId) (e j : LaneEnd) (f : Station → Station) (s : State) :
    ((modStation l e f s).seq.lanes[k]).station j
      = if l = k ∧ e = j then f ((s.seq.lanes[k]).station j) else (s.seq.lanes[k]).station j := by
  simp only [Fin.getElem_fin, modStation_seq, getElem_alter]
  by_cases lane : l = k
  · rw [if_pos lane]
    cases e <;> cases j <;> simp [lane, Lane.changeStation, Lane.station]
  · rw [if_neg lane, if_neg (fun same => lane same.1)]

/-- Which stations have a DRIVE OFF outstanding. -/
def outOffs (s : State) (l : LaneId) (e : LaneEnd) : Bool := ((s.seq.lanes[l]).station e).outOff

/-- Which stations have a DRIVE ON outstanding. -/
def outOns (s : State) (l : LaneId) (e : LaneEnd) : Bool := ((s.seq.lanes[l]).station e).outOn

/-- Commands of one kind for distinct stations, each of which has it marked as outstanding. -/
structure Outstanding (f : CommandFrame) (out : LaneId → LaneEnd → Bool) (cs : List Command) : Prop where
  frame : ∀ c ∈ cs, c.frame = f
  origin : ∀ c ∈ cs, ∃ l e, c.origin = .station l e ∧ out l e = true
  distinct : (cs.map (·.origin)).Nodup

namespace Outstanding
variable {f : CommandFrame} {out out' : LaneId → LaneEnd → Bool} {cs : List Command} {l : LaneId} {e : LaneEnd}

theorem nil (f : CommandFrame) (out : LaneId → LaneEnd → Bool) : Outstanding f out [] :=
  ⟨fun _ hc => absurd hc List.not_mem_nil, fun _ hc => absurd hc List.not_mem_nil, List.nodup_nil⟩

theorem notMem (h : Outstanding f out cs) (idle : out l e = false) : Origin.station l e ∉ cs.map (·.origin) := by
  intro member
  obtain ⟨c, hc, same⟩ := List.mem_map.1 member
  obtain ⟨l', e', origin, marked⟩ := h.origin c hc
  cases origin.symm.trans same
  exact Bool.noConfusion (idle.symm.trans marked)

/-- There are sixteen stations: while one has none outstanding, at most fifteen commands are. -/
theorem room (h : Outstanding f out cs) (idle : out l e = false) : cs.length < Config.commandSlots := by
  have distinct : (Origin.station l e :: cs.map (·.origin)).Nodup := List.nodup_cons.2 ⟨h.notMem idle, h.distinct⟩
  have stations : Origin.station l e :: cs.map (·.origin) ⊆ allStations.map (fun p => Origin.station p.1 p.2) := by
    intro o ho
    rcases List.mem_cons.1 ho with rfl | queued
    · exact List.mem_map.2 ⟨_, mem_allStations l e, rfl⟩
    · obtain ⟨c, hc, rfl⟩ := List.mem_map.1 queued
      obtain ⟨l', e', origin, -⟩ := h.origin c hc
      exact List.mem_map.2 ⟨_, mem_allStations l' e', origin.symm⟩
  have bound := (List.subperm_of_subset distinct stations).length_le
  rw [List.length_cons, List.length_map, List.length_map] at bound
  exact bound

/-- One more station's command joins. -/
theorem add (h : Outstanding f out cs) (idle : out l e = false) (kept : ∀ l e, out l e = true → out' l e = true)
    (marked : out' l e = true) (a : NodeId) : Outstanding f out' (cs ++ [offered a f (.station l e)]) where
  frame c hc := by
    rcases List.mem_append.1 hc with old | new
    · exact h.frame c old
    · rw [List.mem_singleton.1 new]
      rfl
  origin c hc := by
    rcases List.mem_append.1 hc with old | new
    · obtain ⟨l', e', origin, was⟩ := h.origin c old
      exact ⟨l', e', origin, kept l' e' was⟩
    · exact ⟨l, e, by rw [List.mem_singleton.1 new]; rfl, marked⟩
  distinct := by
    rw [List.map_append, List.nodup_append]
    refine ⟨h.distinct, List.nodup_singleton _, fun o old o' new => ?_⟩
    rintro rfl
    rw [List.map_singleton, List.mem_singleton] at new
    subst new
    exact h.notMem idle old

end Outstanding

theorem filledNode_roles {s t : State} (h : t.plan.roles = s.plan.roles) (x : Attach) : filledNode t x = filledNode s x := by
  unfold filledNode roleOf
  rw [h]

/-! ## A DRIVE OFF placed in a queue (R64) -/

theorem insertDriveOff_append {c : Command} {offs rest : List Command} (front : ∀ x ∈ offs, x.frame = .driveOff)
    (behind : ∀ x ∈ rest, x.frame ≠ .driveOff) : insertDriveOff c (offs ++ rest) = offs ++ c :: rest := by
  induction offs with
  | nil =>
    cases rest with
    | nil => rfl
    | cons x xs => exact if_neg (behind x List.mem_cons_self)
  | cons x xs ih =>
    exact (if_pos (front x List.mem_cons_self)).trans
      (congrArg (x :: ·) (ih (fun y hy => front y (List.mem_cons_of_mem x hy))))

/-- Of DRIVE OFFs at the head, fewer than 16, none leaves to make room. -/
theorem driveOffRoom_append (a : NodeId) {offs rest : List Command} (front : ∀ x ∈ offs, x.frame = .driveOff)
    (few : offs.length < Config.commandSlots) :
    ∃ left, driveOffRoom a (offs ++ rest) = offs ++ left ∧ ∀ x ∈ left, x ∈ rest := by
  have stay : offs.filter (fun x => !isRaiseFor a x) = offs := by
    refine List.filter_eq_self.2 (fun x hx => ?_)
    unfold isRaiseFor
    rw [front x hx]
    simp
  unfold driveOffRoom
  split
  · refine ⟨(rest.take (Config.commandSlots - 1 - offs.length)).filter (fun x => !isRaiseFor a x), ?_, fun x hx => ?_⟩
    · rw [List.take_append, List.take_of_length_le (by omega), List.filter_append, stay]
    · exact List.mem_of_mem_take (List.mem_of_mem_filter hx)
  · refine ⟨rest.filter (fun x => !isRaiseFor a x), ?_, fun x hx => List.mem_of_mem_filter hx⟩
    rw [List.filter_append, stay]

/-- A command pushed out that is no DRIVE OFF leaves every DRIVE OFF outstanding that was. -/
theorem tellDropped_outOffs {c : Command} (h : c.frame ≠ .driveOff) (s : State) : outOffs (tellDropped c s) = outOffs s := by
  have altered : ∀ (l : LaneId) (e : LaneEnd) (f : Station → Station), (∀ x : Station, (f x).outOff = x.outOff) →
      outOffs (modStation l e f s) = outOffs s := by
    intro l e f hf
    funext k j
    unfold outOffs
    rw [modStation_stations]
    split
    · exact hf _
    · rfl
  unfold tellDropped
  split
  · unfold holdReset
    split <;> rfl
  · rfl
  · rfl
  · rfl
  · unfold stationRetry
    split
    · exact altered _ _ _ (fun _ => rfl)
    · exact altered _ _ _ (fun _ => rfl)
    · rename_i off
      exact absurd off h
    · exact altered _ _ _ (fun _ => rfl)
    · rfl
  · split <;> rfl
  · unfold passDropped passEnds
    rw [makeReady_rest]
    rfl

theorem tellAllDropped_outOffs {cs : List Command} (h : ∀ c ∈ cs, c.frame ≠ .driveOff) (s : State) :
    outOffs (cs.foldl (fun s c => tellDropped c s) s) = outOffs s := by
  induction cs generalizing s with
  | nil => rfl
  | cons c cs ih =>
    rw [List.foldl_cons, ih (fun x hx => h x (List.mem_cons_of_mem c hx)), tellDropped_outOffs (h c List.mem_cons_self)]

/-- A DRIVE OFF placed behind fewer than 16 others: none of them leaves, and none loses its mark. -/
theorem placeDriveOff_behind (c : Command) {s : State} {offs rest : List Command} (queue : s.bus.queue = offs ++ rest)
    (front : ∀ x ∈ offs, x.frame = .driveOff) (behind : ∀ x ∈ rest, x.frame ≠ .driveOff)
    (few : offs.length < Config.commandSlots) :
    (∃ later, (placeDriveOff c s).bus.queue = (offs ++ [c]) ++ later ∧ ∀ x ∈ later, x.frame ≠ .driveOff)
      ∧ (placeDriveOff c s).bus.queue.length ≤ Config.commandSlots ∧ outOffs (placeDriveOff c s) = outOffs s := by
  obtain ⟨left, room, subset⟩ := driveOffRoom_append c.node (rest := rest) front few
  have leftOthers : ∀ x ∈ left, x.frame ≠ .driveOff := fun x hx => behind x (subset x hx)
  refine ⟨?_, ?_, ?_⟩
  · obtain ⟨resets, placed, -⟩ := placeDriveOff_queue c s
    refine ⟨left ++ resets.map HeldReset.command, ?_, fun x hx => ?_⟩
    · rw [placed, queue, room, insertDriveOff_append front leftOthers]
      simp
    · rcases List.mem_append.1 hx with waiting | held
      · exact leftOthers x waiting
      · obtain ⟨r, -, rfl⟩ := List.mem_map.1 held
        exact CommandFrame.noConfusion
  · obtain ⟨-, -, length, -⟩ := placeDriveOff_queue c s
    exact length
  · unfold placeDriveOff
    extract_lets q pushed q' raises q'' t
    have pushedOthers : ∀ x ∈ pushed, x.frame ≠ .driveOff := by
      intro x hx
      unfold pushed at hx
      split at hx
      · rw [show q = offs ++ rest from queue, List.drop_append, List.drop_of_length_le (by omega), List.nil_append] at hx
        exact behind x (List.mem_of_mem_drop hx)
      · exact absurd hx List.not_mem_nil
    have raisesOthers : ∀ x ∈ raises, x.frame ≠ .driveOff := by
      intro x hx off
      have raise := (List.mem_filter.1 hx).2
      unfold isRaiseFor at raise
      rw [off] at raise
      simp at raise
    rw [tellAllDropped_outOffs raisesOthers]
    exact tellAllDropped_outOffs pushedOthers _

/-! ## The drive commands of an assertion (R117) -/

theorem offerDriveOff_refused {l : LaneId} {e : LaneEnd} {a : NodeId} {s : State} (ha : (s.bus.nodes[a]).state ≠ .active) :
    offerDriveOff l e a s = s := by
  unfold offerDriveOff
  rw [offer_notActive ha rfl]

/-- A DRIVE OFF taken: it is placed, and its station has it outstanding. -/
def driveOffSent (l : LaneId) (e : LaneEnd) (a : NodeId) (s : State) : State :=
  modStation l e (fun x => { x with outOff := true, retryOff := none })
    (placeDriveOff (offered a .driveOff (.station l e)) s)

theorem offerDriveOff_placed {l : LaneId} {e : LaneEnd} {a : NodeId} {s : State} (ha : (s.bus.nodes[a]).state = .active)
    (room : ¬ (Config.commandSlots ≤ s.bus.queue.length ∧ s.bus.queue.all (fun x => x.frame == .driveOff))) :
    offerDriveOff l e a s = driveOffSent l e a s := by
  unfold offerDriveOff
  rw [offer_mayGo (.inl ha), if_neg (show ¬ _ < CommandFrame.driveOff.payload.length from Nat.not_lt_zero _), if_pos rfl,
    if_neg room]
  rfl

/-- The DRIVE OFFs of an assertion offered in turn: those queued stand at the head with their marks, and a mark that was not
there before is of a DRIVE OFF queued since. -/
structure StopRound (s t : State) : Prop where
  offers : OfferFrame s t
  length : t.bus.queue.length ≤ Config.commandSlots
  queue : ∃ offs rest, t.bus.queue = offs ++ rest ∧ Outstanding .driveOff (outOffs t) offs ∧ ∀ c ∈ rest, c.frame ≠ .driveOff
  marks : ∀ l e, outOffs t l e = outOffs s l e ∨ ∀ a, filledNode s (.station l e) = some a →
    offered a .driveOff (.station l e) ∈ t.bus.queue

theorem StopRound.begin {s : State} (length : s.bus.queue.length ≤ Config.commandSlots)
    (none_ : ∀ c ∈ s.bus.queue, c.frame ≠ .driveOff) : StopRound s s :=
  ⟨.refl s, length, ⟨[], s.bus.queue, rfl, .nil _ _, none_⟩, fun _ _ => .inl rfl⟩

/-- While a station waits for its DRIVE OFF the queue is not full of them. -/
theorem StopRound.room {s t : State} (h : StopRound s t) {l : LaneId} {e : LaneEnd} (idle : outOffs t l e = false) :
    ¬ (Config.commandSlots ≤ t.bus.queue.length ∧ t.bus.queue.all (fun x => x.frame == .driveOff)) := by
  obtain ⟨offs, rest, queue, outstanding, behind⟩ := h.queue
  have few := outstanding.room idle
  rintro ⟨full, all⟩
  rw [queue, List.length_append] at full
  obtain ⟨c, hc⟩ := List.exists_mem_of_length_pos (l := rest) (by omega)
  rw [queue, List.all_append, Bool.and_eq_true] at all
  exact behind c hc (by simpa using List.all_eq_true.1 all.2 c hc)

/-- One more DRIVE OFF: those before it stay queued and marked. -/
theorem StopRound.sent {s t : State} (h : StopRound s t) {l : LaneId} {e : LaneEnd} {a : NodeId}
    (frame : OfferFrame t (driveOffSent l e a t)) (filled : filledNode s (.station l e) = some a)
    (idle : outOffs t l e = false) : StopRound s (driveOffSent l e a t)
      ∧ (∀ k j, outOffs t k j = true → outOffs (driveOffSent l e a t) k j = true)
      ∧ outOffs (driveOffSent l e a t) l e = true := by
  obtain ⟨offs, rest, queue, outstanding, behind⟩ := h.queue
  obtain ⟨⟨later, placed, others⟩, length, marks⟩ := placeDriveOff_behind (offered a .driveOff (.station l e)) queue
    outstanding.frame behind (outstanding.room idle)
  have queued : (driveOffSent l e a t).bus.queue = (offs ++ [offered a .driveOff (.station l e)]) ++ later := placed
  have marked : ∀ k j, outOffs (driveOffSent l e a t) k j = if l = k ∧ e = j then true else outOffs t k j := by
    intro k j
    rw [← marks]
    unfold outOffs driveOffSent
    rw [modStation_stations]
    split <;> rfl
  have kept : ∀ k j, outOffs t k j = true → outOffs (driveOffSent l e a t) k j = true := fun k j was => by
    rw [marked, was, ite_self]
  have now : outOffs (driveOffSent l e a t) l e = true := (marked l e).trans (if_pos ⟨rfl, rfl⟩)
  refine ⟨⟨h.offers.trans frame, length, ⟨_, later, queued, outstanding.add idle kept now a, others⟩, fun k j => ?_⟩,
    kept, now⟩
  by_cases own : l = k ∧ e = j
  · obtain ⟨rfl, rfl⟩ := own
    refine .inr (fun b hb => ?_)
    cases filled.symm.trans hb
    rw [queued]
    simp
  · rw [marked, if_neg own]
    refine (h.marks k j).imp_right (fun member b hb => ?_)
    have before := member b hb
    rw [queue] at before
    have off := (List.mem_append.1 before).resolve_right (fun other => behind _ other rfl)
    rw [queued]
    simp [off]

/-- A station's turn: DRIVE OFF is queued for it where it is FILLED by an ACTIVE node and has none outstanding. -/
theorem StopRound.turn {s t : State} (h : StopRound s t) (l : LaneId) (e : LaneEnd) : StopRound s (stopDrive l e t)
    ∧ (∀ k j, outOffs t k j = true → outOffs (stopDrive l e t) k j = true)
    ∧ ∀ a, filledNode s (.station l e) = some a → (s.bus.nodes[a]).state = .active →
      outOffs (stopDrive l e t) l e = true := by
  have filled : filledNode t (.station l e) = filledNode s (.station l e) := filledNode_roles h.offers.roles _
  unfold stopDrive
  rw [filled]
  cases node : filledNode s (.station l e) with
  | none => exact ⟨h, fun _ _ => id, fun a ha => nomatch ha⟩
  | some a =>
    dsimp only
    split
    · rename_i out
      exact ⟨h, fun _ _ => id, fun _ _ _ => out⟩
    · rename_i waits
      have idle : outOffs t l e = false := Bool.not_eq_true _ ▸ waits
      by_cases active : (s.bus.nodes[a]).state = .active
      · have frame := offerDriveOff_frame l e a t
        rw [offerDriveOff_placed (by rw [h.offers.nodes]; exact active) (h.room idle)] at frame ⊢
        obtain ⟨round, kept, now⟩ := h.sent frame node idle
        exact ⟨round, kept, fun _ _ _ => now⟩
      · rw [offerDriveOff_refused (by rw [h.offers.nodes]; exact active)]
        exact ⟨h, fun _ _ => id, fun b hb on => absurd (Option.some.inj hb ▸ on) active⟩

/-- The sixteen turns of an assertion. -/
def stopDrives (s : State) : State := allStations.foldl (fun s p => stopDrive p.1 p.2 s) s

theorem stopDrives_round {s : State} (h : StopRound s s) : StopRound s (stopDrives s) := by
  unfold stopDrives
  exact LaneOps.foldl (P := StopRound s) (fun _ p hu => (hu.turn p.1 p.2).1) allStations h

/-- Behind the turns every station FILLED by an ACTIVE node has a DRIVE OFF outstanding. -/
theorem stopDrives_marked {s : State} (h : StopRound s s) {l : LaneId} {e : LaneEnd} {a : NodeId}
    (filled : filledNode s (.station l e) = some a) (active : (s.bus.nodes[a]).state = .active) :
    outOffs (stopDrives s) l e = true := by
  have turn := fun (u : State) (p : LaneId × LaneEnd) (hu : StopRound s u) => hu.turn p.1 p.2
  unfold stopDrives
  exact foldl_establishes (I := StopRound s) (Q := fun u => outOffs u l e = true) (x := (l, e))
    (fun u p hu => (turn u p hu).1) (fun u p hu => (turn u p hu).2.1 l e)
    (fun u hu => (turn u (l, e) hu).2.2 a filled active) (mem_allStations l e) h

/-! ## Lanes entering HELD under the stop (R113, R117) -/

/-- The line is asserted, and no station FILLED by an ACTIVE node waits for its DRIVE OFF. -/
structure StopsSent (s : State) : Prop where
  asserted : s.yardStop = true
  sent : ∀ l e a, filledNode s (.station l e) = some a → (s.bus.nodes[a]).state = .active → outOffs s l e = true

/-- What lane work under the stop leaves: the commands queued stay, and the marks of the DRIVE OFFs. -/
structure StillFrame (s t : State) : Prop where
  yardStop : t.yardStop = s.yardStop
  nodes : t.bus.nodes = s.bus.nodes
  roles : t.plan.roles = s.plan.roles
  marks : outOffs t = outOffs s
  queue : ∀ c ∈ s.bus.queue, c ∈ t.bus.queue

theorem StopsSent.kept {s t : State} (h : StopsSent s) (k : StillFrame s t) : StopsSent t where
  asserted := k.yardStop.trans h.asserted
  sent l e a filled active := by
    rw [k.marks]
    refine h.sent l e a ?_ (k.nodes ▸ active)
    rw [← filledNode_roles k.roles]
    exact filled

/-- An offer that is no DRIVE OFF adds to the queue at most its command (R63). -/
theorem offer_adds {a : NodeId} {f : CommandFrame} {o : Origin} (hf : f ≠ .driveOff) (s : State) :
    ∃ more, (offer a f o s).1 = modBus (fun x => { x with queue := x.queue ++ more }) s := by
  have same : s = modBus (fun x => { x with queue := x.queue ++ [] }) s := by simp [modBus]
  by_cases may : f.mayGo (s.bus.nodes[a])
  · rw [offer_mayGo may, if_neg hf]
    split_ifs
    · exact ⟨[], same⟩
    · exact ⟨[], same⟩
    · exact ⟨[offered a f o], rfl⟩
  · obtain ⟨inactive, noReset⟩ := not_or.1 may
    rw [offer_notActive inactive (Bool.not_eq_true _ ▸ noReset)]
    exact ⟨[], same⟩

namespace StillFrame
variable {s t u : State}

theorem refl (s : State) : StillFrame s s := ⟨rfl, rfl, rfl, rfl, fun _ => id⟩

theorem trans (h : StillFrame s t) (k : StillFrame t u) : StillFrame s u :=
  ⟨k.yardStop.trans h.yardStop, k.nodes.trans h.nodes, k.roles.trans h.roles, k.marks.trans h.marks,
    fun c hc => k.queue c (h.queue c hc)⟩

theorem modLane {l : LaneId} {f : Lane → Lane} (hf : ∀ (x : Lane) (e : LaneEnd), ((f x).station e).outOff = (x.station e).outOff)
    (h : StillFrame s t) : StillFrame s (modLane l f t) := by
  refine h.trans ⟨rfl, rfl, rfl, ?_, fun _ => id⟩
  funext k e
  unfold outOffs
  simp only [Fin.getElem_fin, modLane_seq, getElem_alter]
  split
  · exact hf _ e
  · rfl

theorem modStation {l : LaneId} {e : LaneEnd} {f : Station → Station} (hf : ∀ x : Station, (f x).outOff = x.outOff)
    (h : StillFrame s t) : StillFrame s (modStation l e f t) := by
  refine h.trans ⟨rfl, rfl, rfl, ?_, fun _ => id⟩
  funext k j
  unfold outOffs
  rw [modStation_stations]
  split
  · exact hf _
  · rfl

theorem offer {a : NodeId} {f : CommandFrame} {o : Origin} (hf : f ≠ .driveOff) (h : StillFrame s t) :
    StillFrame s (offer a f o t).1 := by
  obtain ⟨more, added⟩ := offer_adds (a := a) (o := o) hf t
  rw [added]
  exact h.trans ⟨rfl, rfl, rfl, rfl, fun c hc => List.mem_append_left _ hc⟩

theorem withdraw {l : LaneId} (h : StillFrame s t) : StillFrame s (withdraw l t) := by
  rw [withdraw_rest]
  exact h.trans ⟨rfl, rfl, rfl, rfl, fun _ => id⟩

theorem offerDisplay {l : LaneId} {d : Display} (h : StillFrame s t) : StillFrame s (offerDisplay l d t) := by
  unfold Machine.offerDisplay
  split
  · exact h.offer CommandFrame.noConfusion
  · exact h

theorem showState {l : LaneId} (h : StillFrame s t) : StillFrame s (showState l t) := by
  unfold Machine.showState
  split
  · exact h.offerDisplay
  · exact h

theorem offerSignal {l : LaneId} {e : LaneEnd} {a : NodeId} (h : StillFrame s t) : StillFrame s (offerSignal l e a t) := by
  unfold Machine.offerSignal
  dsimp only
  split
  · exact h
  · have offers := h.offer (a := a) (f := .signal ((t.seq.lanes[l]).station e).wantSignal) (o := .station l e)
      CommandFrame.noConfusion
    split <;> rename_i offered <;> rw [offered] at offers
    · exact modStation (fun _ => rfl) offers
    · exact modStation (fun _ => rfl) offers
    · exact offers

theorem offerArm {l : LaneId} {e : LaneEnd} {a : NodeId} {c : ArmCommand} (h : StillFrame s t) :
    StillFrame s (offerArm l e a c t).1 := by
  unfold Machine.offerArm
  have offers := h.offer (a := a) (f := .arm c) (o := .station l e) CommandFrame.noConfusion
  split <;> rename_i offered <;> rw [offered] at offers <;> dsimp only at offers ⊢
  · exact modStation (fun _ => rfl) offers
  · exact modStation (fun _ => rfl) offers
  · exact offers

theorem offerArmDue {l : LaneId} {e : LaneEnd} {a : NodeId} (h : StillFrame s t) : StillFrame s (offerArmDue l e a t).1 := by
  unfold Machine.offerArmDue
  split
  · exact h
  · rename_i c _
    have offers := h.offerArm (l := l) (e := e) (a := a) (c := c)
    split <;> rename_i offered <;> rw [offered] at offers <;> exact offers

/-- Under the stop no drive command is offered but DRIVE OFF, and none of those waits. -/
theorem offerDrive (law : StopsSent t) {l : LaneId} {e : LaneEnd} {a : NodeId} (filled : filledNode t (.station l e) = some a) :
    Machine.offerDrive l e a t = t := by
  unfold Machine.offerDrive
  dsimp only
  rw [law.asserted]
  split
  · rfl
  · rename_i idle
    by_cases active : (t.bus.nodes[a]).state = .active
    · exact absurd (.inl (law.sent l e a filled active)) idle
    · rw [offerDriveOff_refused active, ite_self]
      rfl

theorem offerStation {l : LaneId} {e : LaneEnd} (law : StopsSent s) (h : StillFrame s t) :
    StillFrame s (offerStation l e t).1 := by
  unfold Machine.offerStation
  cases filled : filledNode t (.station l e) with
  | none => exact h
  | some a =>
    dsimp only
    rw [offerDrive (law.kept h) filled]
    exact h.offerSignal.offerArmDue

theorem settleStill {l : LaneId} (law : StopsSent s) (h : StillFrame s t) : StillFrame s (settleStill l t) := by
  have wanted : StillFrame s (wantStations l .none .none .red .red t) :=
    modStation (fun _ => rfl) (modStation (fun _ => rfl) h)
  exact ((wanted.offerStation law).offerStation law).showState

end StillFrame

/-- A lane that enters HELD, before its stations are settled. -/
def holding (l : LaneId) (reason : HoldReason) (resume : LaneState) (s : State) : State :=
  modLane l (fun x => { x with state := .held, hold := some (reason, resume), timer := none }) (withdraw l s)

/-- A lane that enters HELD settles its stations; the visit unit told changes its table and queues records. -/
theorem holdLane_settled (l : LaneId) (reason : HoldReason) (resume : LaneState) (s : State) : ∃ visits port,
    holdLane l reason resume s
      = { settleStill l (holding l reason resume s) with visits := visits, port := port } := by
  unfold holdLane
  extract_lets s1 s2 u v
  have settled : v = u := rfl
  clear_value v u
  subst settled
  split
  · split
    · obtain ⟨told, -⟩ := holdTold_eq _ reason v
      exact ⟨_, _, told⟩
    · exact ⟨v.visits, v.port, rfl⟩
  · exact ⟨v.visits, v.port, rfl⟩

theorem holdLane_still {l : LaneId} {reason : HoldReason} {resume : LaneState} {s : State} (law : StopsSent s) :
    StillFrame s (holdLane l reason resume s) := by
  obtain ⟨visits, port, held⟩ := holdLane_settled l reason resume s
  have still : StillFrame s (settleStill l (holding l reason resume s)) :=
    StillFrame.settleStill law (StillFrame.modLane (fun _ e => by cases e <;> rfl) (StillFrame.refl s).withdraw)
  generalize settleStill l (holding l reason resume s) = u at held still
  rw [held]
  exact still.trans ⟨rfl, rfl, rfl, rfl, fun _ => id⟩

/-- The lanes a yard stop meets, one by one. -/
def stopLanes (s : State) : State := (List.finRange 8).foldl (fun s l => stopLane l s) s

theorem stopLanes_still {s : State} (law : StopsSent s) : StillFrame s (stopLanes s) := by
  refine LaneOps.foldl (fun t l h => ?_) _ (.refl s)
  unfold stopLane
  split
  · exact h.trans (holdLane_still (law.kept h))
  · exact h

/-! ### What of a lane the stop decides -/

/-- A lane's state and hold. -/
def Lane.standing (x : Lane) : LaneState × Option (HoldReason × LaneState) := (x.state, x.hold)

/-- A station's mark and motion timer. -/
def Station.halt (x : Station) : Bool × Option (ArmCommand × Nat) := (x.driveOffMark, x.motion)

/-- A standing once the yard stop has met the lane. -/
def stoppedStanding (p : LaneState × Option (HoldReason × LaneState)) : LaneState × Option (HoldReason × LaneState) :=
  if p.1.faults && p.1 != .idle then (.held, some (.yardStop, p.1)) else p

theorem holdLane_standing (l k : LaneId) (reason : HoldReason) (resume : LaneState) (s : State) :
    ((holdLane l reason resume s).seq.lanes[k]).standing
      = if l = k then (.held, some (reason, resume)) else (s.seq.lanes[k]).standing := by
  obtain ⟨visits, port, held⟩ := holdLane_settled l reason resume s
  have entered : ((holding l reason resume s).seq.lanes[k]).standing
      = if l = k then (.held, some (reason, resume)) else (s.seq.lanes[k]).standing := by
    simp only [holding, Fin.getElem_fin, modLane_seq, getElem_alter, withdraw_seq]
    split <;> rfl
  have settled := congrArg Lane.standing (settleStill_lane l k (holding l reason resume s))
  generalize settleStill l (holding l reason resume s) = u at held settled
  rw [held]
  exact settled.trans entered

theorem stopLane_standing (l k : LaneId) (s : State) : ((stopLane l s).seq.lanes[k]).standing
    = if l = k then stoppedStanding (s.seq.lanes[k]).standing else (s.seq.lanes[k]).standing := by
  unfold stopLane
  split
  · rename_i meets
    rw [holdLane_standing]
    split
    · rename_i same
      subst same
      exact (if_pos meets).symm
    · rfl
  · rename_i passes
    split
    · rename_i same
      subst same
      exact (if_neg passes).symm
    · rfl

/-- A fold over distinct places, each step of which alters its own place alone, alters each of them once. -/
theorem foldl_places {ι α : Type} [DecidableEq ι] {f : State → ι → State} {g : State → ι → α} {h : α → α}
    (step : ∀ s i k, g (f s i) k = if i = k then h (g s k) else g s k) {is : List ι} (distinct : is.Nodup) (s : State) (k : ι) :
    g (is.foldl f s) k = if k ∈ is then h (g s k) else g s k := by
  induction is generalizing s with
  | nil => rfl
  | cons i is ih =>
    obtain ⟨fresh, rest⟩ := List.nodup_cons.1 distinct
    rw [List.foldl_cons, ih rest, step]
    by_cases same : i = k
    · subst same
      simp [fresh]
    · simp [same, Ne.symm same]

theorem stopLanes_standing (s : State) (l : LaneId) :
    ((stopLanes s).seq.lanes[l]).standing = stoppedStanding (s.seq.lanes[l]).standing := by
  have each := foldl_places (f := fun s l => stopLane l s) (g := fun s l => (s.seq.lanes[l]).standing) (h := stoppedStanding)
    (fun s l k => stopLane_standing l k s) (List.nodup_finRange 8) s l
  rw [if_pos (List.mem_finRange l)] at each
  unfold stopLanes
  exact each

theorem allStations_nodup : allStations.Nodup := by decide +kernel

theorem markStations_station (s : State) (l : LaneId) (e : LaneEnd) :
    ((markStations s).seq.lanes[l]).station e = ((s.seq.lanes[l]).station e).stopped := by
  have step : ∀ (s : State) (p q : LaneId × LaneEnd), ((modStation p.1 p.2 Station.stopped s).seq.lanes[q.1]).station q.2
      = if p = q then ((s.seq.lanes[q.1]).station q.2).stopped else (s.seq.lanes[q.1]).station q.2 := fun s p q =>
    (modStation_stations p.1 q.1 p.2 q.2 Station.stopped s).trans (if_congr Prod.ext_iff.symm rfl rfl)
  have each := foldl_places (g := fun s p => (s.seq.lanes[p.1]).station p.2) step allStations_nodup s (l, e)
  rw [if_pos (mem_allStations l e)] at each
  unfold markStations
  exact each

end Sys2Proof.Machine

namespace Sys2Proof.Machine

/-! ## The yard stop line asserted (R117) -/

theorem setYardStop_asserts {s : State} (on : s.powered = true) (released : s.yardStop = false) :
    setYardStop true s = assertStop { s with yardStop := true } := by
  unfold setYardStop
  dsimp only
  rw [on, released]
  rfl

theorem setYardStop_releases {s : State} (on : s.powered = true) (asserted : s.yardStop = true) :
    setYardStop false s = deassertStop { s with yardStop := false } := by
  unfold setYardStop
  dsimp only
  rw [on, asserted]
  rfl

theorem OfferFrame.halt {s t : State} (h : OfferFrame s t) (l : LaneId) (e : LaneEnd) :
    ((t.seq.lanes[l]).station e).halt = ((s.seq.lanes[l]).station e).halt := by
  cases e with
  | entry =>
    have core := congrArg (fun x : Lane => x.entry.halt) (h.lanes l)
    exact core
  | exit =>
    have core := congrArg (fun x : Lane => x.exit.halt) (h.lanes l)
    exact core

theorem OfferFrame.standing {s t : State} (h : OfferFrame s t) (l : LaneId) :
    (t.seq.lanes[l]).standing = (s.seq.lanes[l]).standing := by
  rw [h.lane l]
  rfl

/-- Marking the stations changes lanes and nothing else, and of the lanes no standing. -/
theorem markStations_rest (s : State) :
    markStations s = { s with seq := { s.seq with lanes := (markStations s).seq.lanes } }
      ∧ ∀ l : LaneId, ((markStations s).seq.lanes[l]).standing = (s.seq.lanes[l]).standing := by
  refine LaneOps.foldl (P := fun u => u = { s with seq := { s.seq with lanes := u.seq.lanes } }
    ∧ ∀ l : LaneId, (u.seq.lanes[l]).standing = (s.seq.lanes[l]).standing) (fun u p hu => ⟨?_, fun l => ?_⟩) _
    ⟨rfl, fun _ => rfl⟩
  · have marked : modStation p.1 p.2 Station.stopped u
        = { u with seq := { u.seq with lanes := (modStation p.1 p.2 Station.stopped u).seq.lanes } } := rfl
    rw [marked, hu.1]
  · rw [modStation_lane]
    exact hu.2 l

theorem stopDrive_frame (l : LaneId) (e : LaneEnd) (s : State) : OfferFrame s (stopDrive l e s) := by
  unfold stopDrive
  split
  · split
    · exact .refl s
    · exact offerDriveOff_frame l e _ s
  · exact .refl s

theorem stopDrives_frame (s : State) : OfferFrame s (stopDrives s) := by
  unfold stopDrives
  exact LaneOps.foldl (P := OfferFrame s) (fun u p hu => hu.trans (stopDrive_frame p.1 p.2 u)) allStations (.refl s)

theorem wantStations_halt (l k : LaneId) (e : LaneEnd) (s : State) :
    (((wantStations l .none .none .red .red s).seq.lanes[k]).station e).halt = ((s.seq.lanes[k]).station e).halt := by
  have kept : ∀ (j : LaneEnd) (u : State), (((modStation l j (fun x => { x with wantArm := .none, wantSignal := .red })
      u).seq.lanes[k]).station e).halt = ((u.seq.lanes[k]).station e).halt := by
    intro j u
    rw [modStation_stations]
    split <;> rfl
  unfold wantStations
  rw [kept, kept]

theorem settleStill_halt (l k : LaneId) (e : LaneEnd) (s : State) :
    (((settleStill l s).seq.lanes[k]).station e).halt = ((s.seq.lanes[k]).station e).halt := by
  rw [(settleStill_frame l s).halt, wantStations_halt]

/-- A lane that enters HELD leaves every station's mark and motion timer. -/
theorem holdLane_halt (l k : LaneId) (e : LaneEnd) (reason : HoldReason) (resume : LaneState) (s : State) :
    (((holdLane l reason resume s).seq.lanes[k]).station e).halt = ((s.seq.lanes[k]).station e).halt := by
  obtain ⟨visits, port, held⟩ := holdLane_settled l reason resume s
  have entered : (((holding l reason resume s).seq.lanes[k]).station e).halt = ((s.seq.lanes[k]).station e).halt := by
    simp only [holding, Fin.getElem_fin, modLane_seq, getElem_alter, withdraw_seq]
    split
    · cases e <;> rfl
    · rfl
  rw [held]
  dsimp only
  rw [settleStill_halt, entered]

theorem stopLanes_halt (s : State) (l : LaneId) (e : LaneEnd) :
    (((stopLanes s).seq.lanes[l]).station e).halt = ((s.seq.lanes[l]).station e).halt := by
  have step : ∀ (u : State) (k : LaneId), ((u.seq.lanes[l]).station e).halt = ((s.seq.lanes[l]).station e).halt →
      (((stopLane k u).seq.lanes[l]).station e).halt = ((s.seq.lanes[l]).station e).halt := by
    intro u k hu
    unfold stopLane
    split
    · rw [holdLane_halt, hu]
    · exact hu
  unfold stopLanes
  exact LaneOps.foldl (P := fun u => ((u.seq.lanes[l]).station e).halt = ((s.seq.lanes[l]).station e).halt) step _ rfl

/-- The state in which an assertion offers its DRIVE OFFs: the record queued, the stations marked. -/
def stopMarked (s : State) : State := markStations (queueRecord (.yardStop true) s)

theorem assertStop_eq (s : State) : assertStop s = stopLanes (stopDrives (stopMarked s)) := rfl

theorem stopMarked_spec (s : State) : (stopMarked s).yardStop = s.yardStop ∧ (stopMarked s).bus = s.bus
    ∧ (stopMarked s).plan = s.plan ∧ (stopMarked s).port = (queueRecord (.yardStop true) s).port
    ∧ (∀ (l : LaneId) (e : LaneEnd), ((stopMarked s).seq.lanes[l]).station e = ((s.seq.lanes[l]).station e).stopped)
    ∧ ∀ l : LaneId, ((stopMarked s).seq.lanes[l]).standing = (s.seq.lanes[l]).standing := by
  have recorded := (queueRecord_spec (.yardStop true) s).1.rest
  obtain ⟨rest, standing⟩ := markStations_rest (queueRecord (.yardStop true) s)
  have stations := markStations_station (queueRecord (.yardStop true) s)
  have seq : (queueRecord (.yardStop true) s).seq = s.seq := by rw [recorded]
  rw [seq] at standing stations
  unfold stopMarked
  exact ⟨by rw [rest, recorded], by rw [rest, recorded], by rw [rest, recorded], by rw [rest], stations, standing⟩

/-- The record of an assertion or a deassertion, with room for it. -/
theorem stopRecord (level : Bool) {s : State} (room : 1 ≤ unclaimedFree s) :
    ∃ r ∈ (queueRecord (.yardStop level) s).port.records, r.body = .yardStop level ∧ r.number = s.port.nextRecord := by
  obtain ⟨-, -, records, -⟩ := queueRecord_spec (.yardStop level) s
  exact ⟨{ number := s.port.nextRecord, time := stamp s, body := .yardStop level },
    records room ▸ List.mem_append_right _ (List.mem_singleton_self _), rfl, rfl⟩

/-- The DRIVE OFFs of an assertion that finds none queued: each is outstanding and queued at the end. -/
theorem assertStop_drives {s : State} (asserted : s.yardStop = true) (length : s.bus.queue.length ≤ Config.commandSlots)
    (none_ : ∀ c ∈ s.bus.queue, c.frame ≠ .driveOff) {l : LaneId} {e : LaneEnd} {a : NodeId}
    (filled : filledNode s (.station l e) = some a) (active : (s.bus.nodes[a]).state = .active)
    (idle : outOffs s l e = false) :
    outOffs (assertStop s) l e = true ∧ offered a .driveOff (.station l e) ∈ (assertStop s).bus.queue := by
  obtain ⟨line, bus, plan, -, stations, -⟩ := stopMarked_spec s
  set u := stopMarked s with hu
  have begins : StopRound u u := .begin (by rw [bus]; exact length) (by rw [bus]; exact none_)
  have round := stopDrives_round begins
  have roles : u.plan.roles = s.plan.roles := by rw [plan]
  have filled' : filledNode u (.station l e) = some a := (filledNode_roles roles _).trans filled
  have marked := stopDrives_marked begins filled' (by rw [bus]; exact active)
  have law : StopsSent (stopDrives u) := by
    refine ⟨round.offers.yardStop.trans (line.trans asserted), fun l e a filled active => stopDrives_marked (a := a) begins ?_ ?_⟩
    · rw [← filledNode_roles round.offers.roles]
      exact filled
    · rw [← round.offers.nodes]
      exact active
  have still := stopLanes_still law
  have before : outOffs u l e = false := by
    unfold outOffs
    rw [stations]
    exact idle
  rw [assertStop_eq, ← hu]
  refine ⟨by rw [still.marks]; exact marked, still.queue _ ?_⟩
  rcases round.marks l e with same | queued
  · exact absurd (marked.symm.trans (same.trans before)) Bool.noConfusion
  · exact queued a filled'

end Sys2Proof.Machine

namespace Sys2Proof.Machine

/-! ## The yard stop line deasserted (R116, R117) -/

theorem offerDriveOn_refused {l : LaneId} {e : LaneEnd} {a : NodeId} {s : State} (ha : (s.bus.nodes[a]).state ≠ .active) :
    offerDriveOn l e a s = s := by
  unfold offerDriveOn
  rw [offer_notActive ha rfl]

/-- A DRIVE ON taken: it joins the tail and its station has it outstanding. -/
def driveOnSent (l : LaneId) (e : LaneEnd) (a : NodeId) (s : State) : State :=
  modStation l e (fun x => { x with outOn := true, retryOn := none })
    (modBus (fun x => { x with queue := x.queue ++ [offered a .driveOn (.station l e)] }) s)

theorem offerDriveOn_placed {l : LaneId} {e : LaneEnd} {a : NodeId} {s : State} (ha : (s.bus.nodes[a]).state = .active)
    (room : s.bus.queue.length < Config.commandSlots) : offerDriveOn l e a s = driveOnSent l e a s := by
  unfold offerDriveOn
  rw [offer_fits (.inl ha) (Nat.zero_le _) CommandFrame.noConfusion, if_neg (Nat.not_le.2 room)]
  rfl

/-- A station's drive commands outstanding and the retry timer of its DRIVE ON. -/
def Station.drives (x : Station) : Bool × Bool × Option Nat := (x.outOff, x.outOn, x.retryOn)

theorem driveOnSent_stations (l k : LaneId) (e j : LaneEnd) (a : NodeId) (s : State) :
    ((driveOnSent l e a s).seq.lanes[k]).station j = if l = k ∧ e = j
      then { (s.seq.lanes[k]).station j with outOn := true, retryOn := none } else (s.seq.lanes[k]).station j :=
  modStation_stations l k e j _ _

/-- The DRIVE ONs of a deassertion offered in turn: those queued have their marks, and a station whose drive commands are not
as they were has its own queued. -/
structure RestoreRound (s t : State) : Prop where
  offers : OfferFrame s t
  queue : Outstanding .driveOn (outOns t) t.bus.queue
  drives : ∀ (l : LaneId) (e : LaneEnd),
    ((t.seq.lanes[l]).station e).drives = ((s.seq.lanes[l]).station e).drives
      ∨ outOns t l e = true ∧ ∀ a, filledNode s (.station l e) = some a →
        offered a .driveOn (.station l e) ∈ t.bus.queue

theorem RestoreRound.begin {s : State} (h : s.bus.queue = []) : RestoreRound s s :=
  ⟨.refl s, by rw [h]; exact .nil _ _, fun _ _ => .inl rfl⟩

/-- One more DRIVE ON: those before it stay queued and marked. -/
theorem RestoreRound.sent {s t : State} (h : RestoreRound s t) {l : LaneId} {e : LaneEnd} {a : NodeId}
    (frame : OfferFrame t (driveOnSent l e a t)) (filled : filledNode s (.station l e) = some a)
    (idle : outOns t l e = false) : RestoreRound s (driveOnSent l e a t)
      ∧ (∀ k j, outOns t k j = true → outOns (driveOnSent l e a t) k j = true)
      ∧ outOns (driveOnSent l e a t) l e = true := by
  have marked : ∀ k j, outOns (driveOnSent l e a t) k j = if l = k ∧ e = j then true else outOns t k j := by
    intro k j
    unfold outOns
    rw [driveOnSent_stations]
    split <;> rfl
  have kept : ∀ k j, outOns t k j = true → outOns (driveOnSent l e a t) k j = true := fun k j was => by
    rw [marked, was, ite_self]
  have now : outOns (driveOnSent l e a t) l e = true := (marked l e).trans (if_pos ⟨rfl, rfl⟩)
  have queued : (driveOnSent l e a t).bus.queue = t.bus.queue ++ [offered a .driveOn (.station l e)] := rfl
  refine ⟨⟨h.offers.trans frame, by rw [queued]; exact h.queue.add idle kept now a, fun k j => ?_⟩, kept, now⟩
  by_cases own : l = k ∧ e = j
  · obtain ⟨rfl, rfl⟩ := own
    refine .inr ⟨now, fun b hb => ?_⟩
    cases filled.symm.trans hb
    rw [queued]
    simp
  · rw [driveOnSent_stations, if_neg own]
    refine (h.drives k j).imp_right (fun ⟨was, member⟩ => ⟨kept k j was, fun b hb => ?_⟩)
    rw [queued]
    exact List.mem_append_left _ (member b hb)

theorem restoreDrive_frame (l : LaneId) (e : LaneEnd) (s : State) : OfferFrame s (restoreDrive l e s) := by
  unfold restoreDrive
  split
  · split
    · exact offerDrive_frame l e _ s
    · exact .refl s
  · exact .refl s

/-- A station in DRIVE OFF with no drive command outstanding and no retry timer of a DRIVE ON running. -/
def Station.restores (x : Station) : Prop := x.driveOffMark = true ∧ x.drives = (false, false, none)

theorem restoreDrive_due {l : LaneId} {e : LaneEnd} {a : NodeId} {s : State} (released : s.yardStop = false)
    (filled : filledNode s (.station l e) = some a) (due : ((s.seq.lanes[l]).station e).restores) :
    restoreDrive l e s = offerDriveOn l e a s := by
  obtain ⟨mark, drives⟩ := due
  have off : ((s.seq.lanes[l]).station e).outOff = false := congrArg (·.1) drives
  have out : ((s.seq.lanes[l]).station e).outOn = false := congrArg (·.2.1) drives
  have timer : ((s.seq.lanes[l]).station e).retryOn = none := congrArg (·.2.2) drives
  unfold restoreDrive offerDrive
  rw [filled]
  dsimp only
  rw [mark, off, out, timer, released]
  simp

theorem restoreDrive_idle {l : LaneId} {e : LaneEnd} {s : State} (released : s.yardStop = false)
    (idle : ¬ ((s.seq.lanes[l]).station e).restores) : restoreDrive l e s = s := by
  unfold restoreDrive
  split
  · split
    · rename_i mark
      unfold offerDrive
      dsimp only
      rw [released, if_neg Bool.false_ne_true]
      split
      · rfl
      · rename_i none_
        obtain ⟨off, out⟩ := not_or.1 none_
        refine if_neg (fun due => idle ⟨mark, ?_⟩)
        unfold Station.drives
        rw [Bool.eq_false_iff.2 off, Bool.eq_false_iff.2 out, Option.isNone_iff_eq_none.1 due.2]
    · rfl
  · rfl

/-- A station's turn: DRIVE ON is queued for it where it is FILLED by an ACTIVE node and R110 allows it. -/
theorem RestoreRound.turn {s t : State} (h : RestoreRound s t) (released : s.yardStop = false) (l : LaneId) (e : LaneEnd) :
    RestoreRound s (restoreDrive l e t) ∧ (∀ k j, outOns t k j = true → outOns (restoreDrive l e t) k j = true)
      ∧ ∀ a, filledNode s (.station l e) = some a → (s.bus.nodes[a]).state = .active →
        ((s.seq.lanes[l]).station e).restores → outOns (restoreDrive l e t) l e = true := by
  have released' : t.yardStop = false := h.offers.yardStop.trans released
  have filled : filledNode t (.station l e) = filledNode s (.station l e) := filledNode_roles h.offers.roles _
  by_cases due : ((t.seq.lanes[l]).station e).restores
  · cases node : filledNode s (.station l e) with
    | none =>
      have vacant : restoreDrive l e t = t := by
        unfold restoreDrive
        rw [filled, node]
      rw [vacant]
      exact ⟨h, fun _ _ => id, fun a ha => nomatch ha⟩
    | some a =>
      have frame := restoreDrive_frame l e t
      rw [restoreDrive_due released' (filled.trans node) due] at frame ⊢
      by_cases active : (s.bus.nodes[a]).state = .active
      · have idle : outOns t l e = false := congrArg (·.2.1) due.2
        rw [offerDriveOn_placed (by rw [h.offers.nodes]; exact active) (h.queue.room idle)] at frame ⊢
        obtain ⟨round, kept, now⟩ := h.sent frame node idle
        exact ⟨round, kept, fun _ _ _ _ => now⟩
      · rw [offerDriveOn_refused (by rw [h.offers.nodes]; exact active)]
        exact ⟨h, fun _ _ => id, fun b hb on => absurd (Option.some.inj hb ▸ on) active⟩
  · rw [restoreDrive_idle released' due]
    refine ⟨h, fun _ _ => id, fun a _ _ ⟨mark, idle⟩ => ?_⟩
    rcases h.drives l e with same | ⟨out, -⟩
    · exact absurd ⟨(congrArg (·.1) (h.offers.halt l e)).trans mark, same.trans idle⟩ due
    · exact out

/-- The sixteen turns of a deassertion. -/
def restoreDrives (s : State) : State := allStations.foldl (fun s p => restoreDrive p.1 p.2 s) s

theorem restoreDrives_frame (s : State) : OfferFrame s (restoreDrives s) := by
  unfold restoreDrives
  exact LaneOps.foldl (P := OfferFrame s) (fun u p hu => hu.trans (restoreDrive_frame p.1 p.2 u)) allStations (.refl s)

/-- Of a deassertion with the queue empty: each DRIVE ON that is due is outstanding and queued at the end. -/
theorem restoreDrives_sent {s : State} (released : s.yardStop = false) (empty : s.bus.queue = []) {l : LaneId} {e : LaneEnd}
    {a : NodeId} (filled : filledNode s (.station l e) = some a) (active : (s.bus.nodes[a]).state = .active)
    (due : ((s.seq.lanes[l]).station e).restores) :
    outOns (restoreDrives s) l e = true ∧ offered a .driveOn (.station l e) ∈ (restoreDrives s).bus.queue := by
  have turn := fun (u : State) (p : LaneId × LaneEnd) (hu : RestoreRound s u) => hu.turn released p.1 p.2
  have round : RestoreRound s (restoreDrives s) := by
    unfold restoreDrives
    exact LaneOps.foldl (P := RestoreRound s) (fun u p hu => (turn u p hu).1) allStations (.begin empty)
  have now : outOns (restoreDrives s) l e = true := by
    unfold restoreDrives
    exact foldl_establishes (I := RestoreRound s) (Q := fun u => outOns u l e = true) (x := (l, e))
      (fun u p hu => (turn u p hu).1) (fun u p hu => (turn u p hu).2.1 l e)
      (fun u hu => (turn u (l, e) hu).2.2 a filled active due) (mem_allStations l e) (.begin empty)
  refine ⟨now, ?_⟩
  rcases round.drives l e with same | ⟨-, queued⟩
  · have out : outOns (restoreDrives s) l e = false := congrArg (·.2.1) (same.trans due.2)
    exact absurd (now.symm.trans out) Bool.noConfusion
  · exact queued a filled

/-- A lane with no resolution kept and no reweigh waiting does nothing at a deassertion. -/
theorem actKept_idle {l : LaneId} {s : State} (kept : (s.seq.lanes[l]).kept = none)
    (reweigh : (s.seq.lanes[l]).reweigh = false) : actKept l s = s := by
  unfold actKept
  rw [kept]
  unfold reweighTest
  exact if_neg (fun due => Bool.noConfusion (reweigh.symm.trans due.2.1))

theorem actKept_all {s : State} (idle : ∀ l : LaneId, (s.seq.lanes[l]).kept = none ∧ (s.seq.lanes[l]).reweigh = false) :
    (List.finRange 8).foldl (fun s l => actKept l s) s = s := by
  have step : ∀ (u : State) (l : LaneId), u = s → actKept l u = s := by
    rintro u l rfl
    obtain ⟨kept, reweigh⟩ := idle l
    exact actKept_idle kept reweigh
  exact LaneOps.foldl (P := fun u => u = s) step _ rfl

theorem deassertStop_eq (s : State) : deassertStop s
    = (List.finRange 8).foldl (fun s l => actKept l s) (restoreDrives (queueRecord (.yardStop false) s)) := rfl

theorem deassertStop_idle {s : State}
    (idle : ∀ l : LaneId, (s.seq.lanes[l]).kept = none ∧ (s.seq.lanes[l]).reweigh = false) :
    deassertStop s = restoreDrives (queueRecord (.yardStop false) s) := by
  have seq : (queueRecord (.yardStop false) s).seq = s.seq := by rw [(queueRecord_spec _ s).1.rest]
  have lanes : ∀ l : LaneId, ((restoreDrives (queueRecord (.yardStop false) s)).seq.lanes[l]).kept = none
      ∧ ((restoreDrives (queueRecord (.yardStop false) s)).seq.lanes[l]).reweigh = false := by
    intro l
    rw [(restoreDrives_frame _).lane l, seq]
    exact idle l
  rw [deassertStop_eq]
  exact actKept_all lanes

/-- The DRIVE OFFs and the holds of an assertion leave the line as the owners' work does. -/
theorem stopLanes_line (s : State) : LineFrame s (stopLanes (stopDrives s)) := by
  have ops := LineFrame.ops s
  have driven : LineFrame s (stopDrives s) := by
    unfold stopDrives
    exact LaneOps.foldl (fun _ _ hu => ops.stopDrive hu) allStations (.refl s)
  have step : ∀ (u : State) (l : LaneId), LineFrame s u → LineFrame s (stopLane l u) := by
    intro u l hu
    unfold stopLane
    split
    · exact ops.holdLane hu
    · exact hu
  unfold stopLanes
  exact LaneOps.foldl step _ driven

/-- A lane in ASKING to RELEASING is met by a yard stop. -/
theorem stoppedStanding_met {p : LaneState × Option (HoldReason × LaneState)}
    (h : p.1 ∈ [LaneState.asking, .waitBridge, .entering, .weighing, .ticketing, .releasing]) :
    stoppedStanding p = (.held, some (.yardStop, p.1)) := by
  refine if_pos ?_
  generalize p.1 = st at h
  cases st <;> revert h <;> decide

theorem stoppedStanding_rests {p : LaneState × Option (HoldReason × LaneState)}
    (h : p.1 ∈ [LaneState.closed, .idle, .held, .fault]) : stoppedStanding p = p := by
  refine if_neg ?_
  generalize p.1 = st at h
  cases st <;> revert h <;> decide

end Sys2Proof.Machine

namespace Sys2Proof.Certificates
open Sys2Proof.Machine

/-- Settles O14: an assertion marks the stations, sends the DRIVE OFFs and holds the lanes; a deassertion sends the DRIVE ONs. -/
theorem yardStopHoldsTheLanes : Obligations.YardStopHoldsTheLanes := by
  unfold Obligations.YardStopHoldsTheLanes
  refine ⟨fun s on released => ?_, fun s on asserted idle => ?_⟩
  · set u : State := { fresh s with yardStop := true } with hu
    have run : exec .yardStopAssert s = .next (assertStop u) :=
      congrArg Host.Outcome.next (setYardStop_asserts (s := fresh s) on released)
    have line := ((workFrame_workOps u).assertStop (.refl u)).yardStop
    have drives := fun (length : u.bus.queue.length ≤ 16) none_ => @assertStop_drives u rfl length none_
    obtain ⟨-, -, -, port, stations, standing⟩ := stopMarked_spec u
    have records := (stopLanes_line (stopMarked u)).records
    have halts : ∀ (l : LaneId) (e : LaneEnd), (((assertStop u).seq.lanes[l]).station e).halt = (true, none) := by
      intro l e
      rw [assertStop_eq, stopLanes_halt, (stopDrives_frame _).halt]
      exact congrArg Station.halt (stations l e)
    have standings : ∀ l : LaneId, ((assertStop u).seq.lanes[l]).standing = stoppedStanding (s.seq.lanes[l]).standing := by
      intro l
      rw [assertStop_eq, stopLanes_standing, (stopDrives_frame _).standing]
      exact congrArg stoppedStanding (standing l)
    rw [← assertStop_eq, port] at records
    generalize assertStop u = t at run line drives records halts standings
    refine ⟨t, run, line, fun room => ?_, fun l e => ⟨congrArg (·.1) (halts l e), congrArg (·.2) (halts l e)⟩,
      fun length none_ l e a => drives length none_, fun l met => ?_, fun l rests => ?_⟩
    · obtain ⟨r, member, body, number⟩ := stopRecord true (s := u) room
      exact ⟨r, records r member, body, number⟩
    · have held := (standings l).trans (stoppedStanding_met met)
      exact ⟨congrArg (·.1) held, congrArg (·.2) held⟩
    · exact congrArg (·.1) ((standings l).trans (stoppedStanding_rests rests))
  · set u : State := { fresh s with yardStop := false } with hu
    have run : exec .yardStopDeassert s = .next (deassertStop u) :=
      congrArg Host.Outcome.next (setYardStop_releases (s := fresh s) on asserted)
    rw [deassertStop_idle (s := u) idle] at run
    set v := queueRecord (.yardStop false) u with hv
    have recorded : v = { u with port := v.port } := (queueRecord_spec (.yardStop false) u).1.rest
    have released : v.yardStop = false := by rw [recorded]
    have bus : v.bus = s.bus := by rw [recorded]; rfl
    have plan : v.plan = s.plan := by rw [recorded]; rfl
    have seq : v.seq = s.seq := by rw [recorded]; rfl
    have frame := restoreDrives_frame v
    have sent := @restoreDrives_sent v released
    have standings : ∀ l : LaneId, ((restoreDrives v).seq.lanes[l]).standing = (s.seq.lanes[l]).standing := by
      intro l
      rw [frame.standing, seq]
    generalize restoreDrives v = t at run frame sent standings
    refine ⟨t, run, frame.yardStop.trans released, fun room => ?_, fun empty l e a filled active marked off out retry => ?_,
      fun l => ⟨congrArg (·.1) (standings l), congrArg (·.2) (standings l)⟩⟩
    · obtain ⟨r, member, body, number⟩ := stopRecord false (s := u) room
      exact ⟨r, by rw [frame.records]; exact member, body, number⟩
    · refine sent (by rw [bus]; exact empty) ?_ (by rw [bus]; exact active) ?_
      · rw [filledNode_roles (s := s) (by rw [plan])]
        exact filled
      · rw [seq]
        unfold Station.restores Station.drives
        rw [off, out, retry]
        exact ⟨marked, rfl⟩

end Sys2Proof.Certificates

namespace Sys2Proof.Machine

/-! ## The attention comparison of a retry (R86) -/

theorem modPlanNode_modPlanNode (a : NodeId) (f g : PlanNode → PlanNode) (s : State) :
    modPlanNode a f (modPlanNode a g s) = modPlanNode a (fun x => f (g x)) s := by
  unfold modPlanNode
  dsimp only
  rw [alter_alter]

theorem modBus_modPlanNode (a : NodeId) (f : Bus → Bus) (g : PlanNode → PlanNode) (s : State) :
    modBus f (modPlanNode a g s) = modPlanNode a g (modBus f s) := rfl

/-- A change of a plan node that leaves its binding leaves the attention wanted. -/
theorem attentionWanted_modPlanNode {a : NodeId} {f : PlanNode → PlanNode} (s : State)
    (hf : ∀ x : PlanNode, (f x).binding = x.binding) : attentionWanted (modPlanNode a f s) a = attentionWanted s a := by
  have binding := (modPlanNode_frame a f hf s).binding a
  unfold attentionWanted
  rw [show ((modPlanNode a f s).plan.nodes[a]).binding = (s.plan.nodes[a]).binding from binding]
  rfl

theorem compareAttention_right {a : NodeId} {s : State} (active : (s.bus.nodes[a]).state = .active)
    (right : (s.bus.nodes[a]).attention = attentionWanted s a) :
    compareAttention a s = modPlanNode a (fun x => { x with offer := .none }) s := by
  unfold compareAttention
  dsimp only
  rw [if_neg (not_not.2 active), if_pos right]

/-- An attention command carries no payload, so room in the queue is all it needs (R63). -/
theorem compareAttention_wrong {a : NodeId} {s : State} (active : (s.bus.nodes[a]).state = .active)
    (wrong : (s.bus.nodes[a]).attention ≠ attentionWanted s a) (idle : (s.plan.nodes[a]).offer = .none)
    (room : s.bus.queue.length < 16) : compareAttention a s =
      modPlanNode a (fun x => { x with offer := if attentionWanted s a then .onOffered else .offOffered })
        (modBus (fun x => { x with queue := x.queue
          ++ [offered a (if attentionWanted s a then .attentionOn else .attentionOff) .plan] }) s) := by
  have taken := offer_taken (f := if attentionWanted s a then .attentionOn else .attentionOff) (o := .plan) active
    (by split <;> exact Nat.zero_le _) (by split <;> exact CommandFrame.noConfusion) room
  unfold compareAttention
  dsimp only
  rw [if_neg (not_not.2 active), if_neg wrong, if_neg (not_not.2 idle), taken]
  rfl

/-- A retry timer that runs out is taken off before the comparison. -/
theorem attentionRetry_running {a : NodeId} {s : State} {n : Nat} (h : (s.plan.nodes[a]).retry = some n) :
    attentionRetry a s = compareAttention a (modPlanNode a (fun x => { x with retry := none }) s) := by
  unfold attentionRetry
  rw [h]
  rfl

/-! ## The offers of a station's retry (R110, R111, R117) -/

theorem modStation_modStation (l : LaneId) (e : LaneEnd) (f g : Station → Station) (s : State) :
    modStation l e f (modStation l e g s) = modStation l e (fun x => f (g x)) s := by
  unfold modStation modLane
  dsimp only
  rw [alter_alter]
  cases e <;> rfl

theorem modBus_modStation (l : LaneId) (e : LaneEnd) (f : Bus → Bus) (g : Station → Station) (s : State) :
    modBus f (modStation l e g s) = modStation l e g (modBus f s) := rfl

/-- An offer to an ACTIVE node is not refused NOT_ACTIVE. -/
theorem offer_active {a : NodeId} {f : CommandFrame} {o : Origin} {s : State} (active : (s.bus.nodes[a]).state = .active) :
    (offer a f o s).2 ≠ some .notActive := by
  rw [offer_mayGo (.inl active)]
  split_ifs <;> simp

/-- An arm command's refusal is given back as it is. -/
theorem offerArm_refusal (l : LaneId) (e : LaneEnd) (a : NodeId) (c : ArmCommand) (s : State) :
    (offerArm l e a c s).2 = (offer a (.arm c) (.station l e) s).2 := by
  unfold offerArm
  split <;> rename_i made <;> exact (congrArg (·.2) made).symm

theorem offerArmDue_active {l : LaneId} {e : LaneEnd} {a : NodeId} {s : State}
    (active : (s.bus.nodes[a]).state = .active) : (offerArmDue l e a s).2 = false := by
  unfold offerArmDue
  split
  · rfl
  · split
    · rename_i c _ _ _ made
      exact absurd ((offerArm_refusal l e a c s).symm.trans (congrArg (·.2) made)) (offer_active active)
    · rfl

/-- The offers of a station whose node is ACTIVE: no arm command is refused NOT_ACTIVE, so the lane does not fault. -/
theorem stationOffers_active {l : LaneId} {e : LaneEnd} {a : NodeId} {s : State}
    (filled : filledNode s (.station l e) = some a) (active : (s.bus.nodes[a]).state = .active) :
    stationOffers l e s = (offerArmDue l e a (offerSignal l e a (offerDrive l e a s))).1 := by
  have nodes := ((offerDrive_frame l e a s).trans (offerSignal_frame l e a _)).nodes
  have unrefused := offerArmDue_active (l := l) (e := e) (a := a) (s := offerSignal l e a (offerDrive l e a s))
    (by rw [nodes]; exact active)
  unfold stationOffers offerStation
  rw [filled]
  dsimp only
  unfold afterOffers
  split <;> rename_i offers <;> rw [offers] at unrefused ⊢
  cases unrefused

/-- The drive commands of a station outstanding and waiting for their retry timers. -/
def Station.driveOffers (x : Station) : Bool × Bool × Option Nat × Option Nat := (x.outOff, x.outOn, x.retryOff, x.retryOn)

/-- An offer that is no DRIVE OFF changes no lane. -/
theorem offer_seq {a : NodeId} {f : CommandFrame} {o : Origin} (hf : f ≠ .driveOff) (s : State) :
    (offer a f o s).1.seq = s.seq := by
  obtain ⟨more, added⟩ := offer_adds (a := a) (o := o) hf s
  rw [added]
  rfl

theorem driveOffers_of_seq {l : LaneId} {e : LaneEnd} {s t : State} (seq : t.seq = s.seq) :
    ((t.seq.lanes[l]).station e).driveOffers = ((s.seq.lanes[l]).station e).driveOffers := by
  rw [seq]

theorem modStation_driveOffers {l : LaneId} {e : LaneEnd} {f : Station → Station} {s t : State} (seq : t.seq = s.seq)
    (hf : ∀ x : Station, (f x).driveOffers = x.driveOffers) :
    (((modStation l e f t).seq.lanes[l]).station e).driveOffers = ((s.seq.lanes[l]).station e).driveOffers := by
  rw [modStation_station, hf, driveOffers_of_seq seq]

theorem offerSignal_driveOffers (l : LaneId) (e : LaneEnd) (a : NodeId) (s : State) :
    (((offerSignal l e a s).seq.lanes[l]).station e).driveOffers = ((s.seq.lanes[l]).station e).driveOffers := by
  unfold offerSignal
  dsimp only
  split
  · rfl
  · have seq := offer_seq (a := a) (f := .signal ((s.seq.lanes[l]).station e).wantSignal) (o := .station l e)
      CommandFrame.noConfusion s
    split <;> rename_i offered <;> rw [offered] at seq
    · exact modStation_driveOffers seq (fun _ => rfl)
    · exact modStation_driveOffers seq (fun _ => rfl)
    · exact driveOffers_of_seq seq

theorem offerArm_driveOffers (l : LaneId) (e : LaneEnd) (a : NodeId) (c : ArmCommand) (s : State) :
    (((offerArm l e a c s).1.seq.lanes[l]).station e).driveOffers = ((s.seq.lanes[l]).station e).driveOffers := by
  unfold offerArm
  have seq := offer_seq (a := a) (f := .arm c) (o := .station l e) CommandFrame.noConfusion s
  split <;> rename_i offered <;> rw [offered] at seq
  · exact modStation_driveOffers seq (fun _ => rfl)
  · exact modStation_driveOffers seq (fun _ => rfl)
  · exact driveOffers_of_seq seq

theorem offerArmDue_driveOffers (l : LaneId) (e : LaneEnd) (a : NodeId) (s : State) :
    (((offerArmDue l e a s).1.seq.lanes[l]).station e).driveOffers = ((s.seq.lanes[l]).station e).driveOffers := by
  unfold offerArmDue
  split
  · rfl
  · rename_i c _
    have offers := offerArm_driveOffers l e a c s
    split <;> rename_i offered <;> rw [offered] at offers <;> exact offers

/-- Behind the drive's offer the others leave the drive commands and take nothing out of the queue. -/
theorem stationOffers_kept {l : LaneId} {e : LaneEnd} {a : NodeId} {s : State}
    (filled : filledNode s (.station l e) = some a) (active : (s.bus.nodes[a]).state = .active) :
    (((stationOffers l e s).seq.lanes[l]).station e).driveOffers
        = (((offerDrive l e a s).seq.lanes[l]).station e).driveOffers
      ∧ ∀ c ∈ (offerDrive l e a s).bus.queue, c ∈ (stationOffers l e s).bus.queue := by
  rw [stationOffers_active filled active]
  exact ⟨(offerArmDue_driveOffers l e a _).trans (offerSignal_driveOffers l e a _),
    ((StillFrame.refl _).offerSignal.offerArmDue (l := l) (e := e) (a := a)).queue⟩

theorem mem_driveOffSent (l : LaneId) (e : LaneEnd) (a : NodeId) (s : State) :
    offered a .driveOff (.station l e) ∈ (driveOffSent l e a s).bus.queue := by
  obtain ⟨resets, queue, -⟩ := placeDriveOff_queue (offered a .driveOff (.station l e)) s
  rw [driveOffSent, modStation_bus, queue, List.mem_append, mem_insertDriveOff]
  exact .inl (.inl rfl)

theorem offerDrive_off {l : LaneId} {e : LaneEnd} {a : NodeId} {s : State} (asserted : s.yardStop = true)
    (off : ((s.seq.lanes[l]).station e).outOff = false) (on : ((s.seq.lanes[l]).station e).outOn = false)
    (timer : ((s.seq.lanes[l]).station e).retryOff = none) (drive : ((s.seq.lanes[l]).station e).drive ≠ .off) :
    offerDrive l e a s = offerDriveOff l e a s := by
  unfold offerDrive
  dsimp only
  rw [if_neg (by rw [off, on]; simp), if_pos asserted, if_pos ⟨drive, by rw [timer]; rfl⟩]

theorem offerDrive_on {l : LaneId} {e : LaneEnd} {a : NodeId} {s : State} (released : s.yardStop = false)
    (off : ((s.seq.lanes[l]).station e).outOff = false) (on : ((s.seq.lanes[l]).station e).outOn = false)
    (timer : ((s.seq.lanes[l]).station e).retryOn = none) (drive : ((s.seq.lanes[l]).station e).drive ≠ .on) :
    offerDrive l e a s = offerDriveOn l e a s := by
  unfold offerDrive
  dsimp only
  rw [if_neg (by rw [off, on]; simp), released, if_neg Bool.false_ne_true, if_pos ⟨.inl drive, by rw [timer]; rfl⟩]

/-- With the line deasserted a drive that is ON, its station not in DRIVE OFF, is offered nothing. -/
theorem offerDrive_none {l : LaneId} {e : LaneEnd} {a : NodeId} {s : State} (released : s.yardStop = false)
    (drive : ((s.seq.lanes[l]).station e).drive = .on) (mark : ((s.seq.lanes[l]).station e).driveOffMark = false) :
    offerDrive l e a s = s := by
  unfold offerDrive
  dsimp only
  split
  · rfl
  · rw [released, if_neg Bool.false_ne_true, if_neg (by rw [drive, mark]; simp)]

/-- A signal that is not the one wanted, with none outstanding, is offered; its payload is one byte. -/
theorem offerSignal_taken {l : LaneId} {e : LaneEnd} {a : NodeId} {s : State} (active : (s.bus.nodes[a]).state = .active)
    (fits : 1 ≤ ((s.bus.nodes[a]).desc.map (·.maxPayload)).getD 32) (room : s.bus.queue.length < 16)
    (wrong : ((s.seq.lanes[l]).station e).signal ≠ some ((s.seq.lanes[l]).station e).wantSignal)
    (idle : ((s.seq.lanes[l]).station e).outSignal = none) : offerSignal l e a s =
      modStation l e (fun x => { x with outSignal := some x.wantSignal }) (modBus (fun x => { x with queue := x.queue
        ++ [offered a (.signal ((s.seq.lanes[l]).station e).wantSignal) (.station l e)] }) s) := by
  have taken := offer_taken (f := .signal ((s.seq.lanes[l]).station e).wantSignal) (o := .station l e) active fits
    CommandFrame.noConfusion room
  have due : ¬ (((s.seq.lanes[l]).station e).signal = some ((s.seq.lanes[l]).station e).wantSignal
      ∨ ((s.seq.lanes[l]).station e).outSignal.isSome = true) := by
    rw [idle]
    exact not_or.2 ⟨wrong, Bool.false_ne_true⟩
  unfold offerSignal
  dsimp only
  rw [if_neg due, taken]
  rfl

theorem offerArmDue_none {l : LaneId} {e : LaneEnd} {a : NodeId} {s : State}
    (h : ((s.seq.lanes[l]).station e).armCall = none) : (offerArmDue l e a s).1 = s := by
  unfold offerArmDue
  rw [h]

theorem stationRetryExpiry_running {l : LaneId} {e : LaneEnd} {s : State} {n : Nat}
    (h : ((s.seq.lanes[l]).station e).retry = some n) :
    stationRetryExpiry l e s = stationOffers l e (modStation l e (fun x => { x with retry := none }) s) := by
  unfold stationRetryExpiry
  rw [h]
  rfl

theorem driveRetryExpiry_off {l : LaneId} {e : LaneEnd} {s : State} {n : Nat}
    (off : ((s.seq.lanes[l]).station e).retryOff = some n) (on : ((s.seq.lanes[l]).station e).retryOn = none) :
    driveRetryExpiry l e s = stationOffers l e (modStation l e (fun x => { x with retryOff := none }) s) := by
  unfold driveRetryExpiry
  dsimp only
  rw [off, on]

theorem driveRetryExpiry_on {l : LaneId} {e : LaneEnd} {s : State} {n : Nat}
    (on : ((s.seq.lanes[l]).station e).retryOn = some n) (off : ((s.seq.lanes[l]).station e).retryOff = none) :
    driveRetryExpiry l e s = stationOffers l e (modStation l e (fun x => { x with retryOn := none }) s) := by
  unfold driveRetryExpiry
  dsimp only
  rw [off, on]

/-- A station whose drive and arm want nothing offers its signal when its retry timer runs out (R110, R111). -/
theorem stationRetryExpiry_signal {l : LaneId} {e : LaneEnd} {a : NodeId} {s : State} {n : Nat}
    (running : ((s.seq.lanes[l]).station e).retry = some n) (filled : filledNode s (.station l e) = some a)
    (active : (s.bus.nodes[a]).state = .active) (fits : 1 ≤ ((s.bus.nodes[a]).desc.map (·.maxPayload)).getD 32)
    (room : s.bus.queue.length < 16) (released : s.yardStop = false) (drive : ((s.seq.lanes[l]).station e).drive = .on)
    (mark : ((s.seq.lanes[l]).station e).driveOffMark = false)
    (wrong : ((s.seq.lanes[l]).station e).signal ≠ some ((s.seq.lanes[l]).station e).wantSignal)
    (idle : ((s.seq.lanes[l]).station e).outSignal = none) (arm : ((s.seq.lanes[l]).station e).armCall = none) :
    stationRetryExpiry l e s = modStation l e (fun x => { x with retry := none, outSignal := some x.wantSignal })
      (modBus (fun x => { x with queue := x.queue
        ++ [offered a (.signal ((s.seq.lanes[l]).station e).wantSignal) (.station l e)] }) s) := by
  set u := modStation l e (fun x => { x with retry := none }) s with hu
  have station : (u.seq.lanes[l]).station e = { (s.seq.lanes[l]).station e with retry := none } := modStation_station ..
  have noDrive : offerDrive l e a u = u :=
    offerDrive_none released (by rw [station]; exact drive) (by rw [station]; exact mark)
  have signal := offerSignal_taken (l := l) (e := e) (a := a) (s := u) active fits room (by rw [station]; exact wrong)
    (by rw [station]; exact idle)
  have noArm : (((offerSignal l e a u).seq.lanes[l]).station e).armCall = none := by
    rw [signal, modStation_station, modBus_seq, station]
    exact arm
  rw [stationRetryExpiry_running running, ← hu, stationOffers_active (s := u) filled active, noDrive,
    offerArmDue_none noArm, signal, station, hu, modBus_modStation, modStation_modStation]

/-- A drive retry that runs out while the line is asserted: DRIVE OFF is queued and outstanding (R117). -/
theorem driveRetryExpiry_offers_off {l : LaneId} {e : LaneEnd} {a : NodeId} {s : State} {n : Nat}
    (filled : filledNode s (.station l e) = some a) (active : (s.bus.nodes[a]).state = .active)
    (room : s.bus.queue.length < 16) (off : ((s.seq.lanes[l]).station e).outOff = false)
    (on : ((s.seq.lanes[l]).station e).outOn = false) (asserted : s.yardStop = true)
    (running : ((s.seq.lanes[l]).station e).retryOff = some n) (other : ((s.seq.lanes[l]).station e).retryOn = none)
    (drive : ((s.seq.lanes[l]).station e).drive ≠ .off) :
    (((driveRetryExpiry l e s).seq.lanes[l]).station e).outOff = true
      ∧ (((driveRetryExpiry l e s).seq.lanes[l]).station e).retryOff = none
      ∧ offered a .driveOff (.station l e) ∈ (driveRetryExpiry l e s).bus.queue := by
  set u := modStation l e (fun x => { x with retryOff := none }) s with hu
  have station : (u.seq.lanes[l]).station e = { (s.seq.lanes[l]).station e with retryOff := none } := modStation_station ..
  have due : offerDrive l e a u = driveOffSent l e a u := by
    rw [offerDrive_off (s := u) asserted (by rw [station]; exact off) (by rw [station]; exact on) (by rw [station])
      (by rw [station]; exact drive)]
    exact offerDriveOff_placed active (fun full => Nat.not_le.2 room full.1)
  obtain ⟨offers, queue⟩ := stationOffers_kept (s := u) filled active
  rw [due] at offers queue
  obtain ⟨out, timer⟩ : (((driveOffSent l e a u).seq.lanes[l]).station e).outOff = true
      ∧ (((driveOffSent l e a u).seq.lanes[l]).station e).retryOff = none := by
    unfold driveOffSent
    rw [modStation_station]
    exact ⟨rfl, rfl⟩
  rw [driveRetryExpiry_off running other]
  exact ⟨(congrArg (·.1) offers).trans out, (congrArg (·.2.2.1) offers).trans timer, queue _ (mem_driveOffSent l e a u)⟩

/-- A drive retry that runs out while the line is deasserted: DRIVE ON is queued and outstanding (R117). -/
theorem driveRetryExpiry_offers_on {l : LaneId} {e : LaneEnd} {a : NodeId} {s : State} {n : Nat}
    (filled : filledNode s (.station l e) = some a) (active : (s.bus.nodes[a]).state = .active)
    (room : s.bus.queue.length < 16) (off : ((s.seq.lanes[l]).station e).outOff = false)
    (on : ((s.seq.lanes[l]).station e).outOn = false) (released : s.yardStop = false)
    (running : ((s.seq.lanes[l]).station e).retryOn = some n) (other : ((s.seq.lanes[l]).station e).retryOff = none)
    (drive : ((s.seq.lanes[l]).station e).drive ≠ .on) :
    (((driveRetryExpiry l e s).seq.lanes[l]).station e).outOn = true
      ∧ (((driveRetryExpiry l e s).seq.lanes[l]).station e).retryOn = none
      ∧ offered a .driveOn (.station l e) ∈ (driveRetryExpiry l e s).bus.queue := by
  set u := modStation l e (fun x => { x with retryOn := none }) s with hu
  have station : (u.seq.lanes[l]).station e = { (s.seq.lanes[l]).station e with retryOn := none } := modStation_station ..
  have due : offerDrive l e a u = driveOnSent l e a u := by
    rw [offerDrive_on (s := u) released (by rw [station]; exact off) (by rw [station]; exact on) (by rw [station])
      (by rw [station]; exact drive)]
    exact offerDriveOn_placed active room
  obtain ⟨offers, queue⟩ := stationOffers_kept (s := u) filled active
  rw [due] at offers queue
  obtain ⟨out, timer⟩ : (((driveOnSent l e a u).seq.lanes[l]).station e).outOn = true
      ∧ (((driveOnSent l e a u).seq.lanes[l]).station e).retryOn = none := by
    rw [driveOnSent_stations, if_pos ⟨rfl, rfl⟩]
    exact ⟨rfl, rfl⟩
  rw [driveRetryExpiry_on running other]
  exact ⟨(congrArg (·.2.1) offers).trans out, (congrArg (·.2.2.2) offers).trans timer,
    queue _ (List.mem_append_right _ (List.mem_singleton_self _))⟩

end Sys2Proof.Machine

namespace Sys2Proof.Certificates
open Sys2Proof.Machine

/-- Settles O33: each expiry takes its timer off and makes the offers of its rule, which the queue has room for. -/
theorem retryTimersOfferAgain : Obligations.RetryTimersOfferAgain := by
  unfold Obligations.RetryTimersOfferAgain
  refine ⟨fun s a n on running active => ?_, fun s l e a n on running filled active fits room released _ _ drive mark wrong
    idle arm => ?_, fun s l e a n on filled active room off out => ⟨fun asserted running other drive => ?_,
    fun released running other drive => ?_⟩⟩
  · have run : exec (.attentionRetryExpiry a) s
        = .next (compareAttention a (modPlanNode a (fun x => { x with retry := none }) (fresh s))) :=
      (act_of_powered on).trans (congrArg _ (attentionRetry_running (s := fresh s) running))
    set u := modPlanNode a (fun x => { x with retry := none }) (fresh s) with hu
    have wanted : attentionWanted u a = attentionWanted s a := attentionWanted_modPlanNode (fresh s) (fun _ => rfl)
    refine ⟨fun right => ?_, fun wrong idle room => ?_⟩
    · rw [run, compareAttention_right (s := u) active (wanted ▸ right), hu, modPlanNode_modPlanNode]
    · have idle' : (u.plan.nodes[a]).offer = .none := by simpa [hu] using idle
      rw [run, compareAttention_wrong (s := u) active (wanted ▸ wrong) idle' room, wanted, hu,
        modBus_modPlanNode, modPlanNode_modPlanNode]
      rfl
  · exact (act_of_powered on).trans (congrArg _ (stationRetryExpiry_signal (s := fresh s) running filled active fits room
      released drive mark wrong idle arm))
  · exact ⟨_, act_of_powered on,
      driveRetryExpiry_offers_off (s := fresh s) filled active room off out asserted running other drive⟩
  · exact ⟨_, act_of_powered on,
      driveRetryExpiry_offers_on (s := fresh s) filled active room off out released running other drive⟩

end Sys2Proof.Certificates

namespace Sys2Proof.Machine

/-! ## Roles set and derived (R88) -/

theorem roleOf_setRole_same (x : Attach) (r : Role) (s : State) : roleOf (setRole x r s) x = r := by
  cases x with
  | cell b p => simp [roleOf, setRole]
  | beams b => simp [roleOf, setRole]
  | station l e => cases e <;> simp [roleOf, setRole]
  | terminal l => simp [roleOf, setRole]
  | printer l => simp [roleOf, setRole]

theorem roleOf_setRole_ne {x y : Attach} (h : x ≠ y) (r : Role) (s : State) : roleOf (setRole x r s) y = roleOf s y := by
  cases x with
  | cell b p =>
    cases y with
    | cell c q =>
      by_cases row : b = c
      · subst row
        have column : p ≠ q := fun same => h (by rw [same])
        simp [roleOf, setRole, column]
      · simp [roleOf, setRole, row]
    | station l e => cases e <;> rfl
    | _ => rfl
  | beams b =>
    cases y with
    | beams c => simp [roleOf, setRole, show b ≠ c from fun same => h (by rw [same])]
    | station l e => cases e <;> rfl
    | _ => rfl
  | station l e =>
    cases y with
    | station k j =>
      cases e <;> cases j
      · simp [roleOf, setRole, show l ≠ k from fun same => h (by rw [same])]
      · rfl
      · rfl
      · simp [roleOf, setRole, show l ≠ k from fun same => h (by rw [same])]
    | _ => cases e <;> rfl
  | terminal l =>
    cases y with
    | terminal k => simp [roleOf, setRole, show l ≠ k from fun same => h (by rw [same])]
    | station k e => cases e <;> rfl
    | _ => rfl
  | printer l =>
    cases y with
    | printer k => simp [roleOf, setRole, show l ≠ k from fun same => h (by rw [same])]
    | station k e => cases e <;> rfl
    | _ => rfl

/-- Roles that a function of the attachment gives, set one after the other. -/
theorem roleOf_setRoles (g : Attach → Role) (y : Attach) {xs : List (Attach × Role × Role)} (given : ∀ x ∈ xs, x.2.2 = g x.1)
    (s : State) : roleOf (xs.foldl (fun s x => setRole x.1 x.2.2 s) s) y
      = if y ∈ xs.map (·.1) then g y else roleOf s y := by
  induction xs generalizing s with
  | nil => rfl
  | cons x xs ih =>
    rw [List.foldl_cons, ih (fun z hz => given z (List.mem_cons_of_mem x hz))]
    by_cases own : x.1 = y
    · subst own
      rw [roleOf_setRole_same, given x List.mem_cons_self, ite_self, List.map_cons, if_pos List.mem_cons_self]
    · rw [roleOf_setRole_ne own]
      exact if_congr (by rw [List.map_cons, List.mem_cons, or_iff_right (Ne.symm own)]) rfl rfl

/-! ## What telling the owners leaves of the plan (R89) -/

/-- All of the plan but its nodes' command state stands. -/
def PlanStands (s t : State) : Prop := t.plan = { s.plan with nodes := t.plan.nodes }

theorem PlanStands.of_eq {s t : State} (h : t.plan = s.plan) : PlanStands s t := by
  unfold PlanStands
  rw [h]

theorem PlanStands.trans {s t u : State} (h : PlanStands s t) (k : PlanStands t u) : PlanStands s u := by
  unfold PlanStands at h k ⊢
  rw [k, h]

theorem deriveBridge_plan (b : BridgeId) (s : State) : PlanStands s (deriveBridge b s) :=
  (deriveBridge_laneFrame b s).plan

theorem tellCell_plan (b : BridgeId) (p : CellPos) (old new : Role) (s : State) :
    PlanStands s (tellCell b p old new s) := by
  unfold tellCell
  extract_lets s1
  have sampled : s1.plan = s.plan := by
    unfold s1
    split <;> rfl
  obtain ⟨marks, judged⟩ := judge_eq b s1
  rw [judged]
  exact (PlanStands.of_eq (by rw [modCal_plan, sampled])).trans (deriveBridge_plan b _)

theorem tellBeams_plan (b : BridgeId) (old new : Role) (s : State) : PlanStands s (tellBeams b old new s) := by
  unfold tellBeams
  extract_lets s1
  have unknown : s1.plan = s.plan := by
    unfold s1
    split <;> rfl
  have ops := workFrame_workOps (deriveBridge b s1)
  exact ((PlanStands.of_eq unknown).trans (deriveBridge_plan b s1)).trans (ops.grantTest (ops.pauseUpdate (.refl _))).plan

/-- The work of a station's owner is lane work. -/
theorem tellStation_work (l : LaneId) (e : LaneEnd) (old new : Role) (s : State) :
    WorkFrame s (tellStation l e old new s) := by
  have ops := workFrame_workOps s
  have unknown : WorkFrame s (unknownStation l e s) := ops.station (.refl s)
  unfold tellStation
  dsimp only
  split
  · split
    · exact unknown
    · exact ops.stationEmptied (.refl s)
  · by_cases renewed : otherNode old new = true <;> simp only [renewed, if_true, if_false, Bool.false_eq_true] <;> split
    · exact ops.stationOffers unknown
    · exact ops.stationFilled unknown
    · exact .refl s
    · exact ops.stationFilled (.refl s)
  · split
    · exact unknown
    · exact .refl s

theorem tellTerminal_work (l : LaneId) (old new : Role) (s : State) : WorkFrame s (tellTerminal l old new s) := by
  unfold tellTerminal
  split
  · exact (workFrame_workOps s).showState (.refl s)
  · exact .refl s

theorem tellPrinter_work (l : LaneId) (old new : Role) (s : State) : WorkFrame s (tellPrinter l old new s) := by
  have ops := workFrame_workOps s
  unfold tellPrinter
  split
  · split
    · exact .refl s
    · exact ops.printerEmptied (.refl s)
  · split
    · exact ops.printerChanged (.refl s)
    · exact ops.startHead (.refl s)

/-- The owners told write no plan entry and no role. -/
theorem tellOwners_plan (x : Attach) (old new : Role) (s : State) : PlanStands s (tellOwners x old new s) := by
  cases x with
  | cell b p => exact tellCell_plan b p old new s
  | beams b => exact tellBeams_plan b old new s
  | station l e => exact (tellStation_work l e old new s).plan
  | terminal l => exact (tellTerminal_work l old new s).plan
  | printer l => exact (tellPrinter_work l old new s).plan

theorem roleOf_plan {s t : State} (h : PlanStands s t) (x : Attach) : roleOf t x = roleOf s x := by
  unfold roleOf
  rw [h]

/-- The fills of some attachments derived: the entries stand, and each attachment has the fill of R88. -/
theorem deriveRoles_spec (places : List Attach) (s : State) : (deriveRoles places s).plan.entries = s.plan.entries
    ∧ ∀ x ∈ places, roleOf (deriveRoles places s) x = roleNow s x := by
  unfold deriveRoles
  extract_lets changed t
  have told : PlanStands t (changed.foldl (fun s x => tellOwners x.1 x.2.1 x.2.2 s) t) :=
    LaneOps.foldl (P := PlanStands t) (fun u x hu => hu.trans (tellOwners_plan x.1 x.2.1 x.2.2 u)) changed (.of_eq rfl)
  have entries : t.plan.entries = s.plan.entries :=
    LaneOps.foldl (P := fun u => u.plan.entries = s.plan.entries) (f := fun u x => setRole x.1 x.2.2 u)
      (fun _ _ hu => hu) changed rfl
  refine ⟨by rw [told, entries], fun x hx => ?_⟩
  have given : ∀ y ∈ changed, y.2.2 = roleNow s y.1 := by
    intro y hy
    obtain ⟨z, -, rfl⟩ := List.mem_map.1 (List.mem_of_mem_filter hy)
    rfl
  rw [roleOf_plan told, roleOf_setRoles (roleNow s) x given]
  split
  · rfl
  · rename_i unchanged
    by_contra differs
    exact unchanged (List.mem_map.2 ⟨(x, roleOf s x, roleNow s x),
      List.mem_filter.2 ⟨List.mem_map.2 ⟨x, hx, rfl⟩, decide_eq_true differs⟩, rfl⟩)

/-- The comparison of R86 makes an offer and no more. -/
theorem compareAttention_frame (a : NodeId) (s : State) : OfferFrame s (compareAttention a s) := by
  have altered : ∀ (f : PlanNode → PlanNode) {u : State}, (∀ x, (f x).binding = x.binding) → OfferFrame s u →
      OfferFrame s (modPlanNode a f u) := fun f u hf hu => hu.trans (modPlanNode_frame a f hf u)
  unfold compareAttention
  dsimp only
  split
  · exact .refl s
  · split
    · exact altered _ (fun _ => by rfl) (.refl s)
    · split
      · exact .refl s
      · have offers := offer_frame a (if attentionWanted s a then .attentionOn else .attentionOff) .plan s
        split <;> rename_i made <;> rw [made] at offers <;> exact altered _ (fun _ => by rfl) offers

/-! ## A plan entry written (R83, R84, R91) -/

/-- The one place that passes a test is the one found. -/
theorem find?_finRange_unique {n : Nat} {p : Fin n → Bool} {i : Fin n} (here : p i = true)
    (elsewhere : ∀ j, j ≠ i → p j = false) : (List.finRange n).find? p = some i := by
  cases found : (List.finRange n).find? p with
  | none => exact absurd (here.symm.trans (find?_finRange_none found i)) Bool.noConfusion
  | some j =>
    by_contra other
    exact absurd ((find?_finRange_some found).1.symm.trans (elsewhere j (fun same => other (by rw [same])))) Bool.noConfusion

/-- The state with a plan entry written or taken out. -/
def putEntry (p : PlanId) (e : Option PlanEntry) (s : State) : State :=
  { s with plan := { s.plan with entries := put s.plan.entries p e } }

/-- The key of a new entry, which no entry held, is found at that entry. -/
theorem find?_putEntry {α : Type} [BEq α] [LawfulBEq α] (key : PlanEntry → α) {s : State} (p : PlanId) (e : PlanEntry)
    (unheld : ((List.finRange 32).find? fun q => (s.plan.entries[q]).map key == some (key e)) = none) :
    ((List.finRange 32).find? fun q => ((putEntry p (some e) s).plan.entries[q]).map key == some (key e)) = some p := by
  refine find?_finRange_unique (by simp [putEntry]) (fun q hq => ?_)
  have before := find?_finRange_none unheld q
  simpa [putEntry, Ne.symm hq] using before

theorem planOfSerial_putEntry {s : State} (p : PlanId) {e : PlanEntry} (unheld : planOfSerial s e.serial = none) :
    planOfSerial (putEntry p (some e) s) e.serial = some p :=
  find?_putEntry (·.serial) p e unheld

theorem planOfAttach_putEntry {s : State} (p : PlanId) {e : PlanEntry} (unheld : planOfAttach s e.attach = none) :
    planOfAttach (putEntry p (some e) s) e.attach = some p :=
  find?_putEntry (·.attach) p e unheld

/-- The entry that holds a serial is not FREE. -/
theorem nodeHolding_some {s : State} {x : Serial} {a : NodeId} (h : nodeHolding s x = some a) :
    (s.bus.nodes[a]).state ≠ .free ∧ (s.bus.nodes[a]).serial = some x := by
  have found := (find?_finRange_some h).1
  simpa using found

/-- A node whose serial an entry of its kind holds is BOUND to it (R83). -/
theorem bindingNow_bound {s : State} {a : NodeId} {d : NodeDesc} {p : PlanId} {e : PlanEntry}
    (holds : nodeHolding s e.serial = some a) (desc : (s.bus.nodes[a]).desc = some d)
    (planned : planOfSerial s e.serial = some p) (entry : s.plan.entries[p] = some e) (kind : d.kind = e.attach.kind) :
    bindingNow s a = some (.bound p) := by
  obtain ⟨taken, serial⟩ := nodeHolding_some holds
  unfold bindingNow
  dsimp only
  rw [if_neg taken, serial, desc]
  dsimp only
  rw [planned]
  dsimp only
  rw [entry, kind]
  exact congrArg some (if_pos rfl)

/-- An attachment whose entry an ACTIVE node is BOUND to is FILLED by that node (R88). -/
theorem roleNow_filled {s : State} {a : NodeId} {p : PlanId} {e : PlanEntry} (planned : planOfAttach s e.attach = some p)
    (entry : s.plan.entries[p] = some e) (holds : nodeHolding s e.serial = some a)
    (bound : (s.plan.nodes[a]).binding = some (.bound p)) (active : (s.bus.nodes[a]).state = .active) :
    roleNow s e.attach = { fill := .filled, node := some (a, e.serial) } := by
  have node : boundNode s p = some (a, e.serial) := by
    unfold boundNode
    rw [entry]
    dsimp only
    rw [holds]
    exact if_pos bound
  unfold roleNow
  rw [planned, Option.bind_some, node]
  dsimp only
  rw [active]

/-- The derivation of a node's binding to BOUND: the binding, the attention, then the fills, among them those asked for. -/
theorem deriveBinding_bound {a : NodeId} {p : PlanId} {s : State} (extra : List Attach)
    (bound : bindingNow s a = some (.bound p)) : ∃ places, (∀ x ∈ extra, x ∈ places)
      ∧ deriveBinding a extra s
        = deriveRoles places (compareAttention a (modPlanNode a (fun x => { x with binding := some (.bound p) }) s)) := by
  unfold deriveBinding
  dsimp only
  rw [bound]
  exact ⟨_, fun x hx => List.mem_eraseDups.2 (List.mem_append_left _ (List.mem_append_left _ hx)), rfl⟩

/-- A new entry for an ACTIVE node of its kind, its serial and its attachment in no other: the node is BOUND to it and the
attachment FILLED (R83, R88). -/
theorem deriveBinding_putEntry {s : State} {a : NodeId} {d : NodeDesc} (p : PlanId) {e : PlanEntry}
    (serial : planOfSerial s e.serial = none) (place : planOfAttach s e.attach = none)
    (holds : nodeHolding s e.serial = some a) (active : (s.bus.nodes[a]).state = .active)
    (desc : (s.bus.nodes[a]).desc = some d) (kind : d.kind = e.attach.kind) :
    let t := deriveBinding a [e.attach] (putEntry p (some e) s)
    t.plan.entries = put s.plan.entries p (some e) ∧ (t.plan.nodes[a]).binding = some (.bound p)
      ∧ roleOf t e.attach = { fill := .filled, node := some (a, e.serial) } := by
  intro t
  set u := putEntry p (some e) s with hu
  have entry : u.plan.entries[p] = some e := by simp [hu, putEntry]
  have bound : bindingNow u a = some (.bound p) :=
    bindingNow_bound holds desc (planOfSerial_putEntry p serial) entry kind
  have binding : (t.plan.nodes[a]).binding = some (.bound p) := by
    refine ((deriveBinding_line a [e.attach] u).binding a).trans ?_
    simp [modPlanNode, bound]
  obtain ⟨places, asked, derived⟩ := deriveBinding_bound [e.attach] bound
  set v := modPlanNode a (fun x => { x with binding := some (.bound p) }) u with hv
  have compared := compareAttention_frame a v
  have entries : (compareAttention a v).plan.entries = u.plan.entries := by rw [compared.plan]; rfl
  obtain ⟨kept, roles⟩ := deriveRoles_spec places (compareAttention a v)
  rw [← derived] at kept roles
  refine ⟨kept.trans entries, binding, (roles _ (asked _ (List.mem_singleton_self _))).trans ?_⟩
  refine roleNow_filled (p := p) ?_ (by rw [entries]; exact entry) ?_ ?_ (by rw [compared.nodes]; exact active)
  · unfold planOfAttach
    rw [entries]
    exact planOfAttach_putEntry p place
  · unfold nodeHolding
    rw [compared.nodes]
    exact holds
  · refine (compared.binding a).trans ?_
    simp [hv]

/-! ## PUT PLAN ENTRY and DROP PLAN ENTRY (R91, R92) -/

@[simp] theorem kindOf_code (k : NodeKind) : kindOf k.code = some k := by
  cases k <;> rfl

/-- PUT PLAN ENTRY with its values in range: the tests left are those of R91 on the plan. -/
theorem putPlanEntry_inRange {tag : Byte} {p : PlanId} {x : Serial} {place : Attach} {s : State} (zero : x ≠ 0)
    (ones : x ≠ Serial.none) :
    putPlanEntry tag [some (.num (p.val + 1)), some (.serial x), some (.num place.kind.code), some (.role place)] s =
      if (planOfSerial s x).getD p ≠ p then reply .state s
      else if (planOfAttach s place).getD p ≠ p then reply .state s
      else if changesInUse s s.plan.entries[p] { serial := x, attach := place } then reply .state s
      else if s.plan.entries[p] = some { serial := x, attach := place } then reply .done s
      else reply .done (rebind s.plan.entries[p] { serial := x, attach := place }
        (putEntry p (some { serial := x, attach := place }) s)) := by
  simp only [putPlanEntry, planOf_val, kindOf_code]
  rw [if_neg (not_not.2 rfl), if_neg (not_or.2 ⟨zero, ones⟩)]
  rfl

/-- A serial another entry holds (R91). -/
theorem putPlanEntry_held {tag : Byte} {p q : PlanId} {x : Serial} {place : Attach} {s : State} (zero : x ≠ 0)
    (ones : x ≠ Serial.none) (other : q ≠ p) (held : planOfSerial s x = some q) :
    putPlanEntry tag [some (.num (p.val + 1)), some (.serial x), some (.num place.kind.code), some (.role place)] s
      = reply .state s := by
  rw [putPlanEntry_inRange zero ones, held]
  exact if_pos other

/-- A new entry whose serial no node holds binds nothing (R84). -/
theorem rebind_unheld {e : PlanEntry} {s : State} (unheld : nodeHolding s e.serial = none) : rebind none e s = s := by
  unfold rebind
  rw [unheld]

/-- A new entry whose serial a node holds has that node's binding derived (R84). -/
theorem rebind_held {e : PlanEntry} {s : State} {a : NodeId} (holds : nodeHolding s e.serial = some a) :
    rebind none e s = deriveBinding a [e.attach] s := by
  unfold rebind
  rw [holds]
  rfl

/-- A new entry that changes no attachment in use is written, and the node that holds its serial is bound anew (R84, R91). -/
theorem putPlanEntry_new {tag : Byte} {p : PlanId} {x : Serial} {place : Attach} {s : State} (zero : x ≠ 0)
    (ones : x ≠ Serial.none) (vacant : s.plan.entries[p] = none) (serial : planOfSerial s x = none)
    (attach : planOfAttach s place = none)
    (idle : inUse s place = false ∨ serialNow s place = serialUnder s { serial := x, attach := place }) :
    putPlanEntry tag [some (.num (p.val + 1)), some (.serial x), some (.num place.kind.code), some (.role place)] s
      = reply .done (rebind none { serial := x, attach := place } (putEntry p (some { serial := x, attach := place }) s)) := by
  have allowed : changesInUse s none { serial := x, attach := place } = false := by
    unfold changesInUse
    rcases idle with free | same
    · simp [free]
    · simp [same]
  rw [putPlanEntry_inRange zero ones, serial, attach, vacant, allowed]
  simp only [Option.getD_none, ne_eq, not_true_eq_false, if_false, Bool.false_eq_true, reduceCtorEq]

theorem dropPlanEntry_missing {tag : Byte} {p : PlanId} {s : State} (vacant : s.plan.entries[p] = none) :
    dropPlanEntry tag [some (.num (p.val + 1))] s = reply .notFound s := by
  simp only [dropPlanEntry, planOf_val]
  rw [vacant]

/-- An entry that no node's serial answers is taken out, and nothing else changes (R92). -/
theorem dropPlanEntry_unheld {tag : Byte} {p : PlanId} {e : PlanEntry} {s : State} (entry : s.plan.entries[p] = some e)
    (unheld : nodeHolding s e.serial = none) :
    dropPlanEntry tag [some (.num (p.val + 1))] s = reply .done (putEntry p none s) := by
  have unbound : boundNode s p = none := by
    unfold boundNode
    rw [entry]
    dsimp only
    rw [unheld]
  simp only [dropPlanEntry, planOf_val]
  rw [entry]
  dsimp only
  rw [unbound, Option.isSome_none, Bool.and_false, if_neg Bool.false_ne_true]
  split
  · rename_i a holds
    exact absurd (holds.symm.trans unheld) (Option.some_ne_none a)
  · rfl

end Sys2Proof.Machine

namespace Sys2Proof.Certificates
open Sys2Proof.Machine

/-- Settles O49: a new entry is written and the node that holds its serial, if any, is bound anew; an entry without a node
is taken out. -/
theorem planEntries : Obligations.PlanEntries := by
  unfold Obligations.PlanEntries
  refine ⟨fun s tag p x place request zero ones => ⟨fun q other held => ?_, fun vacant serial attach => ?_⟩,
    fun s tag p request => ⟨fun vacant => ?_, fun e entry unheld => ?_⟩⟩
  · exact answers_of_owner rfl request (putPlanEntry_held (s := fresh s) zero ones other held)
  · have written := @putPlanEntry_new tag p x place (fresh s) zero ones vacant serial attach
    refine ⟨fun unheld idle => ?_, fun a d holds active desc kind idle => ?_⟩
    · have under : serialUnder (fresh s) { serial := x, attach := place } = none := by
        unfold serialUnder
        dsimp only
        rw [nodeHolding_fresh, unheld]
      have put := written (idle.imp_right (fun free => Eq.trans free under.symm))
      rw [rebind_unheld unheld] at put
      exact answers_of_owner rfl request put
    · have put := written (.inl idle)
      rw [rebind_held holds] at put
      exact ⟨_, answers_of_owner rfl request put, deriveBinding_putEntry (s := fresh s) p
        (e := { serial := x, attach := place }) serial attach holds active desc kind⟩
  · exact answers_of_owner rfl request (dropPlanEntry_missing (s := fresh s) vacant)
  · exact answers_of_owner rfl request (dropPlanEntry_unheld (s := fresh s) entry unheld)

end Sys2Proof.Certificates

namespace Sys2Proof.Machine

/-! ## A lane that enters a state (R96, R101, R112) -/

/-- What an entry sets of the lane itself. -/
def Lane.entering (x : Lane) (st : LaneState) (reversing : Bool) : Lane :=
  { x with state := st, hold := none, fault := none, reweigh := false, kept := none, reversing := reversing,
           timer := x.config.bind (fun c => timerFor c st) }

/-- A lane in its new state and in or out of the grant queue, as the test of its arms finds it. -/
def entryMade (l : LaneId) (st : LaneState) (s : State) : State :=
  let u := modLane l (fun x => x.entering st (st == .weighing && farBroken (withdraw l s) l)) (withdraw l s)
  if st = .waitBridge then joinQueue l u else leaveQueue l u

/-- A lane in its new state with its capture placed and its settings made, as its offers find it. -/
def entrySettled (l : LaneId) (st : LaneState) (s : State) : State :=
  wantFor l st (if st = .weighing then placeCapture l (entryMade l st s) else entryMade l st s)

/-- An entry: a lane with an arm FAULT faults; another makes its offers, and faults on the bridge where an arm command is
refused NOT_ACTIVE. -/
theorem enterPlain_eq (l : LaneId) (st : LaneState) (s : State) : enterPlain l st s =
    let lane := (entryMade l st s).seq.lanes[l]
    let entry := offerStation l .entry (entrySettled l st s)
    let exit := offerStation l .exit entry.1
    if st.faults && lane.armFaulted then faultLane l .armFault (some lane.faultedEnd) (entryMade l st s)
    else if st.onBridge && (entry.2 || exit.2) then
      faultLane l .stationLost (some (if entry.2 then .entry else .exit)) exit.1
    else showState l exit.1 := rfl

theorem joinQueue_lanes (l : LaneId) (s : State) : (joinQueue l s).seq.lanes = s.seq.lanes := by
  unfold joinQueue
  split <;> rfl

theorem placeCapture_seq (l : LaneId) (s : State) : (placeCapture l s).seq = s.seq := by
  unfold placeCapture
  split
  · split <;> rfl
  · rfl

/-- Settings change a lane's stations and no more. -/
theorem wantFor_lane (l k : LaneId) (st : LaneState) (s : State) : (wantFor l st s).seq.lanes[k] = { s.seq.lanes[k] with
    entry := ((wantFor l st s).seq.lanes[k]).entry, exit := ((wantFor l st s).seq.lanes[k]).exit } := by
  cases st <;> simp only [wantFor, wantStations] <;> rw [modStation_lane, modStation_lane]

theorem entryMade_lanes (l : LaneId) (st : LaneState) (s : State) : (entryMade l st s).seq.lanes =
    alter s.seq.lanes l (fun x => x.entering st (st == .weighing && farBroken s l)) := by
  have broken : farBroken (withdraw l s) l = farBroken s l := by
    rw [withdraw_rest]
    rfl
  unfold entryMade
  rw [broken]
  split
  · rw [joinQueue_lanes, modLane_seq, withdraw_seq]
  · rw [leaveQueue_lanes, modLane_seq, withdraw_seq]

theorem entryMade_lane (l : LaneId) (st : LaneState) (s : State) : (entryMade l st s).seq.lanes[l] =
    (s.seq.lanes[l]).entering st (st == .weighing && farBroken s l) := by
  rw [entryMade_lanes]
  exact getElem_alter_self ..

theorem entrySettled_lane (l : LaneId) (st : LaneState) (s : State) : (entrySettled l st s).seq.lanes[l] =
    { (s.seq.lanes[l]).entering st (st == .weighing && farBroken s l) with
      entry := ((entrySettled l st s).seq.lanes[l]).entry, exit := ((entrySettled l st s).seq.lanes[l]).exit } := by
  have placed : (if st = .weighing then placeCapture l (entryMade l st s) else entryMade l st s).seq
      = (entryMade l st s).seq := by
    split
    · rw [placeCapture_seq]
    · rfl
  unfold entrySettled
  rw [wantFor_lane, placed, entryMade_lane]

/-- Of the rest of the part an entry leaves what lane work leaves. -/
theorem entrySettled_laneFrame (l : LaneId) (st : LaneState) (s : State) : LaneFrame s (entrySettled l st s) := by
  have ops := laneFrame_laneOps s
  have made : LaneFrame s (entryMade l st s) := by
    have entered := ops.lane (l := l) (f := fun x => x.entering st (st == .weighing && farBroken (withdraw l s) l))
      (fun _ => ⟨rfl, rfl, rfl, rfl⟩) (ops.withdraw (l := l) (.refl s))
    unfold entryMade
    dsimp only
    split
    · exact ops.joinQueue entered
    · exact ops.leaveQueue entered
  refine ops.wantFor ?_
  split
  · exact ops.placeCapture made
  · exact made

theorem enterPlain_laneFrame (l : LaneId) (st : LaneState) (s : State) : LaneFrame s (enterPlain l st s) :=
  (laneFrame_laneOps s).enterPlain (.refl s)

theorem LaneFrame.nodes {s t : State} (h : LaneFrame s t) : t.bus.nodes = s.bus.nodes := by rw [h.bus]

theorem LaneFrame.roles {s t : State} (h : LaneFrame s t) : t.plan.roles = s.plan.roles := by rw [h.plan]

/-- A station whose node is ACTIVE, if any fills it, has no arm command refused NOT_ACTIVE (R111). -/
theorem offerStation_unrefused {l : LaneId} {e : LaneEnd} {s : State}
    (active : ∀ a, filledNode s (.station l e) = some a → (s.bus.nodes[a]).state = .active) : (offerStation l e s).2 = false := by
  unfold offerStation
  split
  · rfl
  · rename_i a filled
    refine offerArmDue_active ?_
    rw [(offerSignal_frame l e a _).nodes, (offerDrive_frame l e a s).nodes]
    exact active a filled

theorem StationsActive.kept {s t : State} {l : LaneId} (h : StationsActive s l) (nodes : t.bus.nodes = s.bus.nodes)
    (roles : t.plan.roles = s.plan.roles) : StationsActive t l := by
  intro e a filled
  rw [nodes]
  exact h e a ((filledNode_roles roles _).symm.trans filled)

/-- A lane whose arms are sound and whose station nodes are ACTIVE does not fault in the state it enters: behind its settings
it makes offers and no more. -/
theorem enterPlain_offers {l : LaneId} {st : LaneState} {s : State} (sound : st.faults = true → ArmsSound s l)
    (active : st.onBridge = true → StationsActive s l) : OfferFrame (entrySettled l st s) (enterPlain l st s) := by
  have arms : ((entryMade l st s).seq.lanes[l]).armFaulted = (s.seq.lanes[l]).armFaulted := by
    rw [entryMade_lane]
    rfl
  have whole : (st.faults && ((entryMade l st s).seq.lanes[l]).armFaulted) = false := by
    rw [arms]
    exact Bool.and_eq_false_imp.2 sound
  have heard : (st.onBridge && ((offerStation l .entry (entrySettled l st s)).2
      || (offerStation l .exit (offerStation l .entry (entrySettled l st s)).1).2)) = false := by
    refine Bool.and_eq_false_imp.2 (fun onBridge => ?_)
    have frame := entrySettled_laneFrame l st s
    have first := (active onBridge).kept frame.nodes frame.roles
    have offers := offerStation_frame l .entry (entrySettled l st s)
    rw [offerStation_unrefused (first .entry), offerStation_unrefused (first.kept offers.nodes offers.roles .exit)]
    rfl
  rw [enterPlain_eq]
  dsimp only
  rw [if_neg (Bool.not_eq_true _ ▸ whole), if_neg (Bool.not_eq_true _ ▸ heard)]
  exact ((offerStation_frame l .entry _).trans (offerStation_frame l .exit _)).trans (showState_frame l _)

/-- What is set of a lane that does not fault in the state it enters. -/
theorem enterPlain_lane {l : LaneId} {st : LaneState} {s : State} (sound : st.faults = true → ArmsSound s l)
    (active : st.onBridge = true → StationsActive s l) : (enterPlain l st s).seq.lanes[l] =
    { (s.seq.lanes[l]).entering st (st == .weighing && farBroken s l) with
      entry := ((enterPlain l st s).seq.lanes[l]).entry, exit := ((enterPlain l st s).seq.lanes[l]).exit } := by
  rw [(enterPlain_offers sound active).lane l, entrySettled_lane]

end Sys2Proof.Machine

namespace Sys2Proof.Machine

/-! ## What an entry leaves of the lanes and the grants -/

/-- What the work of one lane's entry leaves: of the other lanes all but their stations' commands, the visit the lane carries,
and every grant. -/
structure EntryFrame (l : LaneId) (s t : State) : Prop where
  others : ∀ k : LaneId, k ≠ l → (t.seq.lanes[k]).core = (s.seq.lanes[k]).core
  visit : (t.seq.lanes[l]).visit = (s.seq.lanes[l]).visit
  holder : ∀ b : BridgeId, (t.seq.bridges[b]).holder = (s.seq.bridges[b]).holder

/-- An offer leaves a lane's visit. -/
theorem OfferFrame.visit {s t : State} (h : OfferFrame s t) (k : LaneId) :
    (t.seq.lanes[k]).visit = (s.seq.lanes[k]).visit := by
  rw [h.lane k]

namespace EntryFrame
variable {l : LaneId} {s t u : State}

theorem trans (h : EntryFrame l s t) (k : EntryFrame l t u) : EntryFrame l s u :=
  ⟨fun j other => (k.others j other).trans (h.others j other), k.visit.trans h.visit,
    fun b => (k.holder b).trans (h.holder b)⟩

theorem of_seq (seq : t.seq = s.seq) : EntryFrame l s t := by
  constructor <;> intros <;> rw [seq]

theorem refl (s : State) : EntryFrame l s s := .of_seq rfl

theorem offered (h : EntryFrame l s t) (k : OfferFrame t u) : EntryFrame l s u :=
  h.trans ⟨fun j _ => k.lanes j, k.visit l, fun b => by rw [k.bridges]⟩

theorem modLane {f : Lane → Lane} (h : EntryFrame l s t) (hf : ∀ x : Lane, (f x).visit = x.visit) :
    EntryFrame l s (modLane l f t) := by
  refine h.trans ⟨fun k other => ?_, ?_, fun _ => rfl⟩
  · simp only [Fin.getElem_fin, modLane_seq, getElem_alter_ne _ other.symm]
  · simp only [Fin.getElem_fin, modLane_seq, getElem_alter_self, hf]

theorem modStation {e : LaneEnd} {f : Station → Station} (h : EntryFrame l s t) : EntryFrame l s (modStation l e f t) :=
  h.modLane (fun _ => by cases e <;> rfl)

theorem queue {b : BridgeId} {f : BridgeSeq → BridgeSeq} (h : EntryFrame l s t)
    (hf : ∀ x : BridgeSeq, (f x).holder = x.holder) : EntryFrame l s (modBridge b f t) := by
  refine h.trans ⟨fun _ _ => rfl, rfl, fun k => ?_⟩
  simp only [Fin.getElem_fin, modBridge_seq, getElem_alter]
  split
  · exact hf _
  · rfl

theorem wantStations {x y : WantedArm} {p q : Aspect} (h : EntryFrame l s t) : EntryFrame l s (wantStations l x y p q t) :=
  h.modStation.modStation

theorem faultLane {reason : FaultReason} {e : Option LaneEnd} (h : EntryFrame l s t) :
    EntryFrame l s (faultLane l reason e t) := by
  have fault := (h.trans (.of_seq (withdraw_seq l t))).modLane (f := fun x => { x with
    state := .fault, fault := some (reason, (t.seq.lanes[l]).state), hold := none, timer := none,
    asking := if (t.seq.lanes[l]).state = .asking then none else x.asking }) (fun _ => rfl)
  refine (fault.wantStations.offered (settleStill_frame l _)).trans (.of_seq ?_)
  rw [Machine.faultLane, (queueRecord_spec _ _).1.rest]

theorem entryMade {st : LaneState} (h : EntryFrame l s t) : EntryFrame l s (entryMade l st t) := by
  have entered := (h.trans (.of_seq (withdraw_seq l t))).modLane
    (f := fun x => x.entering st (st == .weighing && farBroken (withdraw l t) l)) (fun _ => rfl)
  unfold Machine.entryMade joinQueue leaveQueue
  dsimp only
  split
  · split
    · exact entered.queue (fun x => by split <;> rfl)
    · exact entered
  · split
    · exact entered.queue (fun _ => rfl)
    · exact entered

theorem entrySettled {st : LaneState} (h : EntryFrame l s t) : EntryFrame l s (entrySettled l st t) := by
  have placed : EntryFrame l s (if st = .weighing then placeCapture l (Machine.entryMade l st t) else Machine.entryMade l st t) := by
    split
    · exact h.entryMade.trans (.of_seq (placeCapture_seq l _))
    · exact h.entryMade
  cases st <;> exact placed.wantStations

theorem enterPlain {st : LaneState} (h : EntryFrame l s t) : EntryFrame l s (enterPlain l st t) := by
  have entry := (h.entrySettled (st := st)).offered (offerStation_frame l .entry _)
  have exit := entry.offered (offerStation_frame l .exit _)
  rw [enterPlain_eq]
  dsimp only
  split
  · exact h.entryMade.faultLane
  · split
    · exact exit.faultLane
    · exact exit.offered (showState_frame l _)

/-- An entry leaves the visit of every lane. -/
theorem visits (h : EntryFrame l s t) (k : LaneId) : (t.seq.lanes[k]).visit = (s.seq.lanes[k]).visit := by
  by_cases own : k = l
  · subst own
    exact h.visit
  · exact (congrArg Lane.visit (h.others k own) :)

end EntryFrame

end Sys2Proof.Machine

namespace Sys2Proof.Machine

/-! ## The grant and the rest (R97, R101, R102) -/

/-- A grant given: the lane holds the bridge, has left the queue and has no near-beam mark. -/
def grantGiven (b : BridgeId) (l : LaneId) (s : State) : State :=
  modLane l (fun lane => { lane with nearBeam := false })
    (modBridge b (fun y => { y with holder := some l, queue := y.queue.filter (fun k => k ≠ l) }) s)

/-- A grant test changes nothing, or gives a free bridge to a lane in WAIT_BRIDGE, which enters ENTERING (R102). -/
theorem grantTest_cases (b : BridgeId) (s : State) : grantTest b s = s
    ∨ (s.seq.bridges[b]).holder = none ∧ ∃ l : LaneId, (s.seq.lanes[l]).state = .waitBridge
        ∧ grantTest b s = enterPlain l .entering (grantGiven b l s) := by
  unfold grantTest
  dsimp only
  split
  · rename_i free
    split
    · rename_i l found
      refine .inr ⟨?_, l, by simpa using List.find?_some found, rfl⟩
      simp only [Bool.and_eq_true, Option.isNone_iff_eq_none] at free
      exact free.1.1.1
    · exact .inl rfl
  · exact .inl rfl

theorem grantTest_held {b : BridgeId} {s : State} (held : (s.seq.bridges[b]).holder.isSome = true) : grantTest b s = s := by
  rcases grantTest_cases b s with same | ⟨free, -⟩
  · exact same
  · rw [free] at held
    cases held

theorem grantGiven_lane (b : BridgeId) (l k : LaneId) (s : State) : (grantGiven b l s).seq.lanes[k] =
    if l = k then { s.seq.lanes[k] with nearBeam := false } else s.seq.lanes[k] :=
  getElem_alter s.seq.lanes l k _

theorem grantGiven_holder (b k : BridgeId) (l : LaneId) (s : State) : ((grantGiven b l s).seq.bridges[k]).holder =
    if b = k then some l else (s.seq.bridges[k]).holder := by
  simp only [grantGiven, Fin.getElem_fin, modLane_seq, modBridge_seq, getElem_alter]
  split <;> rfl

/-- A grant test leaves the visit of every lane. -/
theorem grantTest_visit (b : BridgeId) (k : LaneId) (s : State) :
    ((grantTest b s).seq.lanes[k]).visit = (s.seq.lanes[k]).visit := by
  rcases grantTest_cases b s with same | ⟨-, l, -, given⟩
  · rw [same]
  · rw [given, ((EntryFrame.refl (l := l) _).enterPlain).visits, grantGiven_lane]
    split <;> rfl

/-- Of a lane that does not wait a grant test leaves all but its stations' commands, and it gives it no grant. -/
theorem grantTest_other {b : BridgeId} {l : LaneId} {s : State} (waits : (s.seq.lanes[l]).state ≠ .waitBridge) :
    ((grantTest b s).seq.lanes[l]).core = (s.seq.lanes[l]).core
      ∧ ∀ k : BridgeId, (s.seq.bridges[k]).holder ≠ some l → ((grantTest b s).seq.bridges[k]).holder ≠ some l := by
  rcases grantTest_cases b s with same | ⟨-, j, waiting, given⟩
  · rw [same]
    exact ⟨rfl, fun _ => id⟩
  · have other : j ≠ l := fun own => waits (own ▸ waiting)
    have frame := (EntryFrame.refl (l := j) (grantGiven b j s)).enterPlain (st := .entering)
    rw [given]
    refine ⟨(frame.others l other.symm).trans ?_, fun k free => ?_⟩
    · rw [grantGiven_lane, if_neg other]
    · rw [frame.holder, grantGiven_holder]
      split
      · exact fun own => other (Option.some.inj own)
      · exact free

/-- A lane with its grant released, before the test (R102). -/
theorem releaseGrant_cases (l : LaneId) (s : State) :
    releaseGrant l s = s ∧ (∀ b, (s.seq.lanes[l]).bridge = some b → (s.seq.bridges[b]).holder ≠ some l)
    ∨ ∃ b, (s.seq.lanes[l]).bridge = some b
        ∧ releaseGrant l s = grantTest b (modBridge b (fun x => { x with holder := none }) s) := by
  unfold releaseGrant
  cases own : (s.seq.lanes[l]).bridge with
  | none => exact .inl ⟨rfl, nofun⟩
  | some b =>
    dsimp only
    split
    · exact .inr ⟨b, rfl, rfl⟩
    · rename_i free
      exact .inl ⟨rfl, fun _ same => by cases same; exact free⟩

/-- A lane that does not wait releases its grant: it is left as it was but for its stations' commands, and holds its bridge no
longer. -/
theorem releaseGrant_lane {l : LaneId} {s : State} (waits : (s.seq.lanes[l]).state ≠ .waitBridge) :
    ((releaseGrant l s).seq.lanes[l]).core = (s.seq.lanes[l]).core
      ∧ ∀ b, (s.seq.lanes[l]).bridge = some b → ((releaseGrant l s).seq.bridges[b]).holder ≠ some l := by
  rcases releaseGrant_cases l s with ⟨same, free⟩ | ⟨b, bridge, tested⟩
  · rw [same]
    exact ⟨rfl, free⟩
  · obtain ⟨core, grants⟩ := grantTest_other (b := b) (s := modBridge b (fun x => { x with holder := none }) s) waits
    rw [tested]
    refine ⟨core, fun k same => grants k ?_⟩
    cases bridge.symm.trans same
    simp

theorem laneDrops_rest (n : Nat) (l : LaneId) (s : State) : laneDrops n l s = { s with visits := (laneDrops n l s).visits } := rfl

theorem dropVisit_none {l : LaneId} {s : State} (h : (s.seq.lanes[l]).visit = none) : dropVisit l s = s := by
  unfold dropVisit
  rw [h]

theorem dropVisit_lane (l : LaneId) (s : State) : (dropVisit l s).seq.lanes[l] = { s.seq.lanes[l] with visit := none } := by
  unfold dropVisit
  split
  · rw [laneDrops_rest]
    exact getElem_alter_self ..
  · rename_i none_
    rw [← none_]

/-- Whether a lane is admittable is its own configuration and flag, and its bridge's state: lane work leaves it. -/
theorem WorkFrame.admittable {s t : State} (h : WorkFrame s t) (l : LaneId) : admittable t l = admittable s l := by
  obtain ⟨config, opened⟩ := h.configs l
  unfold Machine.admittable
  rw [config, opened]
  cases (s.seq.lanes[l]).config with
  | none => rfl
  | some c =>
    dsimp only
    rw [h.engine c.bridge]

theorem WorkFrame.restState {s t : State} (h : WorkFrame s t) (l : LaneId) : restState t l = restState s l := by
  unfold Machine.restState
  rw [h.admittable]

/-- A lane that goes to rest drops what it carries and enters the state of a lane at rest (R97). -/
theorem goRest_eq (l : LaneId) (s : State) :
    goRest l s = enterPlain l (restState s l) (modLane l (fun x => { x with asking := none }) (dropVisit l s)) := by
  have same := (((workFrame_workOps s).dropVisit (l := l) (.refl s)).trans
    (.modLane (l := l) (f := fun x => { x with asking := none }) _ (fun _ => ⟨rfl, rfl⟩))).admittable l
  unfold goRest restState
  dsimp only
  rw [same]
  split <;> rfl

theorem restState_onBridge (s : State) (l : LaneId) : (restState s l).onBridge = false := by
  unfold restState
  split <;> rfl

/-- A lane at rest: what it carried, its hold, its fault and its timer are gone. -/
def Lane.rested (x : Lane) (st : LaneState) : Lane :=
  { x with state := st, visit := none, asking := none, hold := none, fault := none, reweigh := false, kept := none,
           reversing := false, timer := none }

/-- What is set of a lane that goes to rest with its arms sound. -/
theorem goRest_lane {l : LaneId} {s : State} (sound : ArmsSound s l) : (goRest l s).seq.lanes[l] =
    { (s.seq.lanes[l]).rested (restState s l) with
      entry := ((goRest l s).seq.lanes[l]).entry, exit := ((goRest l s).seq.lanes[l]).exit } := by
  have dropped : (modLane l (fun x => { x with asking := none }) (dropVisit l s)).seq.lanes[l]
      = { s.seq.lanes[l] with visit := none, asking := none } := by
    simp only [Fin.getElem_fin, modLane_seq, getElem_alter_self]
    exact congrArg (fun x : Lane => { x with asking := none }) (dropVisit_lane l s)
  have arms : ArmsSound (modLane l (fun x => { x with asking := none }) (dropVisit l s)) l := by
    unfold ArmsSound
    rw [dropped]
    exact sound
  have still : (restState s l).onBridge = true → StationsActive (modLane l (fun x => { x with asking := none }) (dropVisit l s)) l := by
    rw [restState_onBridge]
    exact nofun
  have timer : ∀ o : Option LaneConfig, o.bind (fun c => timerFor c (restState s l)) = none := by
    intro o
    unfold restState
    split <;> cases o <;> rfl
  have weighing : (restState s l == .weighing) = false := by
    unfold restState
    split <;> rfl
  rw [goRest_eq, enterPlain_lane (fun _ => arms) still, dropped, weighing]
  unfold Lane.entering Lane.rested
  rw [timer]
  rfl

end Sys2Proof.Machine

namespace Sys2Proof.Machine

/-! ## The timers of the lane (R99, R105, R106, R108, R111) -/

/-- A lane that carries no visit goes to rest by lane work alone, and leaves every grant. -/
theorem goRest_empty {l : LaneId} {s : State} (empty : (s.seq.lanes[l]).visit = none) :
    LaneFrame s (goRest l s) ∧ ∀ b : BridgeId, ((goRest l s).seq.bridges[b]).holder = (s.seq.bridges[b]).holder := by
  rw [goRest_eq, dropVisit_none empty]
  exact ⟨(laneFrame_laneOps s).enterPlain ((laneFrame_laneOps s).lane (fun _ => ⟨rfl, rfl, rfl, rfl⟩) (.refl s)),
    ((EntryFrame.refl (l := l) (modLane l (fun x => { x with asking := none }) s)).enterPlain).holder⟩

theorem findVisit_removeVisit (n : Nat) (s : State) : findVisit (removeVisit n s) n = none := by
  unfold findVisit removeVisit
  simp [List.find?_eq_none]

/-- The record of a void (R168, R218). -/
def voidBody (v : Visit) (reason : VoidReason) : RecordBody :=
  .visitVoid v.number v.vehicle v.account v.material reason v.underlying v.first (v.held.map (·.2))

/-- A void's release of the account's reserve and of the bank fixed (R168). -/
def voidReleased (v : Visit) (s : State) : State :=
  let s := if v.account = 0 then s else release v.account v.reserve false s
  match v.bank with
  | some b => unrefBank b s
  | none => s

theorem voidReleased_rest (v : Visit) (s : State) : voidReleased v s = { s with tables := (voidReleased v s).tables } := by
  unfold voidReleased
  split <;> split <;> rfl

theorem voidVisit_eq {reason : VoidReason} {v : Visit} {s : State} (found : findVisit s v.number = some v) :
    voidVisit v.number reason s
      = removeVisit v.number (spendClaim (voidBody v reason) (releaseClaims (v.claims - 1) (voidReleased v s))) := by
  unfold voidVisit
  rw [found]
  rfl

/-- A visit void leaves the table and its record stands in the queue, paid by its last claim; no lane is changed (R168). -/
theorem voidVisit_spec {reason : VoidReason} {v : Visit} {s : State} (found : findVisit s v.number = some v)
    (claimed : 1 ≤ v.claims) (held : v.claims ≤ s.port.claims) : (voidVisit v.number reason s).seq = s.seq
      ∧ findVisit (voidVisit v.number reason s) v.number = none
      ∧ ∃ r ∈ (voidVisit v.number reason s).port.records, r.body = voidBody v reason := by
  set paid := releaseClaims (v.claims - 1) (voidReleased v s) with hpaid
  have left : 1 ≤ paid.port.claims := by
    rw [hpaid, voidReleased_rest]
    show 1 ≤ s.port.claims - (v.claims - 1)
    omega
  obtain ⟨frame, -, records⟩ := spendClaim_spec (voidBody v reason) paid left
  have seq : (spendClaim (voidBody v reason) paid).seq = s.seq := by
    rw [frame.rest, hpaid, voidReleased_rest]
    rfl
  rw [voidVisit_eq found]
  exact ⟨seq, findVisit_removeVisit _ _, _, records ▸ List.mem_append_right _ (List.mem_singleton_self _), rfl⟩

theorem laneTimerRuns_of {s : State} {l : LaneId} {k : LaneTimer} {n : Countdown}
    (running : (s.seq.lanes[l]).timer = some (k, n)) : laneTimerRuns s l k = true := by
  unfold laneTimerRuns
  rw [running]
  exact beq_self_eq_true k

/-- A lane in ENTERING gives up its visit as the entry timer runs out. -/
def entryGivenUp (l : LaneId) (n : Nat) (s : State) : State :=
  modLane l (fun x => { x with visit := none, timer := none }) (voidVisit n .abandoned s)

theorem entryExpiry_running {s : State} {l : LaneId} {n : Countdown} {v : Nat}
    (running : (s.seq.lanes[l]).timer = some (.entry, n)) (carried : (s.seq.lanes[l]).visit = some v) :
    entryExpiry l s = goRest l (releaseGrant l (entryGivenUp l v s)) := by
  unfold entryExpiry
  rw [if_pos (laneTimerRuns_of running), carried]
  rfl

/-- An entry timer that runs out: the visit is void, the grant released and the lane at rest (R105, R168). -/
theorem entryExpiry_abandons {s : State} {l : LaneId} {n : Countdown} {v : Visit}
    (running : (s.seq.lanes[l]).timer = some (.entry, n)) (entering : (s.seq.lanes[l]).state = .entering)
    (carried : (s.seq.lanes[l]).visit = some v.number) (found : findVisit s v.number = some v) (claimed : 1 ≤ v.claims)
    (held : v.claims ≤ s.port.claims) (sound : ArmsSound s l) :
    findVisit (entryExpiry l s) v.number = none
      ∧ ((entryExpiry l s).seq.lanes[l]).visit = none ∧ ((entryExpiry l s).seq.lanes[l]).state = restState s l
      ∧ ((entryExpiry l s).seq.lanes[l]).timer = none
      ∧ (∀ b, (s.seq.lanes[l]).bridge = some b → ((entryExpiry l s).seq.bridges[b]).holder ≠ some l)
      ∧ ∃ r ∈ (entryExpiry l s).port.records, r.body = voidBody v .abandoned := by
  obtain ⟨seq, gone, r, member, body⟩ := voidVisit_spec (reason := .abandoned) found claimed held
  set u := entryGivenUp l v.number s with hu
  have lane : u.seq.lanes[l] = { s.seq.lanes[l] with visit := none, timer := none } := by
    rw [hu, entryGivenUp, modLane_seq, seq]
    exact getElem_alter_self ..
  have waits : (u.seq.lanes[l]).state ≠ .waitBridge := by
    rw [lane]
    exact fun waiting => LaneState.noConfusion (entering.symm.trans waiting)
  obtain ⟨core, free⟩ := releaseGrant_lane waits
  have empty : ((releaseGrant l u).seq.lanes[l]).visit = none :=
    (congrArg Lane.visit core).trans (congrArg Lane.visit lane)
  have arms : ArmsSound (releaseGrant l u) l :=
    (congrArg Lane.armFaulted core).trans ((congrArg Lane.armFaulted lane).trans sound)
  obtain ⟨rest, holders⟩ := goRest_empty empty
  have work : LaneFrame u (goRest l (releaseGrant l u)) := ((laneFrame_laneOps u).releaseGrant (.refl u)).trans rest
  have state : restState (releaseGrant l u) l = restState s l := by
    have ops := workFrame_workOps s
    have frame : WorkFrame s (releaseGrant l u) :=
      ops.releaseGrant (ops.lane (fun _ => ⟨rfl, rfl, rfl, rfl⟩) (ops.voidVisit (.refl s)))
    exact frame.restState l
  rw [entryExpiry_running running carried, ← hu]
  have rested := goRest_lane arms
  refine ⟨?_, congrArg Lane.visit rested, (congrArg Lane.state rested).trans state, congrArg Lane.timer rested,
    fun b bridge => ?_, r, work.records r member, body⟩
  · unfold findVisit
    rw [work.visits]
    exact gone
  · rw [holders]
    refine free b ?_
    rw [lane]
    exact bridge

/-- A lane gives up its pending admission and goes to rest (R99). -/
theorem endAsking_rests {l : LaneId} {s : State} (sound : ArmsSound s l) : (endAsking l s).seq.lanes[l] =
    { (s.seq.lanes[l]).rested (restState s l) with
      entry := ((endAsking l s).seq.lanes[l]).entry, exit := ((endAsking l s).seq.lanes[l]).exit } := by
  set u := modLane l (fun x => { x with asking := none }) s with hu
  have lane : u.seq.lanes[l] = { s.seq.lanes[l] with asking := none } := getElem_alter_self ..
  have arms : ArmsSound u l := (congrArg Lane.armFaulted lane).trans sound
  have frame : WorkFrame s u := .modLane s (fun _ => ⟨rfl, rfl⟩)
  have rested := goRest_lane arms
  rw [frame.restState, lane] at rested
  exact rested

theorem stabilityExpiry_running {s : State} {l : LaneId} {n : Countdown}
    (running : (s.seq.lanes[l]).timer = some (.stability, n)) : stabilityExpiry l s = holdLane l .unstable .weighing s :=
  if_pos (laneTimerRuns_of running)

theorem clearanceExpiry_running {s : State} {l : LaneId} {n : Countdown}
    (running : (s.seq.lanes[l]).timer = some (.clearance, n)) : clearanceExpiry l s = faultLane l .clearance none s :=
  if_pos (laneTimerRuns_of running)

theorem askExpiry_running {s : State} {l : LaneId} {n : Countdown} (running : (s.seq.lanes[l]).timer = some (.ask, n)) :
    askExpiry l s = endAsking l s :=
  if_pos (laneTimerRuns_of running)

/-- A lane that withdraws its capture request has none with the engine of its bridge (R19). -/
theorem withdraw_capture {l : LaneId} {b : BridgeId} {s : State} (bridge : (s.seq.lanes[l]).bridge = some b) :
    ∀ r, ((withdraw l s).engine[b]).capture = some r → r.lane ≠ l := by
  unfold withdraw
  rw [bridge]
  intro r requested own
  simp only [Fin.getElem_fin, modEngine_engine, getElem_alter_self] at requested
  split at requested
  · split at requested
    · cases requested
    · rename_i kept other
      cases kept.symm.trans requested
      exact other own
  · rename_i none_
    cases none_.symm.trans requested

/-- What a lane that enters HELD keeps and what is set of it (R113). -/
theorem holdLane_lane (l : LaneId) (reason : HoldReason) (resume : LaneState) (s : State) :
    (holdLane l reason resume s).seq.lanes[l] =
      { s.seq.lanes[l] with state := .held, hold := some (reason, resume), timer := none,
                            entry := ((holdLane l reason resume s).seq.lanes[l]).entry,
                            exit := ((holdLane l reason resume s).seq.lanes[l]).exit } := by
  obtain ⟨visits, port, held⟩ := holdLane_settled l reason resume s
  have made : (holding l reason resume s).seq.lanes[l]
      = { s.seq.lanes[l] with state := .held, hold := some (reason, resume), timer := none } := by
    rw [holding, modLane_seq, withdraw_seq]
    exact getElem_alter_self ..
  have lane := settleStill_lane l l (holding l reason resume s)
  rw [made] at lane
  generalize settleStill l (holding l reason resume s) = u at held lane
  rw [held]
  exact lane

/-- A lane that enters HELD has no capture request with the engine of its bridge (R106, R113). -/
theorem holdLane_capture {l : LaneId} {b : BridgeId} {reason : HoldReason} {resume : LaneState} {s : State}
    (bridge : (s.seq.lanes[l]).bridge = some b) :
    ∀ r, ((holdLane l reason resume s).engine[b]).capture = some r → r.lane ≠ l := by
  obtain ⟨visits, port, held⟩ := holdLane_settled l reason resume s
  have engine : (settleStill l (holding l reason resume s)).engine = (withdraw l s).engine := by
    rw [(settleStill_frame l _).engine]
    rfl
  rw [held]
  dsimp only
  rw [engine]
  exact withdraw_capture bridge

/-- What is set of a lane that faults (R112). -/
theorem faultLane_timer (l : LaneId) (reason : FaultReason) (e : Option LaneEnd) (s : State) :
    ((faultLane l reason e s).seq.lanes[l]).timer = none := by
  unfold faultLane
  extract_lets left u v w
  have stopped : (v.seq.lanes[l]).timer = none := by simp [v]
  rw [(queueRecord_spec _ _).1.rest]
  exact (congrArg Lane.timer (settleStill_lane l l v)).trans stopped

/-- A lane that faults leaves its stations' marks and motion timers. -/
theorem faultLane_halt (l : LaneId) (e : LaneEnd) (reason : FaultReason) (named : Option LaneEnd) (s : State) :
    (((faultLane l reason named s).seq.lanes[l]).station e).halt = ((s.seq.lanes[l]).station e).halt := by
  unfold faultLane
  extract_lets left u v w
  have made : ((v.seq.lanes[l]).station e).halt = ((s.seq.lanes[l]).station e).halt := by
    have lane : v.seq.lanes[l] = _ := getElem_alter_self u.seq.lanes l _
    rw [lane, show u.seq = s.seq from withdraw_seq l s]
    cases e <;> rfl
  rw [(queueRecord_spec _ _).1.rest]
  exact (settleStill_halt l l e v).trans made

/-- A station's offers leave its mark and its motion timer, also where the lane faults on them. -/
theorem stationOffers_halt (l : LaneId) (e : LaneEnd) (s : State) :
    (((stationOffers l e s).seq.lanes[l]).station e).halt = ((s.seq.lanes[l]).station e).halt := by
  have offers := (offerStation_frame l e s).halt l e
  unfold stationOffers afterOffers
  split <;> rename_i offered <;> rw [offered] at offers
  · split
    · exact (faultLane_halt l e _ _ _).trans offers
    · exact offers
  · exact offers

/-- An arm image that becomes FAULT faults a lane from IDLE to RELEASING whose arm was not FAULT, and leaves every station's
mark and motion timer (R112). -/
theorem armFault_spec (l : LaneId) (e : LaneEnd) (reason : FaultReason) (s : State) :
    (((armFault l e reason s).seq.lanes[l]).station e).arm = .fault
      ∧ (((armFault l e reason s).seq.lanes[l]).station e).halt = ((s.seq.lanes[l]).station e).halt
      ∧ (((s.seq.lanes[l]).station e).arm ≠ .fault → (s.seq.lanes[l]).state.faults = true →
          ((armFault l e reason s).seq.lanes[l]).state = .fault
          ∧ ((armFault l e reason s).seq.lanes[l]).fault = some (reason, (s.seq.lanes[l]).state)) := by
  unfold armFault
  extract_lets former u
  have station : (u.seq.lanes[l]).station e = { (s.seq.lanes[l]).station e with arm := .fault } := modStation_station ..
  have state : (u.seq.lanes[l]).state = (s.seq.lanes[l]).state := modStation_state l l e _ s
  have arm : ((u.seq.lanes[l]).station e).arm = .fault := by rw [station]
  have halt : ((u.seq.lanes[l]).station e).halt = ((s.seq.lanes[l]).station e).halt := by
    rw [station]
    rfl
  split
  · have image := ((ImageFrame.refl u).faultLane (l := l) (reason := reason) (e := some e)).images l |>.station e
    have faulted := faultLane_lane l reason (some e) u
    rw [state] at faulted
    exact ⟨(congrArg (·.1) image).trans arm, (faultLane_halt l e reason (some e) u).trans halt, fun _ _ => faulted⟩
  · rename_i stays
    exact ⟨arm, halt, fun sound faults => absurd ⟨sound, (congrArg LaneState.faults state).trans faults⟩ stays⟩

/-- A motion timer that runs out stops, the arm image is FAULT, and a lane from IDLE to RELEASING whose arm was not FAULT
faults (R111, R112). -/
theorem motionExpiry_faults {l : LaneId} {e : LaneEnd} {s : State} (running : ((s.seq.lanes[l]).station e).motion.isSome = true) :
    (((motionExpiry l e s).seq.lanes[l]).station e).arm = .fault
      ∧ (((motionExpiry l e s).seq.lanes[l]).station e).motion = none
      ∧ (((s.seq.lanes[l]).station e).arm ≠ .fault → (s.seq.lanes[l]).state.faults = true →
          ((motionExpiry l e s).seq.lanes[l]).state = .fault
          ∧ ((motionExpiry l e s).seq.lanes[l]).fault = some (.armTimeout, (s.seq.lanes[l]).state)) := by
  set u := modStation l e (fun x => { x with motion := none }) s with hu
  have station : (u.seq.lanes[l]).station e = { (s.seq.lanes[l]).station e with motion := none } := modStation_station ..
  have state : (u.seq.lanes[l]).state = (s.seq.lanes[l]).state := modStation_state l l e _ s
  have expired : motionExpiry l e s = stationOffers l e (armFault l e .armTimeout u) := if_pos running
  obtain ⟨arm, halt, faulted⟩ := armFault_spec l e .armTimeout u
  rw [station, state] at faulted
  rw [station] at halt
  rw [expired]
  generalize armFault l e .armTimeout u = v at arm halt faulted
  have image := ((ImageFrame.refl v).stationOffers (l := l) (e := e)).images l |>.station e
  refine ⟨(congrArg (·.1) image).trans arm, congrArg (·.2) ((stationOffers_halt l e v).trans halt), fun sound faults => ?_⟩
  obtain ⟨inFault, reason⟩ := faulted sound faults
  rw [stationOffers_fault inFault, (offerStation_frame l e v).lane l]
  exact ⟨inFault, reason⟩

end Sys2Proof.Machine

namespace Sys2Proof.Certificates
open Sys2Proof.Machine

/-- Settles O34: each lane timer that runs out gives up, holds or faults its lane, and the motion timer its arm. -/
theorem laneTimersExpire : Obligations.LaneTimersExpire := by
  unfold Obligations.LaneTimersExpire
  refine ⟨fun s l n v on running entering carried found claimed held sound => ?_, fun s l n on running sound => ?_,
    fun s l n on running => ?_, fun s l n on running => ?_, fun s l e on running => ?_⟩
  · obtain ⟨gone, visit, state, timer, free, record⟩ :=
      entryExpiry_abandons (s := fresh s) running entering carried found claimed held sound
    exact ⟨_, act_of_powered on, gone, visit, state, timer, free, record⟩
  · have run : exec (.askTimerExpiry l) s = .next (endAsking l (fresh s)) :=
      (act_of_powered on).trans (congrArg _ (askExpiry_running (s := fresh s) running))
    have rested := endAsking_rests (s := fresh s) sound
    exact ⟨_, run, congrArg Lane.asking rested, congrArg Lane.state rested, congrArg Lane.timer rested⟩
  · have run : exec (.stabilityTimerExpiry l) s = .next (holdLane l .unstable .weighing (fresh s)) :=
      (act_of_powered on).trans (congrArg _ (stabilityExpiry_running (s := fresh s) running))
    have held := holdLane_lane l .unstable .weighing (fresh s)
    exact ⟨_, run, congrArg Lane.state held, congrArg Lane.hold held, congrArg Lane.timer held,
      fun b bridge => holdLane_capture (s := fresh s) bridge⟩
  · have run : exec (.clearanceTimerExpiry l) s = .next (faultLane l .clearance none (fresh s)) :=
      (act_of_powered on).trans (congrArg _ (clearanceExpiry_running (s := fresh s) running))
    obtain ⟨state, fault⟩ := faultLane_lane l .clearance none (fresh s)
    exact ⟨_, run, state, faultLane_timer l .clearance none (fresh s), fault⟩
  · exact ⟨_, act_of_powered on, motionExpiry_faults (s := fresh s) running⟩

end Sys2Proof.Certificates

namespace Sys2Proof.Machine

/-! ## The settings of a lane (R95, R118 to R121) -/

@[simp] theorem asNum_map (given : Option Nat) : asNum (given.map .num) = given := by
  cases given <;> rfl

theorem setting_map (default lo hi : Nat) (given : Option Nat) :
    setting default lo hi (given.map .num) = clamp lo hi (given.getD default) := by
  rw [setting, asNum_map]

/-- A value is taken unclamped when it is left out or lies in its range. -/
theorem unclamped_map_iff (lo hi : Nat) (given : Option Nat) :
    unclamped lo hi (given.map .num) = true ↔ ∀ n ∈ given, lo ≤ n ∧ n ≤ hi := by
  rw [unclamped, asNum_map]
  cases given <;> simp

/-- The configuration a PUT LANE writes: what is left out takes its default, and each time the nearer end of its range. -/
def laneConfigTaken (b : BridgeId) (dir fn : Nat) (flag : Option Bool)
    (entry ask stability clearance motion print : Option Nat) : LaneConfig :=
  { bridge := b, direction := if dir = 1 then .aToB else .bToA, function := if fn = 1 then .inbound else .outbound,
    releaseOnFailure := flag.getD false, entryTime := clamp 10 600 (entry.getD 90), askTime := clamp 10 300 (ask.getD 60),
    stabilityTime := clamp 5 120 (stability.getD 30), clearanceTime := clamp 10 600 (clearance.getD 60),
    motionTime := clamp 2 30 (motion.getD 8), printTime := clamp 5 120 (print.getD 20) }

/-- Each time of a PUT LANE is left out or lies in its range. -/
def laneTimesFit (entry ask stability clearance motion print : Option Nat) : Bool :=
  unclamped 10 600 (entry.map .num) && unclamped 10 300 (ask.map .num) && unclamped 5 120 (stability.map .num)
    && unclamped 10 600 (clearance.map .num) && unclamped 2 30 (motion.map .num) && unclamped 5 120 (print.map .num)

theorem laneTimesFit_iff (entry ask stability clearance motion print : Option Nat) :
    laneTimesFit entry ask stability clearance motion print = true ↔
      (∀ n ∈ entry, 10 ≤ n ∧ n ≤ 600) ∧ (∀ n ∈ ask, 10 ≤ n ∧ n ≤ 300) ∧ (∀ n ∈ stability, 5 ≤ n ∧ n ≤ 120)
        ∧ (∀ n ∈ clearance, 10 ≤ n ∧ n ≤ 600) ∧ (∀ n ∈ motion, 2 ≤ n ∧ n ≤ 30) ∧ (∀ n ∈ print, 5 ≤ n ∧ n ≤ 120) := by
  simp only [laneTimesFit, Bool.and_eq_true, unclamped_map_iff, and_assoc]

section PutLane
variable {s : State} {l : LaneId} (tag : Byte) (b : BridgeId) (dir fn : Nat) (flag : Option Bool)
  (entry ask stability clearance motion print : Option Nat)

theorem putLane_notClosed (open_ : (s.seq.lanes[l]).state ≠ .closed) :
    putLane tag [some (.num (l.val + 1)), some (.num (b.val + 1)), some (.num dir), some (.num fn), flag.map .flag,
      entry.map .num, ask.map .num, stability.map .num, clearance.map .num, motion.map .num, print.map .num] s
      = reply .state s := by
  simp only [putLane, laneOf_val, bridgeOf_val]
  exact if_pos open_

/-- A lane CLOSED and not open takes its configuration and stays CLOSED, as it is not admittable (R97, R118). -/
theorem putLane_closed (closed : (s.seq.lanes[l]).state = .closed) (shut : (s.seq.lanes[l]).isOpen = false) :
    putLane tag [some (.num (l.val + 1)), some (.num (b.val + 1)), some (.num dir), some (.num fn), flag.map .flag,
      entry.map .num, ask.map .num, stability.map .num, clearance.map .num, motion.map .num, print.map .num] s
      = reply (if laneTimesFit entry ask stability clearance motion print then .done else .doneClamped)
          (modLane l (fun x => { x with
            config := some (laneConfigTaken b dir fn flag entry ask stability clearance motion print) }) s) := by
  have unadmitted : ∀ c : LaneConfig, admittable (modLane l (fun x => { x with config := some c }) s) l = false := by
    intro c
    simp only [admittable, Fin.getElem_fin, modLane_seq, getElem_alter_self]
    exact Bool.and_eq_false_imp.2 (fun opened => Bool.noConfusion (shut.symm.trans opened))
  simp only [putLane, laneOf_val, bridgeOf_val, setting_map, unadmitted]
  rw [if_neg (not_not.2 closed)]
  cases flag <;> rfl

end PutLane

/-- A lane with its open flag set or cleared. -/
def laneFlagged (l : LaneId) (opened : Bool) (s : State) : State := modLane l (fun x => { x with isOpen := opened }) s

theorem laneFlagged_lane (l : LaneId) (opened : Bool) (s : State) :
    (laneFlagged l opened s).seq.lanes[l] = { s.seq.lanes[l] with isOpen := opened } := getElem_alter_self ..

/-- A lane with its open flag set is admittable when it is configured and its bridge READY (R97). -/
theorem admittable_opened {l : LaneId} {c : LaneConfig} {s : State} (config : (s.seq.lanes[l]).config = some c) :
    admittable (laneFlagged l true s) l = ((s.engine[c.bridge]).status == .ready) := by
  unfold admittable
  rw [laneFlagged_lane]
  dsimp only
  rw [config]
  rfl

theorem openLane_unconfigured {tag : Byte} {l : LaneId} {s : State} (config : (s.seq.lanes[l]).config = none) :
    openLane tag [some (.num (l.val + 1))] s = reply .state s := by
  simp only [openLane, laneOf_val]
  rw [if_pos (by rw [config]; rfl)]

/-- A configured lane opened enters IDLE if it is CLOSED and its bridge READY (R97, R119). -/
theorem openLane_configured {tag : Byte} {l : LaneId} {c : LaneConfig} {s : State}
    (config : (s.seq.lanes[l]).config = some c) : openLane tag [some (.num (l.val + 1))] s =
      reply .done (if (s.seq.lanes[l]).state = .closed ∧ (s.engine[c.bridge]).status = .ready
        then enterPlain l .idle (laneFlagged l true s) else laneFlagged l true s) := by
  have state : ((laneFlagged l true s).seq.lanes[l]).state = (s.seq.lanes[l]).state := by
    rw [laneFlagged_lane]
  have ready : admittable (laneFlagged l true s) l = true ↔ (s.engine[c.bridge]).status = .ready := by
    rw [admittable_opened config, beq_iff_eq]
  simp only [openLane, laneOf_val]
  rw [if_neg (by rw [config]; exact Bool.false_ne_true)]
  show reply .done (if ((laneFlagged l true s).seq.lanes[l]).state = .closed ∧ admittable (laneFlagged l true s) l = true
    then enterPlain l .idle (laneFlagged l true s) else laneFlagged l true s) = _
  simp only [state, ready]

/-- A lane that enters CLOSED does so whatever its arms and its nodes are. -/
theorem enterPlain_closed_lane (l : LaneId) (s : State) : (enterPlain l .closed s).seq.lanes[l] =
    { (s.seq.lanes[l]).entering .closed false with
      entry := ((enterPlain l .closed s).seq.lanes[l]).entry, exit := ((enterPlain l .closed s).seq.lanes[l]).exit } :=
  enterPlain_lane (st := .closed) nofun nofun

/-- A lane that rests in neither IDLE nor ASKING stays as its flag clears (R120). -/
theorem closeLane_stays {tag : Byte} {l : LaneId} {s : State} (idle : (s.seq.lanes[l]).state ≠ .idle)
    (asking : (s.seq.lanes[l]).state ≠ .asking) :
    closeLane tag [some (.num (l.val + 1))] s = reply .done (laneFlagged l false s) := by
  have state : ((laneFlagged l false s).seq.lanes[l]).state = (s.seq.lanes[l]).state := by
    rw [laneFlagged_lane]
  rw [← state] at idle asking
  simp only [closeLane, laneOf_val]
  refine congrArg _ ?_
  split
  · rename_i isIdle
    exact absurd isIdle idle
  · rename_i isAsking
    exact absurd isAsking asking
  · rfl

theorem closeLane_idle {tag : Byte} {l : LaneId} {s : State} (idle : (s.seq.lanes[l]).state = .idle) :
    closeLane tag [some (.num (l.val + 1))] s = reply .done (enterPlain l .closed (laneFlagged l false s)) := by
  have state : ((laneFlagged l false s).seq.lanes[l]).state = .idle := by
    rw [laneFlagged_lane]
    exact idle
  unfold laneFlagged at state ⊢
  simp only [closeLane, laneOf_val]
  rw [state]

/-- A lane in ASKING gives up its pending admission as it closes (R120). -/
theorem closeLane_asking {tag : Byte} {l : LaneId} {s : State} (asking : (s.seq.lanes[l]).state = .asking) :
    closeLane tag [some (.num (l.val + 1))] s
      = reply .done (enterPlain l .closed (modLane l (fun x => { x with asking := none }) (laneFlagged l false s))) := by
  have state : ((laneFlagged l false s).seq.lanes[l]).state = .asking := by
    rw [laneFlagged_lane]
    exact asking
  unfold laneFlagged at state ⊢
  simp only [closeLane, laneOf_val]
  rw [state]

/-- The states a lane is held in: ASKING to RELEASING (R113). -/
theorem holdable_iff {st : LaneState} : (st.faults && st != .idle) = true
    ↔ st ∈ [LaneState.asking, .waitBridge, .entering, .weighing, .ticketing, .releasing] := by
  cases st <;> decide

theorem unholdable_iff {st : LaneState} : (st.faults && st != .idle) = false
    ↔ st ∈ [LaneState.closed, .idle, .held, .fault] := by
  cases st <;> decide

theorem holdRequest_refused {tag : Byte} {l : LaneId} {s : State}
    (rests : (s.seq.lanes[l]).state ∈ [LaneState.closed, .idle, .held, .fault]) :
    holdRequest tag [some (.num (l.val + 1))] s = reply .state s := by
  simp only [holdRequest, laneOf_val]
  rw [unholdable_iff.2 rests, if_neg Bool.false_ne_true]

/-- A lane in ASKING to RELEASING is held, to resume the state it was in (R121). -/
theorem holdRequest_holds {tag : Byte} {l : LaneId} {s : State}
    (runs : (s.seq.lanes[l]).state ∈ [LaneState.asking, .waitBridge, .entering, .weighing, .ticketing, .releasing]) :
    holdRequest tag [some (.num (l.val + 1))] s = reply .done (holdLane l .office (s.seq.lanes[l]).state s) := by
  simp only [holdRequest, laneOf_val]
  rw [holdable_iff.2 runs, if_pos rfl]

end Sys2Proof.Machine

namespace Sys2Proof.Certificates
open Sys2Proof.Machine

/-- Settles O50: the four requests write a CLOSED lane's configuration, set and clear the open flag, and hold a lane. -/
theorem laneSettings : Obligations.LaneSettings := by
  unfold Obligations.LaneSettings
  refine ⟨fun s tag l b dir fn flag entry ask stability clearance motion print request => ⟨fun open_ => ?_, fun closed shut => ?_⟩,
    fun s tag l request => ⟨fun config => ?_, fun c config => ⟨fun stays => ?_, fun closed ready sound => ?_⟩⟩,
    fun s tag l request => ⟨fun idle asking => ?_, fun rests => ?_⟩, fun s tag l request => ⟨fun rests => ?_, fun runs => ?_⟩⟩
  · exact answers_of_owner rfl request (putLane_notClosed (s := fresh s) tag b dir fn flag entry ask stability clearance
      motion print open_)
  · refine ⟨if laneTimesFit entry ask stability clearance motion print then .done else .doneClamped, ?_, ?_,
      answers_of_owner rfl request (putLane_closed (s := fresh s) tag b dir fn flag entry ask stability clearance motion
        print closed shut)⟩
    · split
      · exact .inl rfl
      · exact .inr rfl
    · rw [← laneTimesFit_iff]
      simp
  · exact answers_of_owner rfl request (openLane_unconfigured (s := fresh s) config)
  · have opened := openLane_configured (tag := tag) (s := fresh s) config
    rw [if_neg (fun enters => stays.elim (· enters.1) (· enters.2))] at opened
    exact answers_of_owner rfl request opened
  · have opened := openLane_configured (tag := tag) (s := fresh s) config
    rw [if_pos ⟨closed, ready⟩] at opened
    have arms : ArmsSound (laneFlagged l true (fresh s)) l :=
      (congrArg Lane.armFaulted (laneFlagged_lane l true (fresh s))).trans sound
    have lane := enterPlain_lane (st := .idle) (fun _ => arms) nofun
    rw [laneFlagged_lane] at lane
    exact ⟨_, answers_of_owner rfl request opened, congrArg Lane.state lane, congrArg Lane.isOpen lane⟩
  · exact answers_of_owner rfl request (closeLane_stays (s := fresh s) idle asking)
  · rcases rests with idle | asking
    · have lane := enterPlain_closed_lane l (laneFlagged l false (fresh s))
      rw [laneFlagged_lane] at lane
      refine ⟨_, answers_of_owner rfl request (closeLane_idle (s := fresh s) idle), congrArg Lane.state lane,
        congrArg Lane.isOpen lane, fun asking => ?_⟩
      cases idle.symm.trans asking
    · have lane := enterPlain_closed_lane l (modLane l (fun x => { x with asking := none }) (laneFlagged l false (fresh s)))
      have dropped : (modLane l (fun x => { x with asking := none }) (laneFlagged l false (fresh s))).seq.lanes[l]
          = { s.seq.lanes[l] with isOpen := false, asking := none } := by
        simp [laneFlagged]
      rw [dropped] at lane
      exact ⟨_, answers_of_owner rfl request (closeLane_asking (s := fresh s) asking), congrArg Lane.state lane,
        congrArg Lane.isOpen lane, fun _ => congrArg Lane.asking lane⟩
  · exact answers_of_owner rfl request (holdRequest_refused (s := fresh s) rests)
  · have lane := holdLane_lane l .office ((fresh s).seq.lanes[l]).state (fresh s)
    exact ⟨_, answers_of_owner rfl request (holdRequest_holds (s := fresh s) runs), congrArg Lane.state lane,
      congrArg Lane.hold lane, congrArg Lane.timer lane, (congrArg Lane.visit lane :)⟩

end Sys2Proof.Certificates

namespace Sys2Proof.Machine

/-! ## A lane released (R108, R115, R116, R122) -/

/-- What a station's settings want. -/
def Station.wants (x : Station) : WantedArm × Aspect := (x.wantArm, x.wantSignal)

theorem OfferFrame.wants {s t : State} (h : OfferFrame s t) (l : LaneId) (e : LaneEnd) :
    ((t.seq.lanes[l]).station e).wants = ((s.seq.lanes[l]).station e).wants := by
  cases e with
  | entry =>
    have core := congrArg (fun x : Lane => x.entry.wants) (h.lanes l)
    exact core
  | exit =>
    have core := congrArg (fun x : Lane => x.exit.wants) (h.lanes l)
    exact core

/-- A lane that enters RELEASING with sound arms and ACTIVE stations: its exit arm is wanted UP and the signal GREEN, its hold is
over and its clearance timer runs. -/
theorem enterPlain_releasing {l : LaneId} {s : State} (sound : ArmsSound s l) (active : StationsActive s l) :
    ((enterPlain l .releasing s).seq.lanes[l]).state = .releasing ∧ ((enterPlain l .releasing s).seq.lanes[l]).hold = none
      ∧ ((enterPlain l .releasing s).seq.lanes[l]).exit.wants = (.up, .green)
      ∧ ((enterPlain l .releasing s).seq.lanes[l]).timer = (s.seq.lanes[l]).config.bind (fun c => timerFor c .releasing) := by
  have lane := enterPlain_lane (st := .releasing) (fun _ => sound) (fun _ => active)
  have offers := enterPlain_offers (st := .releasing) (fun _ => sound) (fun _ => active)
  have settled : (((entrySettled l .releasing s).seq.lanes[l]).station .exit).wants = (.up, .green) := by
    show (((modStation l .exit (fun x => { x with wantArm := .up, wantSignal := .green }) _).seq.lanes[l]).station .exit).wants = _
    rw [modStation_station]
    rfl
  exact ⟨congrArg Lane.state lane, congrArg Lane.hold lane, (offers.wants l .exit).trans settled, congrArg Lane.timer lane⟩

/-- A lane HELD to resume RELEASING, of whose hold the visit unit has not been told, resumes into it (R115). -/
theorem resume_releasing {l : LaneId} {reason : HoldReason} {s : State} (held : (s.seq.lanes[l]).state = .held)
    (hold : (s.seq.lanes[l]).hold = some (reason, .releasing))
    (untold : (s.seq.lanes[l]).visit = none ∨ ¬ (reason = .unstable ∨ reason = .office ∨ reason = .yardStop)) :
    resume l s = enterPlain l .releasing (modLane l (fun x => { x with reweigh := false }) s) := by
  unfold resume
  dsimp only
  rw [held, hold]
  cases carried : (s.seq.lanes[l]).visit with
  | none => rfl
  | some n =>
    rw [carried] at untold
    dsimp only
    rw [if_neg (untold.resolve_left nofun)]
    rfl

/-- What is set of a lane that resumes into RELEASING. -/
theorem resume_releases {l : LaneId} {reason : HoldReason} {s : State} (held : (s.seq.lanes[l]).state = .held)
    (hold : (s.seq.lanes[l]).hold = some (reason, .releasing))
    (untold : (s.seq.lanes[l]).visit = none ∨ ¬ (reason = .unstable ∨ reason = .office ∨ reason = .yardStop))
    (sound : ArmsSound s l) (active : StationsActive s l) : ((resume l s).seq.lanes[l]).state = .releasing
      ∧ ((resume l s).seq.lanes[l]).hold = none ∧ ((resume l s).seq.lanes[l]).exit.wants = (.up, .green)
      ∧ ((resume l s).seq.lanes[l]).timer = (s.seq.lanes[l]).config.bind (fun c => timerFor c .releasing) := by
  set u := modLane l (fun x => { x with reweigh := false }) s with hu
  have lane : u.seq.lanes[l] = { s.seq.lanes[l] with reweigh := false } := getElem_alter_self ..
  have releasing := enterPlain_releasing (l := l) (s := u) ((congrArg Lane.armFaulted lane).trans sound) (active.kept rfl rfl)
  rw [lane] at releasing
  rw [resume_releasing held hold untold]
  exact releasing

/-- A lane with no visit and no grant is let off to rest (R116). -/
theorem letOff_empty {l : LaneId} {s : State} (empty : (s.seq.lanes[l]).visit = none) (ungranted : holdsGrant s l = false) :
    letOff l s = goRest l (modLane l (fun x => { x with visit := none }) s) := by
  unfold letOff
  dsimp only
  rw [empty, ungranted]
  rfl

/-! ## RELEASE LANE (R122) -/

theorem releaseLane_stopped {tag : Byte} {l : LaneId} {k : Nat} {s : State} (asserted : s.yardStop = true) :
    releaseLane tag [some (.num (l.val + 1)), some (.num k)] s = reply .state s := by
  simp only [releaseLane, laneOf_val]
  exact if_pos asserted

theorem releaseLane_resumes {tag : Byte} {l : LaneId} {s : State} {resumed : LaneState} (released : s.yardStop = false)
    (held : (s.seq.lanes[l]).state = .held) (hold : (s.seq.lanes[l]).hold = some (.office, resumed)) :
    releaseLane tag [some (.num (l.val + 1)), some (.num 1)] s = reply .done (resume l s) := by
  have allowed : releaseRefused s l true = false := by
    unfold releaseRefused
    dsimp only
    rw [held, hold]
    rfl
  simp only [releaseLane, laneOf_val]
  rw [released, if_neg Bool.false_ne_true, beq_self_eq_true, allowed, if_neg Bool.false_ne_true, if_pos trivial]

/-- LET_OFF clears the lane's reweigh mark and its ticket's outcome first (R122). -/
def letOffCleared (l : LaneId) (s : State) : State := modLane l (fun x => { x with reweigh := false, outcome := none }) s

theorem letOffCleared_lane (l : LaneId) (s : State) :
    (letOffCleared l s).seq.lanes[l] = { s.seq.lanes[l] with reweigh := false, outcome := none } := getElem_alter_self ..

theorem letOffCleared_frame (l : LaneId) (s : State) : WorkFrame s (letOffCleared l s) := .modLane s (fun _ => ⟨rfl, rfl⟩)

theorem releaseLane_letsOff {tag : Byte} {l : LaneId} {s : State} (released : s.yardStop = false)
    (held : (s.seq.lanes[l]).state = .held) : releaseLane tag [some (.num (l.val + 1)), some (.num 2)] s
      = reply .done (letOff l (letOffCleared l s)) := by
  have allowed : releaseRefused s l false = false := by
    unfold releaseRefused
    dsimp only
    rw [held]
    rfl
  simp only [releaseLane, laneOf_val]
  rw [released, if_neg Bool.false_ne_true, show (2 == 1) = false from rfl, allowed, if_neg Bool.false_ne_true,
    if_neg (by decide)]
  rfl

/-- What is set of a lane let off that carries no visit and holds no grant (R116, R122). -/
theorem letOff_rests {l : LaneId} {s : State} (empty : (s.seq.lanes[l]).visit = none) (ungranted : holdsGrant s l = false)
    (sound : ArmsSound s l) : (letOff l s).seq.lanes[l] = { (s.seq.lanes[l]).rested (restState s l) with
      entry := ((letOff l s).seq.lanes[l]).entry, exit := ((letOff l s).seq.lanes[l]).exit } := by
  set u := modLane l (fun x => { x with visit := none }) s with hu
  have lane : u.seq.lanes[l] = { s.seq.lanes[l] with visit := none } := getElem_alter_self ..
  have frame : WorkFrame s u := .modLane s (fun _ => ⟨rfl, rfl⟩)
  have rested := goRest_lane (l := l) (s := u) ((congrArg Lane.armFaulted lane).trans sound)
  rw [frame.restState, lane] at rested
  rw [letOff_empty empty ungranted]
  exact rested

/-! ## BARRIER OVERRIDE (R123) -/

@[simp] theorem endOf_code (e : LaneEnd) : endOf (laneEndCode e) = e := by
  cases e <;> rfl

/-- The arm command a BARRIER OVERRIDE's action names, and the arm it wants. -/
def overrideCommand (action : Nat) : ArmCommand := if action = 1 then .raise else .lower

def overrideWant (action : Nat) : WantedArm := if action = 1 then .up else .down

/-- The override's command waits: one is outstanding, or the loop is not CLEAR under a LOWER. -/
def overrideWaits (x : Station) (action : Nat) : Prop :=
  x.outArm.isSome = true ∨ overrideWant action = .down ∧ x.loop ≠ .clear

theorem overrideCommand_lower (action : Nat) : overrideCommand action = .lower ↔ overrideWant action = .down := by
  unfold overrideCommand overrideWant
  split <;> simp

theorem overrideWaits_iff {x : Station} {action : Nat} : overrideWaits x action ↔
    x.outArm ≠ none ∨ overrideCommand action = .lower ∧ x.loop ≠ .clear := by
  rw [overrideWaits, overrideCommand_lower, Option.isSome_iff_ne_none]

section BarrierOverride
variable {s : State} {l : LaneId} {e : LaneEnd} {a : NodeId} {tag : Byte} {k : Nat}

theorem barrierOverride_refused (refused : filledNode s (.station l e) = none
      ∨ ((s.seq.lanes[l]).station e).driveOffMark = true ∨ ((s.seq.lanes[l]).station e).arm = .off) :
    barrierOverride tag [some (.num (l.val + 1)), some (.num (laneEndCode e)), some (.num k)] s = reply .state s := by
  simp only [barrierOverride, laneOf_val, endOf_code]
  cases filled : filledNode s (.station l e) with
  | none => rfl
  | some a => exact if_pos (refused.resolve_left (fun none_ => nomatch filled.symm.trans none_))

theorem barrierOverride_waits (filled : filledNode s (.station l e) = some a)
    (mark : ((s.seq.lanes[l]).station e).driveOffMark = false) (arm : ((s.seq.lanes[l]).station e).arm ≠ .off)
    (waits : overrideWaits ((s.seq.lanes[l]).station e) k) :
    barrierOverride tag [some (.num (l.val + 1)), some (.num (laneEndCode e)), some (.num k)] s
      = reply .done (stationOffers l e (modStation l e (fun x => { x with wantArm := overrideWant k }) s)) := by
  simp only [barrierOverride, laneOf_val, endOf_code, filled]
  rw [if_neg (by rw [mark]; exact fun h => h.elim Bool.noConfusion arm)]
  exact if_pos waits

/-- An override whose command does not wait and is refused for want of room is BUSY, and leaves everything as it was. -/
theorem barrierOverride_busy (filled : filledNode s (.station l e) = some a)
    (mark : ((s.seq.lanes[l]).station e).driveOffMark = false) (arm : ((s.seq.lanes[l]).station e).arm ≠ .off)
    (goes : ¬ overrideWaits ((s.seq.lanes[l]).station e) k)
    (full : (offerArm l e a (overrideCommand k) s).2 = some .queueFull) :
    barrierOverride tag [some (.num (l.val + 1)), some (.num (laneEndCode e)), some (.num k)] s = reply .busy s := by
  simp only [barrierOverride, laneOf_val, endOf_code, filled]
  rw [if_neg (by rw [mark]; exact fun h => h.elim Bool.noConfusion arm)]
  refine (if_neg goes).trans ?_
  rw [show offerArm l e a (if k = 1 then .raise else .lower) s = (_, some .queueFull) from Prod.ext rfl full]

/-- An override whose command does not wait and is taken makes the other offers behind it. -/
theorem barrierOverride_sent {t : State} (filled : filledNode s (.station l e) = some a)
    (mark : ((s.seq.lanes[l]).station e).driveOffMark = false) (arm : ((s.seq.lanes[l]).station e).arm ≠ .off)
    (goes : ¬ overrideWaits ((s.seq.lanes[l]).station e) k) (taken : offerArm l e a (overrideCommand k) s = (t, none)) :
    barrierOverride tag [some (.num (l.val + 1)), some (.num (laneEndCode e)), some (.num k)] s
      = reply .done (stationOffers l e (modStation l e (fun x => { x with wantArm := overrideWant k }) t)) := by
  simp only [barrierOverride, laneOf_val, endOf_code, filled]
  rw [if_neg (by rw [mark]; exact fun h => h.elim Bool.noConfusion arm)]
  refine (if_neg goes).trans ?_
  rw [show offerArm l e a (if k = 1 then .raise else .lower) s = (t, none) from taken]
  rfl

end BarrierOverride

/-- An arm command carries no payload, so room in the queue is all it needs (R63). -/
theorem offerArm_full {l : LaneId} {e : LaneEnd} {a : NodeId} {c : ArmCommand} {s : State}
    (active : (s.bus.nodes[a]).state = .active) (full : Config.commandSlots ≤ s.bus.queue.length) :
    (offerArm l e a c s).2 = some .queueFull := by
  rw [offerArm_refusal, offer_fits (.inl active) (Nat.zero_le _) CommandFrame.noConfusion, if_pos full]

theorem offerArm_taken {l : LaneId} {e : LaneEnd} {a : NodeId} {c : ArmCommand} {s : State}
    (active : (s.bus.nodes[a]).state = .active) (room : s.bus.queue.length < 16) : offerArm l e a c s =
      (modStation l e (fun x => { x with outArm := some c })
        (modBus (fun x => { x with queue := x.queue ++ [offered a (.arm c) (.station l e)] }) s), none) := by
  unfold offerArm
  rw [offer_taken active (Nat.zero_le _) CommandFrame.noConfusion room]
  rfl

/-- A station calls for no arm command behind one outstanding, nor for LOWER while its loop is not CLEAR (R110). -/
theorem Station.armCall_none {x : Station} (h : x.outArm ≠ none ∨ x.wantArm = .down ∧ x.loop ≠ .clear) : x.armCall = none := by
  unfold armCall
  rcases h with outstanding | ⟨down, blocked⟩
  · rw [Option.isSome_iff_ne_none.2 outstanding]
    rfl
  · rw [down]
    split
    · rfl
    · exact if_pos (by simp [blocked])

/-- A station with its drive ON, its signal as wanted and no arm command called for is offered nothing (R110). -/
theorem stationOffers_still {l : LaneId} {e : LaneEnd} {x : Station} {s : State} (station : (s.seq.lanes[l]).station e = x)
    (released : s.yardStop = false) (drive : x.drive = .on) (mark : x.driveOffMark = false)
    (signal : x.signal = some x.wantSignal) (arm : x.armCall = none) : stationOffers l e s = s := by
  subst station
  have still : offerStation l e s = (s, false) := by
    unfold offerStation
    split
    · rfl
    · have noSignal : ∀ a, offerSignal l e a s = s := fun a => if_pos (.inl signal)
      rw [offerDrive_none released drive mark, noSignal]
      unfold offerArmDue
      rw [arm]
  unfold stationOffers
  rw [still]
  rfl

end Sys2Proof.Machine

namespace Sys2Proof.Certificates
open Sys2Proof.Machine

/-- Settles O51: a lane HELD is released or let off to rest; an override offers its command ahead of the station's others. -/
theorem laneReleaseAndOverride : Obligations.LaneReleaseAndOverride := by
  unfold Obligations.LaneReleaseAndOverride
  refine ⟨fun s tag l k _ request => ⟨fun asserted => ?_, fun released held empty sound =>
    ⟨fun resumes hold active => ?_, fun letsOff ungranted => ?_⟩⟩, fun s tag l e k c want action request => ?_⟩
  · exact answers_of_owner rfl request (releaseLane_stopped (s := fresh s) asserted)
  · subst resumes
    obtain ⟨state, hold', wants, -⟩ := resume_releases (s := fresh s) held hold (.inl empty) sound active
    exact ⟨_, answers_of_owner rfl request (releaseLane_resumes (s := fresh s) released held hold), state, hold',
      congrArg (·.1) wants⟩
  · subst letsOff
    have lane := letOffCleared_lane l (fresh s)
    have holds : holdsGrant (letOffCleared l (fresh s)) l = false := by
      unfold holdsGrant at ungranted ⊢
      rw [lane]
      exact ungranted
    have rested := letOff_rests (s := letOffCleared l (fresh s)) ((congrArg Lane.visit lane).trans empty) holds
      ((congrArg Lane.armFaulted lane).trans sound)
    rw [lane, (letOffCleared_frame l (fresh s)).restState] at rested
    exact ⟨_, answers_of_owner rfl request (releaseLane_letsOff (s := fresh s) released held), congrArg Lane.state rested,
      congrArg Lane.hold rested, congrArg Lane.reweigh rested, congrArg Lane.outcome rested⟩
  · obtain ⟨rfl, rfl⟩ : c = overrideCommand k ∧ want = overrideWant k := by
      rcases action with ⟨rfl, rfl, rfl⟩ | ⟨rfl, rfl, rfl⟩ <;> exact ⟨rfl, rfl⟩
    refine ⟨fun refused => ?_, fun a filled mark arm => ?_⟩
    · exact answers_of_owner rfl request (barrierOverride_refused (s := fresh s) refused)
    · intro calm set_
      refine ⟨fun waits => ⟨?_, ?_⟩, fun idle clear active => ?_⟩
      · exact answers_of_owner rfl request
          (barrierOverride_waits (s := fresh s) filled mark arm (overrideWaits_iff.2 waits))
      · rintro ⟨released, drive, signal⟩
        have station : (set_.seq.lanes[l]).station e = { (s.seq.lanes[l]).station e with wantArm := overrideWant k } :=
          modStation_station ..
        exact stationOffers_still station released drive mark signal
          (Station.armCall_none (waits.imp_right (.imp_left (overrideCommand_lower k).1)))
      · have goes : ¬ overrideWaits ((s.seq.lanes[l]).station e) k := by
          rw [overrideWaits_iff]
          rintro (outstanding | ⟨lower, blocked⟩)
          · exact outstanding idle
          · exact clear.elim (fun raise => ArmCommand.noConfusion (raise.symm.trans lower)) blocked
        refine ⟨fun full => ?_, fun room => ?_⟩
        · exact answers_of_owner rfl request
            (barrierOverride_busy (s := fresh s) filled mark arm goes (offerArm_full (s := fresh s) active full))
        · intro sent
          have override := barrierOverride_sent (tag := tag) (s := fresh s) filled mark arm goes
            (offerArm_taken (s := fresh s) active room)
          rw [modStation_modStation] at override
          refine ⟨answers_of_owner rfl request override, ?_⟩
          rintro ⟨released, drive, signal⟩
          have station : (sent.seq.lanes[l]).station e
              = { (s.seq.lanes[l]).station e with outArm := some (overrideCommand k), wantArm := overrideWant k } :=
            modStation_station ..
          exact stationOffers_still station released drive mark signal (Station.armCall_none (.inl (Option.some_ne_none _)))

end Sys2Proof.Certificates

namespace Sys2Proof.Machine

/-! ## A lane that waits for its bridge (R101, R102) -/

theorem mem_joinQueue {l : LaneId} {b : BridgeId} {s : State} (bridge : (s.seq.lanes[l]).bridge = some b) :
    l ∈ ((joinQueue l s).seq.bridges[b]).queue := by
  unfold joinQueue
  rw [bridge]
  simp only [Fin.getElem_fin, modBridge_seq, getElem_alter_self]
  split
  · rename_i queued
    exact List.contains_iff_mem.1 queued
  · exact List.mem_append_right _ (List.mem_singleton_self l)

/-- A lane that enters WAIT_BRIDGE with its arms sound waits in the grant queue. -/
theorem enterPlain_waits {l : LaneId} {c : LaneConfig} {s : State} (config : (s.seq.lanes[l]).config = some c)
    (sound : ArmsSound s l) : ((enterPlain l .waitBridge s).seq.lanes[l]).state = .waitBridge
      ∧ l ∈ ((enterPlain l .waitBridge s).seq.bridges[c.bridge]).queue := by
  have lane := enterPlain_lane (st := .waitBridge) (fun _ => sound) nofun
  have offers := enterPlain_offers (st := .waitBridge) (fun _ => sound) nofun
  have queued : l ∈ ((entryMade l .waitBridge s).seq.bridges[c.bridge]).queue := by
    refine mem_joinQueue ?_
    unfold Lane.bridge
    simp only [Fin.getElem_fin, modLane_seq, getElem_alter_self, withdraw_seq]
    exact congrArg (Option.map (·.bridge)) config
  refine ⟨congrArg Lane.state lane, ?_⟩
  rw [offers.bridges]
  exact queued

/-- Entering WAIT_BRIDGE is followed by the grant test of the lane's bridge (R102). -/
theorem enterState_waitBridge {l : LaneId} {c : LaneConfig} {s : State} (config : (s.seq.lanes[l]).config = some c) :
    enterState l .waitBridge s = grantTest c.bridge (enterPlain l .waitBridge s) := by
  have bridge : ((enterPlain l .waitBridge s).seq.lanes[l]).bridge = some c.bridge := by
    unfold Lane.bridge
    rw [((enterPlain_laneFrame l .waitBridge s).configs l).1, config]
    rfl
  unfold enterState
  dsimp only
  rw [bridge]

/-- A lane that carries a visit into WAIT_BRIDGE keeps it, whatever the grant test and its arms bring, and is work of lanes
alone; with the grant taken and its arms sound it waits. -/
theorem enterState_waits {l : LaneId} {c : LaneConfig} {s : State} (config : (s.seq.lanes[l]).config = some c) :
    LaneFrame s (enterState l .waitBridge s)
      ∧ ((enterState l .waitBridge s).seq.lanes[l]).visit = (s.seq.lanes[l]).visit
      ∧ ((s.seq.bridges[c.bridge]).holder.isSome = true → ArmsSound s l →
          ((enterState l .waitBridge s).seq.lanes[l]).state = .waitBridge
          ∧ l ∈ ((enterState l .waitBridge s).seq.bridges[c.bridge]).queue) := by
  have entry := (EntryFrame.refl (l := l) s).enterPlain (st := .waitBridge)
  rw [enterState_waitBridge config]
  refine ⟨(laneFrame_laneOps s).grantTest (enterPlain_laneFrame l .waitBridge s),
    (grantTest_visit _ _ _).trans entry.visit, fun granted sound => ?_⟩
  rw [grantTest_held (by rw [entry.holder]; exact granted)]
  exact enterPlain_waits config sound

/-! ## Reports of a terminal (R96, R98 to R100, R114) -/

theorem find?_unique {α : Type} {p : α → Bool} {xs : List α} {x : α} (member : x ∈ xs) (holds : p x = true)
    (alone : ∀ y ∈ xs, p y = true → y = x) : xs.find? p = some x := by
  cases found : xs.find? p with
  | none => exact absurd holds (List.find?_eq_none.1 found x member)
  | some y => rw [alone y (List.mem_of_find?_eq_some found) (List.find?_some found)]

/-- An outbound lane takes up a visit (R158). -/
def visitTakenUp (n : Nat) (l : LaneId) (s : State) : State :=
  modVisit n (fun v => { v with state := .leaving, outLane := some l, lane := some l }) s

/-- An outbound lane finds the vehicle's one visit, which is ON_SITE (R158). -/
theorem findForExit_found {id : Text} {l : LaneId} {v : Visit} {s : State} (member : v ∈ s.visits.table)
    (vehicle : v.vehicle = id) (onSite : v.state = .onSite) (alone : ∀ w ∈ s.visits.table, w.vehicle = id → w = v) :
    findForExit id l s = (visitTakenUp v.number l s, some v.number) := by
  have found : s.visits.table.find? (fun v =>
      v.vehicle = id && (v.state == .onSite || (v.state == .leaving && v.lane.isNone))) = some v := by
    refine find?_unique member (by simp [vehicle, onSite]) (fun w listed meets => alone w listed ?_)
    simp only [Bool.and_eq_true, decide_eq_true_eq] at meets
    exact meets.1
  unfold findForExit
  rw [found]
  rfl

theorem mem_visitTakenUp {v : Visit} {l : LaneId} {s : State} (member : v ∈ s.visits.table) :
    { v with state := .leaving, outLane := some l, lane := some l } ∈ (visitTakenUp v.number l s).visits.table :=
  List.mem_map.2 ⟨v, member, if_pos rfl⟩

/-- A lane in IDLE with a visit given to it. -/
def visitGiven (l : LaneId) (n : Nat) (s : State) : State := modLane l (fun x => { x with visit := some n }) s

theorem visitGiven_lane (l : LaneId) (n : Nat) (s : State) :
    (visitGiven l n s).seq.lanes[l] = { s.seq.lanes[l] with visit := some n } := getElem_alter_self ..

theorem identifyReport_closed {l : LaneId} {id : Text} {s : State} (closed : (s.seq.lanes[l]).state = .closed) :
    identifyReport l id s = offerDisplay l .laneClosed s := by
  unfold identifyReport
  rw [closed]

theorem identifyReport_outbound {l : LaneId} {id : Text} {c : LaneConfig} {s : State} (idle : (s.seq.lanes[l]).state = .idle)
    (released : s.yardStop = false) (config : (s.seq.lanes[l]).config = some c) (function : c.function = .outbound) :
    identifyReport l id s = identifyOutbound l id s := by
  unfold identifyReport
  rw [idle, released, config]
  dsimp only
  rw [if_neg Bool.false_ne_true, function]

theorem identifyReport_inbound {l : LaneId} {id : Text} {c : LaneConfig} {s : State} (idle : (s.seq.lanes[l]).state = .idle)
    (released : s.yardStop = false) (config : (s.seq.lanes[l]).config = some c) (function : c.function = .inbound) :
    identifyReport l id s = identifyInbound l id s := by
  unfold identifyReport
  rw [idle, released, config]
  dsimp only
  rw [if_neg Bool.false_ne_true, function]

/-- An outbound lane that finds the visit carries it into WAIT_BRIDGE (R100). -/
theorem identifyOutbound_found {l : LaneId} {id : Text} {v : Visit} {s : State} (member : v ∈ s.visits.table)
    (vehicle : v.vehicle = id) (onSite : v.state = .onSite) (alone : ∀ w ∈ s.visits.table, w.vehicle = id → w = v) :
    identifyOutbound l id s = enterState l .waitBridge (visitGiven l v.number (visitTakenUp v.number l s)) := by
  unfold identifyOutbound
  rw [findForExit_found member vehicle onSite alone]
  rfl

theorem keyReport_zero {l : LaneId} {s : State} (asking : (s.seq.lanes[l]).state = .asking) :
    keyReport l (.number 0) s = offerDisplay l .enterMaterial s := by
  unfold keyReport
  rw [if_neg (not_not.2 asking)]
  rfl

theorem keyReport_cancel {l : LaneId} {s : State} (asking : (s.seq.lanes[l]).state = .asking) :
    keyReport l .cancel s = endAsking l s := by
  unfold keyReport
  rw [if_neg (not_not.2 asking)]

theorem keyReport_discards {l : LaneId} {k : KeyAction} {s : State} (other : (s.seq.lanes[l]).state ≠ .asking) :
    keyReport l k s = s := if_pos other

/-- An ATTENDANT key outside HELD, or under the yard stop, does nothing (R114). -/
theorem attendantReport_discards {l : LaneId} {s : State} (h : (s.seq.lanes[l]).state ≠ .held ∨ s.yardStop = true) :
    attendantReport l s = s := by
  unfold attendantReport
  split
  · rename_i held _
    rw [h.resolve_left (not_not.2 held), if_neg (by simp)]
  · rfl

theorem attendantReport_resumes {l : LaneId} {st : LaneState} {s : State} (held : (s.seq.lanes[l]).state = .held)
    (hold : (s.seq.lanes[l]).hold = some (.printFailed, st)) (released : s.yardStop = false) :
    attendantReport l s = resume l s := by
  unfold attendantReport
  rw [held, hold, released]
  rfl

end Sys2Proof.Machine

namespace Sys2Proof.Certificates
open Sys2Proof.Machine

/-- Settles O29: each report of a terminal is taken by its lane, which acts on it in the state it is in. -/
theorem terminalReports : Obligations.TerminalReports := by
  unfold Obligations.TerminalReports
  refine ⟨fun s a l id report closed => ?_,
    fun s a l id c v report idle released config outbound member vehicle onSite alone => ?_,
    fun s a l report asking => ?_, fun s a l report asking sound => ?_, fun s a l k report other => ?_,
    fun s a l report discards => ?_, fun s a l c report held hold released config sound active => ?_⟩
  · exact takeHead_reportAt (pick := pickIdentify) report rfl (identifyReport_closed (s := reportTaken s) closed)
  · set u := visitGiven l v.number (visitTakenUp v.number l (reportTaken s)) with hu
    have run : exec .identify s = .next (settleReports (enterState l .waitBridge u)) :=
      takeHead_reportAt (pick := pickIdentify) report rfl
        ((identifyReport_outbound (s := reportTaken s) idle released config outbound).trans
          (identifyOutbound_found (s := reportTaken s) member vehicle onSite alone))
    have lane : u.seq.lanes[l] = { s.seq.lanes[l] with visit := some v.number } := visitGiven_lane ..
    obtain ⟨frame, visit, waits⟩ := enterState_waits (s := u) ((congrArg Lane.config lane).trans config)
    rw [lane] at visit
    have taken : { v with state := .leaving, outLane := some l, lane := some l } ∈ (enterState l .waitBridge u).visits.table := by
      rw [frame.visits]
      exact mem_visitTakenUp (s := reportTaken s) member
    have arms : ArmsSound s l → ArmsSound u l := (congrArg Lane.armFaulted lane).trans
    generalize enterState l .waitBridge u = t at run visit waits taken
    exact ⟨_, run, taken, visit, fun granted sound => waits granted (arms sound)⟩
  · exact takeHead_reportAt (pick := pickKey) report rfl (keyReport_zero (s := reportTaken s) asking)
  · have rested := endAsking_rests (s := reportTaken s) sound
    exact ⟨_, takeHead_reportAt (pick := pickKey) report rfl (keyReport_cancel (s := reportTaken s) asking),
      congrArg Lane.asking rested, congrArg Lane.visit rested, congrArg Lane.state rested⟩
  · exact takeHead_reportAt (pick := pickKey) report rfl (keyReport_discards (s := reportTaken s) other)
  · exact takeHead_reportAt (pick := pickAttendant) report rfl (attendantReport_discards (s := reportTaken s) discards)
  · obtain ⟨state, hold', wants, timer⟩ := resume_releases (s := reportTaken s) held hold (.inr (by decide)) sound active
    rw [show ((reportTaken s).seq.lanes[l]).config = some c from config] at timer
    exact ⟨_, takeHead_reportAt (pick := pickAttendant) report rfl
      (attendantReport_resumes (s := reportTaken s) held hold released), state, hold', congrArg (·.1) wants,
      congrArg (·.2) wants, timer⟩

end Sys2Proof.Certificates

namespace Sys2Proof.Machine

/-! ## A visit opened by a lane (R98, R139, R152, R154, R155) -/

theorem mem_insertBy {α : Type} (before : α → α → Bool) (x : α) (xs : List α) : x ∈ insertBy before x xs := by
  induction xs with
  | nil => exact List.mem_singleton_self x
  | cons y ys ih =>
    unfold insertBy
    split
    · exact List.mem_cons_self
    · exact List.mem_cons_of_mem y ih

/-- An account changed in place is found changed (R139). -/
theorem findAccount_modAccount {n : Nat} {f : Account → Account} {x : Account} {s : State}
    (number : ∀ a : Account, (f a).number = a.number) (found : findAccount s n = some x) :
    findAccount (modAccount n f s) n = some (f x) := by
  have listed : x.number = n := by simpa using List.find?_some found
  have same : ((fun a : Account => decide (a.number = n)) ∘ fun a => if a.number = n then f a else a)
      = fun a => decide (a.number = n) := by
    funext a
    simp only [Function.comp_apply]
    split
    · rw [number]
    · rfl
  unfold findAccount at found ⊢
  rw [modAccount, modTables_tables]
  dsimp only
  rw [List.find?_map, same, found, Option.map_some, if_pos listed]

theorem findAccount_of_tables {s t : State} (tables : t.tables = s.tables) (n : Nat) : findAccount t n = findAccount s n := by
  unfold findAccount
  rw [tables]

/-- The next visit number moved on and the account's reserve made (R139, R152). -/
def visitReserved (v : Visit) (s : State) : State :=
  reserve v.account v.reserve (modVisits (fun t => { t with next := nextVisitNumber (assignVisitNumber s) }) s)

/-- A visit written with its reserve made and its four claims taken, before its record (R155). -/
def visitWritten (v : Visit) (s : State) : State :=
  insertVisit v (modPort (fun p => { p with claims := p.claims + 4 }) (visitReserved v s))

/-- The record of a visit opened (R155). -/
def openedBody (n : Nat) (v : Visit) : RecordBody :=
  .visitOpened n v.vehicle v.account v.material v.tare v.reserve v.inLane v.attendance v.opened v.restored

theorem openVisit_eq {build : Nat → Visit} {s : State} (account : (build (assignVisitNumber s)).account ≠ 0)
    (room : 4 ≤ unclaimedFree s) : openVisit build s = spendVisitClaim (assignVisitNumber s)
      (openedBody (assignVisitNumber s) (build (assignVisitNumber s))) (visitWritten (build (assignVisitNumber s)) s) := by
  have granted := takeClaims_granted (k := 4) (s := visitReserved (build (assignVisitNumber s)) s) (decide_eq_true room)
  unfold openVisit
  dsimp only
  rw [if_neg account]
  unfold visitWritten
  rw [← granted]
  rfl

/-- A visit written and the claim of its record counted off, as the record finds it (R156). -/
def visitCounted (v : Visit) (s : State) : State :=
  modVisit (assignVisitNumber s) (fun w => { w with claims := w.claims - 1 }) (visitWritten v s)

theorem visitCounted_claims (v : Visit) (s : State) : (visitCounted v s).port.claims = s.port.claims + 4 := rfl

theorem visitCounted_seq (v : Visit) (s : State) : (visitCounted v s).seq = s.seq := by
  simp only [visitCounted, modVisit, visitWritten, insertVisit, visitReserved, reserve, modAccount, modVisits_seq, modPort_seq,
    modTables_seq]

theorem visitCounted_next (v : Visit) (s : State) : (visitCounted v s).visits.next = nextVisitNumber (assignVisitNumber s) := rfl

theorem mem_visitCounted {v : Visit} {s : State} (number : v.number = assignVisitNumber s) :
    { v with claims := v.claims - 1 } ∈ (visitCounted v s).visits.table :=
  List.mem_map.2 ⟨v, mem_insertBy _ v _, if_pos number⟩

theorem visitCounted_account {v : Visit} {x : Account} {s : State} (found : findAccount s v.account = some x) :
    findAccount (visitCounted v s) v.account
      = some { x with reserved := x.reserved + v.reserve, visits := x.visits + 1 } := by
  rw [findAccount_of_tables (t := visitCounted v s) (s := visitReserved v s) rfl]
  exact findAccount_modAccount (fun _ => rfl) ((findAccount_of_tables rfl _).trans found)

/-- A visit opened for an account: it stands in the table with a claim spent on its record, the reserve is made, the next number
moves on, and no lane is changed. -/
theorem openVisit_spec {build : Nat → Visit} {v : Visit} {x : Account} {s : State} (built : build (assignVisitNumber s) = v)
    (number : v.number = assignVisitNumber s) (account : v.account ≠ 0) (found : findAccount s v.account = some x)
    (room : 4 ≤ unclaimedFree s) : (openVisit build s).seq = s.seq
      ∧ (openVisit build s).visits.next = nextVisitNumber (assignVisitNumber s)
      ∧ { v with claims := v.claims - 1 } ∈ (openVisit build s).visits.table
      ∧ findAccount (openVisit build s) v.account
          = some { x with reserved := x.reserved + v.reserve, visits := x.visits + 1 }
      ∧ (∃ r ∈ (openVisit build s).port.records, r.body = openedBody (assignVisitNumber s) v)
      ∧ (openVisit build s).port.claims = s.port.claims + 3 := by
  have opened : openVisit build s = spendClaim (openedBody (assignVisitNumber s) v) (visitCounted v s) := by
    subst built
    exact openVisit_eq account room
  have claims := visitCounted_claims v s
  have seq := visitCounted_seq v s
  have next := visitCounted_next v s
  have listed := mem_visitCounted number
  have reserved := visitCounted_account found
  rw [opened]
  generalize visitCounted v s = u at claims seq next listed reserved
  obtain ⟨frame, spent, records⟩ := spendClaim_spec (openedBody (assignVisitNumber s) v) u (by omega)
  have visits : (spendClaim (openedBody (assignVisitNumber s) v) u).visits = u.visits := by rw [frame.rest]
  refine ⟨?_, ?_, ?_, ?_, ⟨_, records ▸ List.mem_append_right _ (List.mem_singleton_self _), rfl⟩, by omega⟩
  · rw [frame.rest]
    exact seq
  · rw [visits]
    exact next
  · rw [visits]
    exact listed
  · rw [findAccount_of_tables (s := u) (by rw [frame.rest])]
    exact reserved

/-- The visit a lane opens for a known vehicle (R155). -/
def laneVisit (l : LaneId) (v : Vehicle) (x : Account) (m : Nat) (s : State) (n : Nat) : Visit :=
  freshVisit s n v.id v.account m x.reserve (admissionTare s v) (some l) v.attendance false

/-- A reserve within an account's credit, or for a council, passes its tests (R139). -/
theorem reserveRefused_passes {s : State} {n amount : Nat} {x : Account} (found : findAccount s n = some x)
    (free : x.isHeld = false) (solvent : x.overLimit = false) (credit : x.kind = .council ∨ (amount : Int) ≤ availableCredit x) :
    reserveRefused s n amount = false := by
  unfold reserveRefused
  rw [found]
  dsimp only
  rw [free, solvent]
  rcases credit with council | enough
  · rw [council]
    rfl
  · simp [Int.not_lt.2 enough]

/-- A known vehicle that passes every check of a lane admission is admitted under the number assigned (R154). -/
theorem admitKnown_admits {l : LaneId} {v : Vehicle} {x : Account} {m : Nat} {row : TariffRow} {s : State}
    (noVisit : visitOf s v.id = none) (room : s.visits.table.length < Config.visitSlots) (account : v.account ≠ 0)
    (found : findAccount s v.account = some x) (reserve : reserveRefused s v.account x.reserve = false)
    (material : v.material = some m) (tariff : activeRow s m = some row) (permit : row.restricted = true → v.permit = true)
    (link : v.attendance = true → s.port.up = true) (claims : 4 ≤ unclaimedFree s) :
    admitKnown v l none s = (openVisit (laneVisit l v x m s) s, .admitted (assignVisitNumber s)) := by
  unfold admitKnown
  dsimp only
  rw [noVisit, if_neg (by simp), if_neg (Nat.not_le.2 room), found]
  simp only [Option.map_some, Option.getD_some, reserve]
  rw [if_neg (by simp [account]), material]
  dsimp only [Option.none_or]
  rw [tariff]
  dsimp only
  rw [if_neg (by simpa using permit), if_neg (by simpa using link), if_neg (by simp [canClaim, claims])]
  rfl

/-- A lane in IDLE whose admission opens a visit carries it into WAIT_BRIDGE (R98). -/
theorem identifyInbound_admits {l : LaneId} {id : Text} {v : Vehicle} {x : Account} {m : Nat} {s : State}
    (unopened : waitingVisit s id = none) (known : findVehicle s id = some v) (admits : admitKnown v l none s
      = (openVisit (laneVisit l v x m s) s, .admitted (assignVisitNumber s))) :
    identifyInbound l id s
      = enterState l .waitBridge (visitGiven l (assignVisitNumber s) (openVisit (laneVisit l v x m s) s)) := by
  unfold identifyInbound askAdmission
  rw [unopened, known]
  dsimp only
  rw [admits]
  rfl

end Sys2Proof.Machine

namespace Sys2Proof.Certificates
open Sys2Proof.Machine

/-- Settles O30: the admission opens the visit, and the lane that carries it changes neither it nor what it was opened with. -/
theorem inboundAdmissionOpensAVisit : Obligations.InboundAdmissionOpensAVisit := by
  unfold Obligations.InboundAdmissionOpensAVisit
  intro s a l id c v x m row report idle released config inbound unopened known noVisit room account found free solvent credit
    material tariff permit link claims
  obtain ⟨-, rfl⟩ := findVehicle_some known
  have admits := admitKnown_admits (l := l) (s := reportTaken s) noVisit room account found
    (reserveRefused_passes (s := reportTaken s) found free solvent credit) material tariff permit link claims
  have run : exec .identify s = .next (settleReports (enterState l .waitBridge
      (visitGiven l (assignVisitNumber s) (openVisit (laneVisit l v x m (reportTaken s)) (reportTaken s))))) :=
    takeHead_reportAt (pick := pickIdentify) report rfl
      ((identifyReport_inbound (s := reportTaken s) idle released config inbound).trans
        (identifyInbound_admits (s := reportTaken s) unopened known admits))
  obtain ⟨seq, next, listed, reserved, ⟨r, queued, body⟩, spent⟩ :=
    openVisit_spec (s := reportTaken s) (build := laneVisit l v x m (reportTaken s)) rfl rfl account found claims
  generalize openVisit (laneVisit l v x m (reportTaken s)) (reportTaken s) = u at run seq next listed reserved queued spent
  have lane : (visitGiven l (assignVisitNumber s) u).seq.lanes[l]
      = { s.seq.lanes[l] with visit := some (assignVisitNumber s) } := by
    rw [visitGiven_lane, seq]
    rfl
  obtain ⟨frame, visit, -⟩ := enterState_waits (s := visitGiven l (assignVisitNumber s) u)
    ((congrArg Lane.config lane).trans config)
  rw [lane] at visit
  have visits := frame.visits
  have tables := frame.tables
  have owed := frame.claims
  have records := frame.records
  generalize enterState l .waitBridge (visitGiven l (assignVisitNumber s) u) = t at run visit visits tables owed records
  rw [← show t.visits = u.visits from visits] at next listed
  exact ⟨_, run, visit, next, ⟨_, listed, rfl, rfl, rfl, rfl, rfl, rfl, rfl, rfl, rfl, rfl, rfl, rfl, rfl⟩,
    (findAccount_of_tables tables _).trans reserved, ⟨r, records r queued, body⟩, owed.trans spent⟩

end Sys2Proof.Certificates

namespace Sys2Proof.Machine

/-! ## What a step that writes no table leaves of the tables (R130, R135, R144, R151, section 8.1) -/

/-- The vehicles, the number of accounts and the rows of both banks stand, and the visits and the tickets of a printer are
within their places where they were. -/
def TablesKept (s t : State) : Prop :=
  t.tables.vehicles = s.tables.vehicles ∧ t.tables.accounts.length = s.tables.accounts.length
    ∧ (∀ b : BankId, (t.tables.banks[b]).rows = (s.tables.banks[b]).rows)
    ∧ (s.visits.table.length ≤ Config.visitSlots → t.visits.table.length ≤ Config.visitSlots)
    ∧ (∀ l : LaneId, (s.tickets.printers[l]).queue.length ≤ Config.ticketSlots →
      (t.tickets.printers[l]).queue.length ≤ Config.ticketSlots)

namespace TablesKept
variable {s t u : State}

theorem refl (s : State) : TablesKept s s := ⟨rfl, rfl, fun _ => rfl, id, fun _ => id⟩

theorem trans (h : TablesKept s t) (k : TablesKept t u) : TablesKept s u := by
  obtain ⟨vehicles, accounts, rows, visits, queues⟩ := h
  obtain ⟨vehicles', accounts', rows', visits', queues'⟩ := k
  exact ⟨vehicles'.trans vehicles, accounts'.trans accounts, fun b => (rows' b).trans (rows b), visits' ∘ visits,
    fun l => queues' l ∘ queues l⟩

/-- Work that leaves the tables, the visits and the printers as they are. -/
theorem same (ht : t.tables = s.tables) (hv : t.visits = s.visits) (hp : t.tickets.printers = s.tickets.printers) :
    TablesKept s t := by
  unfold TablesKept
  rw [ht, hv, hp]
  exact refl s

theorem recorded (h : RecordFrame s t) : TablesKept s t :=
  same (by rw [h.rest]) (by rw [h.rest]) (by rw [h.rest])

theorem offered (h : OfferFrame s t) : TablesKept s t :=
  ⟨congrArg Tables.vehicles h.tables, congrArg (List.length ∘ Tables.accounts) h.tables, fun _ => by rw [h.tables],
    fun hv => by rw [h.visits]; exact hv, fun l hl =>
      (congrArg (fun p : Printer => p.queue.length) (h.printers l)).trans_le hl⟩

/-- A bank whose rows are left. -/
theorem bank {b : BankId} {f : Bank → Bank} (hf : ∀ x, (f x).rows = x.rows) :
    TablesKept s (modTables (fun t => { t with banks := alter t.banks b f }) s) := by
  refine ⟨rfl, rfl, fun c => ?_, id, fun _ => id⟩
  simp only [modTables_tables, Fin.getElem_fin, getElem_alter]
  split
  · exact hf _
  · rfl

/-- A printer whose queue does not outgrow its places. -/
theorem printer {l : LaneId} {f : Printer → Printer}
    (hf : (s.tickets.printers[l]).queue.length ≤ Config.ticketSlots →
      (f s.tickets.printers[l]).queue.length ≤ Config.ticketSlots) : TablesKept s (modPrinter l f s) := by
  refine ⟨rfl, rfl, fun _ => rfl, id, fun k hk => ?_⟩
  simp only [modPrinter_tickets, Fin.getElem_fin, getElem_alter] at hk ⊢
  split
  · rename_i same
    subst same
    exact hf hk
  · exact hk

theorem visits (hv : s.visits.table.length ≤ Config.visitSlots → t.visits.table.length ≤ Config.visitSlots)
    (ht : t.tables = s.tables) (hp : t.tickets = s.tickets) : TablesKept s t := by
  obtain ⟨vehicles, accounts, rows, -, queues⟩ := refl s
  unfold TablesKept
  rw [ht, hp]
  exact ⟨vehicles, accounts, rows, hv, queues⟩

theorem account {n : Nat} {f : Account → Account} : TablesKept s (modAccount n f s) :=
  ⟨rfl, List.length_map _, fun _ => rfl, id, fun _ => id⟩

end TablesKept

theorem length_insertBy {α : Type} (before : α → α → Bool) (x : α) (xs : List α) :
    (insertBy before x xs).length = xs.length + 1 := by
  induction xs with
  | nil => rfl
  | cons y ys ih =>
    unfold insertBy
    split
    · rfl
    · exact congrArg Nat.succ ih

/-- The work of lanes, visits, tickets, the plan and the bridge samples writes no table. -/
theorem tablesKept_sampleOps (s : State) : SampleOps (TablesKept s) where
  capture _ h := h
  lane _ h := h
  station h := h
  bridge h := h
  offer _ h := h.trans (.offered (offer_frame _ _ _ _))
  record h := h.trans (.recorded (queueRecord_spec _ _).1)
  account h := h.trans .account
  refBank h := h.trans (.bank fun _ => rfl)
  unrefBank h := h.trans (.bank fun _ => rfl)
  visit _ h := h.trans (.visits (fun hv => (List.length_map _).trans_le hv) rfl rfl)
  removeVisit h := h.trans (.visits (fun hv => (List.length_filter_le _ _).trans hv) rfl rfl)
  nextVisit h := h
  visitOpens room h := h.trans (.visits (fun _ => (length_insertBy _ _ _).trans_le room) rfl rfl)
  takeClaims h := h.trans (.recorded (takeClaims_frame _ _))
  releaseClaims h := h
  spendClaim h := h.trans (.recorded (spendClaim_frame _ _))
  printer shorter h := h.trans (.printer fun hl => (shorter _).trans hl)
  ticketJoins room h := h.trans (.printer fun _ => by simpa using room)
  tickets printers h := h.trans (.same rfl rfl (printers _))
  ticketWrite {k s} h := by
    rcases askWriteBehindReset_cases (.ticket k) s with ⟨-, -, hq⟩ | ⟨-, hq⟩ <;> rw [hq] <;> exact h
  status h := h
  judge {b s} h := by
    obtain ⟨r, hr⟩ := judge_eq b s
    rw [hr]
    exact h
  samples _ h := h
  planNode h := h
  role h := h
  ready h := h.trans (.offered (makeReady_frame _ _))
  passLeaves _ h := h
  node h := h
  queue _ h := h
  reports _ h := h
  reportJoins _ h := h
  scan h := h
  enumeration h := h
  sendBus h := h
  engine h := h
  session h := h

end Sys2Proof.Machine

namespace Sys2Proof.Machine

/-! ### Writes of the store and the port -/

namespace TablesKept
variable {s u : State}

theorem askWrite (h : TablesKept s u) (w : StoreWrite) : TablesKept s (askWrite w u) := by
  by_cases idle : u.cal.store.inFlight = none
  · rw [askWrite_idle _ idle]
    exact h
  · rw [askWrite_busy _ idle]
    exact h

theorem writeEnds (h : TablesKept s u) : TablesKept s (writeEnds u) := by
  obtain ⟨w, asked, -, he⟩ := writeEnds_eq u
  rw [he]
  exact h

theorem makeReady (h : TablesKept s u) (f : OutFrame) : TablesKept s (makeReady f u) :=
  (tablesKept_sampleOps s).ready h

theorem answer (h : TablesKept s u) (tag : Byte) (r : Result) (body : Bytes) : TablesKept s (answer tag r body u) :=
  (tablesKept_sampleOps s).answer h

theorem linkUp (h : TablesKept s u) : TablesKept s (linkUp u) := by
  unfold Machine.linkUp
  dsimp only
  split_ifs
  · exact h
  · exact h
  · exact makeReady (u := modPort _ u) h _

theorem receiveFrame (h : TablesKept s u) (f : OfficeFrame) : TablesKept s (receiveFrame f u) := by
  unfold Machine.receiveFrame bufferFrame
  split_ifs
  · exact h.linkUp
  · exact h.linkUp.answer _ _ _
  · exact h

theorem sendNext (h : TablesKept s u) : TablesKept s (sendNext u) := by
  unfold Machine.sendNext
  split <;> exact h

theorem liveExpiry (h : TablesKept s u) : TablesKept s (liveExpiry u) := by
  unfold Machine.liveExpiry
  split
  · exact h
  · dsimp only
    split
    · exact h
    · exact makeReady (u := modPort _ u) h _

theorem takeUnknown (h : TablesKept s u) : TablesKept s (takeUnknown u) := by
  unfold Machine.takeUnknown
  split
  · exact h
  · split
    · exact h
    · exact h.answer _ _ _

/-- After a request the tables are as its owner left them, or as they were. -/
theorem takeRequest_owned {code layout owner} (s : State) : ∃ u, TablesKept u (Machine.takeRequest code layout owner s)
    ∧ (u = s ∨ ∃ tag vs, u = (owner tag vs s).1) := by
  unfold Machine.takeRequest
  split
  · exact ⟨s, .refl s, .inl rfl⟩
  · split
    · exact ⟨s, .refl s, .inl rfl⟩
    · split
      · exact ⟨s, (refl s).answer _ _ _, .inl rfl⟩
      · rename_i r _ _ _ _ vs _
        refine ⟨(owner r.tag vs s).1, ?_, .inr ⟨_, _, rfl⟩⟩
        split <;> rename_i replied <;> rw [replied]
        · exact (refl _).answer _ _ _
        · exact .refl _

/-- A request whose owner leaves the tables leaves them. -/
theorem takeRequest {code layout owner} (ho : ∀ tag vs, TablesKept u (owner tag vs u).1) (h : TablesKept s u) :
    TablesKept s (takeRequest code layout owner u) := by
  obtain ⟨v, kept, rfl | ⟨tag, vs, rfl⟩⟩ := takeRequest_owned (code := code) (layout := layout) (owner := owner) u
  · exact h.trans kept
  · exact (h.trans (ho tag vs)).trans kept

/-! ### Sessions and writes completed -/

theorem lineAbort (h : TablesKept s u) : TablesKept s (lineAbort u) := by
  have ops := tablesKept_sampleOps s
  unfold Machine.lineAbort
  split
  · exact h
  · rename_i x _
    split
    · exact h
    · have ended : TablesKept s (endStep .locked u) := ops.endStep h
      refine ops.deriveBridge (ops.judge ?_)
      split
      · exact ended.answer _ _ _
      · exact ended

theorem trackExpiry (h : TablesKept s u) (b : BridgeId) : TablesKept s (trackExpiry b u) := by
  unfold Machine.trackExpiry
  dsimp only
  split
  · split_ifs
    · exact h
    · exact h
    · exact h
    · exact (tablesKept_sampleOps s).record (s := modEngine b _ _) h
    · exact h
  · exact h

theorem recordWritten (h : TablesKept s u) : TablesKept s (recordWritten u) := by
  unfold Machine.recordWritten
  split
  · exact (tablesKept_sampleOps s).deriveBridge (s := modStore _ u) h
  · exact h

theorem counterWritten (h : TablesKept s u) : TablesKept s (counterWritten u) := by
  have ops := tablesKept_sampleOps s
  unfold Machine.counterWritten
  split
  · refine LaneOps.foldl (fun _ _ hu => ops.deriveBridge hu) _ (LaneOps.foldl (fun _ _ hu => ops.judge hu) _ ?_)
    have spent : ∀ st body, TablesKept s (spendClaim body (Machine.writeEnds (modStore st u))) :=
      fun st body => ops.spendClaim (writeEnds (u := modStore st u) h)
    split
    · exact (spent _ _).answer _ _ _
    · exact spent _ _
  · exact h

theorem ticketNumbered (h : TablesKept s u) : TablesKept s (ticketNumbered u) := by
  have ops := tablesKept_sampleOps s
  unfold Machine.ticketNumbered
  split
  · exact ops.startHead (ops.startNumbering (ops.modOriginal (ops.tickets (fun _ => rfl) (writeEnds (u := modStore _ u) h))))
  · exact h

theorem numberSet (h : TablesKept s u) : TablesKept s (numberSet u) := by
  unfold Machine.numberSet
  split
  · exact (tablesKept_sampleOps s).startNumbering ((writeEnds (u := modStore _ u) h).answer _ _ _)
  · exact h

/-! ### Warm resets -/

theorem stopAtReset (h : TablesKept s u) : TablesKept s (stopAtReset u) := by
  unfold Machine.stopAtReset
  split
  · exact (tablesKept_sampleOps s).assertStop h
  · exact h

theorem deriveAtReset (h : TablesKept s u) : TablesKept s (deriveAtReset u) :=
  LaneOps.foldl (fun _ _ hu => (tablesKept_sampleOps s).status hu) _
    (LaneOps.foldl (fun _ _ hu => (tablesKept_sampleOps s).judge hu) _ h)

/-- The printers' queues are emptied, and what waits is handed over again where there is room (R179, R192). -/
theorem resetTickets (h : TablesKept s u) : TablesKept s (resetTickets u) := by
  refine (tablesKept_sampleOps s).resetTickets (h.trans ⟨rfl, rfl, fun _ => rfl, id, fun l _ => ?_⟩)
  simp

theorem abortAtReset (h : TablesKept s u) : TablesKept s (abortAtReset u) := by
  unfold Machine.abortAtReset
  split <;> exact h

theorem warmReset (h : TablesKept s u) (kind : ResetKind) : TablesKept s (warmReset kind u) := by
  have ops := tablesKept_sampleOps s
  unfold Machine.warmReset warmValues
  extract_lets v kept w
  have set : TablesKept s w := h.abortAtReset
  exact ops.cycleOps.startCycle (stopAtReset (resetTickets (ops.record set.deriveAtReset)))

theorem askReset (h : TablesKept s u) (kind : ResetKind) : TablesKept s (askReset kind u) := by
  unfold Machine.askReset
  split_ifs
  · exact h
  · exact h
  · exact h.warmReset kind

theorem settleWrite (h : TablesKept s u) : TablesKept s (settleWrite u) := by
  unfold Machine.settleWrite
  split
  · exact h.warmReset _
  · exact h

theorem onWrite {kind f} (hf : ∀ v, TablesKept s v → TablesKept s (f v)) (h : TablesKept s u) :
    TablesKept s (onWrite kind f u) := by
  unfold Machine.onWrite
  split
  · exact (hf u h).settleWrite
  · exact h

theorem frameGone (h : TablesKept s u) : TablesKept s (frameGone u) := by
  unfold Machine.frameGone
  split
  · exact h
  · dsimp only
    split
    · exact (askReset (u := modPort _ u) h _).sendNext
    · exact sendNext (u := modPort _ u) h

theorem silenceExpiry (h : TablesKept s u) : TablesKept s (silenceExpiry u) := by
  unfold Machine.silenceExpiry linkDown
  split
  · dsimp only
    split
    · exact askReset (u := modPort _ u) h _
    · exact h
  · exact h

theorem setYardStop (h : TablesKept s u) (level : Bool) : TablesKept s (setYardStop level u) := by
  have ops := tablesKept_sampleOps s
  have set : TablesKept s { u with yardStop := level } := h
  unfold Machine.setYardStop
  dsimp only
  split_ifs
  · exact set
  · exact ops.assertStop set
  · exact ops.deassertStop set

theorem setCalEnable (h : TablesKept s u) (level : Bool) : TablesKept s (setCalEnable level u) := by
  have set : TablesKept s { u with calEnable := level } := h
  unfold Machine.setCalEnable
  dsimp only
  split
  · exact set.lineAbort
  · exact set

/-! ### The clock and the tariff switch -/

/-- A change of the clock, the switch time or the active bank. -/
theorem clock {f : Tables → Tables} (h : TablesKept s u)
    (hf : ∀ t, (f t).vehicles = t.vehicles ∧ (f t).accounts = t.accounts ∧ (f t).banks = t.banks) :
    TablesKept s (modTables f u) := by
  obtain ⟨vehicles, accounts, banks⟩ := hf u.tables
  refine h.trans ⟨vehicles, congrArg List.length accounts, fun b => ?_, id, fun _ => id⟩
  rw [modTables_tables, banks]

theorem switchTest (h : TablesKept s u) : TablesKept s (switchTest u) := by
  unfold Machine.switchTest
  split
  · split
    · exact (tablesKept_sampleOps s).record (h.clock fun _ => ⟨rfl, rfl, rfl⟩)
    · exact h
  · exact h

theorem tickSecond (h : TablesKept s u) : TablesKept s (tickSecond u) := by
  unfold Machine.tickSecond
  split
  · exact h.clock fun _ => ⟨rfl, rfl, rfl⟩
  · refine (h.clock ?_).switchTest
    exact fun _ => ⟨rfl, rfl, rfl⟩

end TablesKept
end Sys2Proof.Machine

namespace Sys2Proof.Machine

/-! ### Owners of requests that write no table -/

/-- The owner of a request leaves the tables. -/
def KeepsTables (owner : Byte → List (Option Value) → State → Reply) : Prop :=
  ∀ tag vs s, TablesKept s (owner tag vs s).1

theorem keepsTables_reader {owner} (ho : owner ∈ readers) : KeepsTables owner := fun tag vs s => by
  rw [readers_state ho tag vs s]
  exact .refl s

/-- The owners that set what other blocks hold and do no work beyond. -/
def setters : List (Byte → List (Option Value) → State → Reply) :=
  [zeroBridge, setBridgeParameters, calZero, calSpan, calCorner, calTrim, setScanPeriod, readBus, setSilenceTimeout,
    releaseRecords, subscribeLive, readStatus, setTicketHeader]

theorem keepsTables_setter {owner} (ho : owner ∈ setters) : KeepsTables owner := by
  intro tag vs s
  simp only [setters, List.mem_cons, List.not_mem_nil, or_false] at ho
  rcases ho with rfl | rfl | rfl | rfl | rfl | rfl | rfl | rfl | rfl | rfl | rfl | rfl | rfl
  all_goals
    simp only [zeroBridge, setBridgeParameters, calZero, calSpan, calCorner, calTrim, takeStep, setScanPeriod, readBus,
      setSilenceTimeout, releaseRecords, subscribeLive, readStatus, setTicketHeader, replyWith_fst]
    repeat' split
  all_goals exact .refl s

theorem keepsTables_setTareTolerance : KeepsTables setTareTolerance := by
  intro tag vs s
  unfold setTareTolerance
  split
  · split
    · exact .refl s
    · exact .visits id rfl rfl
  · exact .refl s

/-! #### Calibration -/

theorem keepsTables_calBegin : KeepsTables calBegin := by
  intro tag vs s
  have kept := TablesKept.refl s
  have ops := tablesKept_sampleOps s
  unfold calBegin
  split
  · exact kept
  · split
    · extract_lets count
      clear_value count
      split
      · exact kept
      · rename_i b _
        rcases beginCopy (s.cal.store.records[b]) count with _ | work
        · split_ifs <;> exact kept
        · split_ifs
          · exact kept
          · exact kept
          · exact kept
          · exact kept
          · exact kept
          · exact ops.deriveBridge (s := modCal _ _) (ops.takeClaims kept)
    · exact kept

theorem keepsTables_calSetLimits : KeepsTables calSetLimits := by
  intro tag vs s
  have kept := TablesKept.refl s
  have ops := tablesKept_sampleOps s
  unfold calSetLimits
  split
  · exact kept
  · split
    · split
      · exact kept
      · split
        · exact kept
        · split
          · exact kept
          · exact ops.deriveBridge (ops.engine (ops.session kept))
    · exact kept

theorem keepsTables_calCommit : KeepsTables calCommit := by
  intro tag vs s
  have kept := TablesKept.refl s
  unfold calCommit
  split
  · exact kept
  · split
    · split
      · exact kept
      · split
        · exact kept
        · split_ifs
          · exact kept
          · exact kept
          · exact ((tablesKept_sampleOps s).session kept).askWrite _
    · exact kept

theorem keepsTables_calAbort : KeepsTables calAbort := by
  intro tag vs s
  have kept := TablesKept.refl s
  have ops := tablesKept_sampleOps s
  unfold calAbort
  split
  · exact kept
  · split
    · split
      · exact kept
      · split
        · exact kept
        · split
          · exact kept
          · have ended : TablesKept s (endStep .state s) := ops.endStep kept
            exact ops.deriveBridge (ops.judge ended)
    · exact kept

/-! #### The bridges, the bus and the plan -/

theorem keepsTables_setBridgeService : KeepsTables setBridgeService := by
  intro tag vs s
  have kept := TablesKept.refl s
  have ops := tablesKept_sampleOps s
  unfold setBridgeService
  split
  · split
    · exact kept
    · split
      · split
        · exact kept
        · exact ops.deriveBridge (ops.engine kept)
      · exact ops.deriveBridge (ops.engine kept)
  · exact kept

theorem keepsTables_enumerate : KeepsTables enumerate := fun _ _ s =>
  (tablesKept_sampleOps s).startRound ((tablesKept_sampleOps s).enumeration (.refl s))

theorem keepsTables_resetNode : KeepsTables resetNode := by
  intro tag vs s
  have kept := TablesKept.refl s
  unfold resetNode
  split
  · rename_i level
    split
    · exact kept
    · rename_i a _
      split_ifs
      · exact kept
      · exact kept
      · have offered := TablesKept.offered (offer_frame a (.nodeReset level) .office s)
        split <;> rename_i answered <;> rw [answered] at offered <;> exact offered
  · exact kept

theorem keepsTables_releaseNode : KeepsTables releaseNode := by
  intro tag vs s
  have kept := TablesKept.refl s
  have ops := tablesKept_sampleOps s
  unfold releaseNode
  split
  · split
    · exact kept
    · split
      · exact kept
      · exact ops.endHoldOff (ops.reportChange (ops.node kept))
  · exact kept

theorem keepsTables_putPlanEntry : KeepsTables putPlanEntry := by
  intro tag vs s
  have kept := TablesKept.refl s
  have written : ∀ e, TablesKept s { s with plan := { s.plan with entries := e } } := fun _ => kept
  unfold putPlanEntry
  split
  · split
    · exact kept
    · dsimp only
      split_ifs
      any_goals exact kept
      · exact (tablesKept_sampleOps s).rebind (written _)
  · exact kept

theorem keepsTables_dropPlanEntry : KeepsTables dropPlanEntry := by
  intro tag vs s
  have kept := TablesKept.refl s
  have written : ∀ e, TablesKept s { s with plan := { s.plan with entries := e } } := fun _ => kept
  unfold dropPlanEntry
  split
  · split
    · exact kept
    · split
      · exact kept
      · split
        · exact kept
        · dsimp only [reply]
          split
          · exact (tablesKept_sampleOps s).deriveBinding (written _)
          · exact written _
  · exact kept

theorem keepsTables_sendToNode : KeepsTables sendToNode := by
  intro tag vs s
  have kept := TablesKept.refl s
  unfold sendToNode
  split
  · split
    · exact kept
    · split
      · exact kept
      · split
        · exact kept
        · exact kept
        · exact kept
        · rename_i role message _ _ _ _ a x _ _
          dsimp only
          have offered := TablesKept.offered (offer_frame a (.message message)
            (.pass { tag := tag, role := role, node := a, serial := some x }) s)
          split
          · rename_i answered
            rw [answered] at offered
            exact offered
          · exact kept
          · exact kept
          · exact kept
  · exact kept

/-! #### Lanes -/

/-- A lane's settings changed leave the tables. -/
theorem TablesKept.lane {s u : State} (h : TablesKept s u) (l : LaneId) (f : Lane → Lane) : TablesKept s (modLane l f u) := h

theorem keepsTables_putLane : KeepsTables putLane := by
  intro tag vs s
  have kept := TablesKept.refl s
  unfold putLane
  split
  · split
    · split
      · exact kept
      · extract_lets release c inRanges t
        have set : TablesKept s t := kept
        clear_value t
        rw [reply_fst]
        split
        · exact (tablesKept_sampleOps s).enterPlain set
        · exact set
    · exact kept
  · exact kept

theorem keepsTables_openLane : KeepsTables openLane := by
  intro tag vs s
  have kept := TablesKept.refl s
  unfold openLane
  split
  · split
    · exact kept
    · split
      · exact kept
      · dsimp only [reply]
        split
        · exact (tablesKept_sampleOps s).enterPlain (kept.lane _ _)
        · exact kept.lane _ _
  · exact kept

theorem keepsTables_closeLane : KeepsTables closeLane := by
  intro tag vs s
  have kept := TablesKept.refl s
  unfold closeLane
  split
  · split
    · exact kept
    · dsimp only [reply]
      split
      · exact (tablesKept_sampleOps s).enterPlain (kept.lane _ _)
      · exact (tablesKept_sampleOps s).enterPlain ((kept.lane _ _).lane _ _)
      · exact kept.lane _ _
  · exact kept

theorem keepsTables_holdRequest : KeepsTables holdRequest := by
  intro tag vs s
  have kept := TablesKept.refl s
  unfold holdRequest
  split
  · split
    · exact kept
    · dsimp only
      split
      · exact (tablesKept_sampleOps s).holdLane kept
      · exact kept
  · exact kept

theorem keepsTables_releaseLane : KeepsTables releaseLane := by
  intro tag vs s
  have kept := TablesKept.refl s
  have ops := tablesKept_sampleOps s
  unfold releaseLane
  split
  · split
    · exact kept
    · split_ifs
      · exact kept
      · exact kept
      · exact ops.resume kept
      · exact ops.letOff (kept.lane _ _)
  · exact kept

theorem keepsTables_barrierOverride : KeepsTables barrierOverride := by
  intro tag vs s
  have kept := TablesKept.refl s
  have ops := tablesKept_sampleOps s
  unfold barrierOverride
  split
  · split
    · exact kept
    · rename_i action _ l _
      extract_lets e x want settle
      have settled : ∀ {u}, TablesKept s u → TablesKept s (settle u) := fun hu => ops.stationOffers (ops.station hu)
      clear_value settle want
      split
      · exact kept
      · rename_i a _
        split
        · exact kept
        · split
          · exact settled kept
          · have offered := ops.offerArm (l := l) (e := e) (a := a) (c := if action = 1 then .raise else .lower) kept
            split <;> rename_i answered
            · rw [answered] at offered
              exact settled offered
            · exact kept
            · exact kept
  · exact kept

/-! #### Clock, balance, visits and tickets -/

theorem keepsTables_setClock : KeepsTables setClock := by
  intro tag vs s
  unfold setClock
  split
  · refine ((TablesKept.refl s).clock ?_).switchTest
    exact fun _ => ⟨rfl, rfl, rfl⟩
  · exact .refl s

theorem keepsTables_setTariffSwitch : KeepsTables setTariffSwitch := by
  intro tag vs s
  unfold setTariffSwitch
  split
  · refine ((TablesKept.refl s).clock ?_).switchTest
    exact fun _ => ⟨rfl, rfl, rfl⟩
  · exact (TablesKept.refl s).clock fun _ => ⟨rfl, rfl, rfl⟩

theorem keepsTables_setBalance : KeepsTables setBalance := by
  intro tag vs s
  have kept := TablesKept.refl s
  unfold setBalance
  split
  · split
    · exact kept
    · split
      · exact kept
      · split
        · exact kept
        · exact (tablesKept_sampleOps s).evaluateOverLimit .account
  · exact kept

theorem keepsTables_openWalkIn : KeepsTables openWalkIn := by
  intro tag vs s
  have kept := TablesKept.refl s
  unfold openWalkIn
  split
  · split
    · exact kept
    · split
      · exact kept
      · split
        · exact kept
        · split
          · exact kept
          · rename_i room
            split
            · exact kept
            · split_ifs
              · exact kept
              · exact kept
              · rw [replyWith_fst]
                exact (tablesKept_sampleOps s).openVisit (by omega) kept
  · exact kept

theorem voidByOffice_tablesKept (v : Visit) (s : State) : TablesKept s (voidByOffice v s) := by
  have ops := tablesKept_sampleOps s
  unfold voidByOffice
  dsimp only
  split
  · exact ops.voidTold (ops.voidVisit (.refl s))
  · exact ops.voidVisit (.refl s)

theorem keepsTables_voidRequest : KeepsTables voidRequest := by
  intro tag vs s
  have kept := TablesKept.refl s
  unfold voidRequest
  split
  · split
    · exact kept
    · split
      · exact kept
      · split_ifs
        · exact kept
        · exact kept
        · exact voidByOffice_tablesKept _ s
  · exact kept

theorem TablesKept.tellResolution {s u : State} (h : TablesKept s u) (v : Visit) (r : Resolution) :
    TablesKept s (tellResolution v r u) := by
  unfold Machine.tellResolution
  split
  · exact (tablesKept_sampleOps s).resolveLane h
  · exact h

theorem refixBank_tablesKept (v : Visit) (s : State) : TablesKept s (refixBank v s) := by
  have ops := tablesKept_sampleOps s
  unfold refixBank
  refine ops.visit (fun _ => rfl) (ops.refBank ?_)
  split
  · exact ops.unrefBank (.refl s)
  · exact .refl s

theorem TablesKept.acceptHeld {s t u : State} (n : Nat) (hu : TablesKept s u) (ht : TablesKept s t) :
    TablesKept s (acceptHeld n u t).1 := by
  have ops := tablesKept_sampleOps s
  unfold Machine.acceptHeld
  split
  · exact ht
  · split
    · exact (ops.acceptFirst ht).tellResolution _ _
    · split
      · split
        · exact hu
        · exact (ops.complete ht).tellResolution _ _
      · exact ht
    · exact ht

theorem resolveTare_tablesKept (v : Visit) (k : Nat) (s : State) : TablesKept s (resolveTare v k s).1 := by
  unfold resolveTare
  split
  · split
    · exact .refl s
    · exact ((tablesKept_sampleOps s).complete (.refl s)).tellResolution _ _
  · exact .refl s

theorem keepsTables_resolveVisit : KeepsTables resolveVisit := by
  intro tag vs s
  have kept := TablesKept.refl s
  unfold resolveVisit
  split
  · split
    · exact kept
    · split
      · exact kept
      · split
        · exact kept
        · split
          · exact kept
          · split
            · exact kept
            · split
              · unfold resolveAccept
                split
                · exact kept.acceptHeld _ (refixBank_tablesKept _ s)
                · exact kept.acceptHeld _ kept
              · exact resolveTare_tablesKept _ _ s
              · refine TablesKept.tellResolution ((tablesKept_sampleOps s).visit ?_ kept) _ _
                exact fun _ => rfl
              · exact voidByOffice_tablesKept _ s
  · exact kept

theorem restoreInto_tablesKept {s : State} (v : Visit) (room : s.visits.table.length < Config.visitSlots) :
    TablesKept s (restoreInto v s) := by
  have ops := tablesKept_sampleOps s
  unfold restoreInto
  extract_lets s1 s2 s3 s4
  have reserved : TablesKept s s1 ∧ s1.visits = s.visits := by
    unfold s1
    split
    · exact ⟨.refl s, rfl⟩
    · exact ⟨ops.reserve (.refl s), rfl⟩
  have banked : TablesKept s s2 ∧ s2.visits = s.visits := by
    unfold s2
    split
    · exact ⟨ops.refBank reserved.1, reserved.2⟩
    · exact reserved
  have claimed : (Machine.takeClaims 4 s2).visits = s.visits := by
    rw [(takeClaims_frame 4 s2).rest]
    exact banked.2
  have written : TablesKept s s3 := ops.visitOpens (claimed ▸ room) (ops.takeClaims banked.1)
  split
  · exact ops.spendVisitClaim written
  · exact ops.releaseClaims (ops.visit (fun _ => rfl) (ops.spendVisitClaim written))

theorem keepsTables_restoreVisit : KeepsTables restoreVisit := by
  intro tag vs s
  have kept := TablesKept.refl s
  unfold restoreVisit
  split
  · dsimp only
    split
    · split_ifs
      any_goals exact kept
      exact restoreInto_tablesKept _ (by omega)
    · exact kept
  · exact kept

theorem keepsTables_setTicketNumber : KeepsTables setTicketNumber := by
  intro tag vs s
  unfold setTicketNumber
  split
  · split_ifs
    · exact .refl s
    · exact .refl s
    · exact .refl s
    · exact (TablesKept.refl s).askWrite _
  · exact .refl s

theorem keepsTables_reprintTicket : KeepsTables reprintTicket := by
  intro tag vs s
  have kept := TablesKept.refl s
  have ops := tablesKept_sampleOps s
  unfold reprintTicket
  split
  · split
    · exact kept
    · split
      · exact kept
      · split
        · exact kept
        · split_ifs
          · exact kept
          · exact kept
          · exact ops.startHead (ops.ticketJoins (by omega) kept)
  · exact kept

theorem keepsTables_restart : KeepsTables restart := by
  intro tag vs s
  have set : TablesKept s (modPort (fun p => { p with restarting := true }) s) := .refl s
  unfold restart
  dsimp only
  split
  · exact set.makeReady _
  · exact set.askReset _

end Sys2Proof.Machine

namespace Sys2Proof.Machine

/-! ### Every command but a cold reset and the writers of the tables -/

/-- The commands that write what the tables hold: the power-on and the six requests of the table unit. -/
def tableWriters : List Instr :=
  [.coldReset, .putVehicle, .dropVehicle, .putAccount, .dropAccount, .putTariffRow, .dropTariffRow]

namespace TablesKept
variable {s t u : State}

/-- A picked report's owner leaves the tables. -/
theorem picked {pick : Report → Option (NodeId → Attach → State → State)}
    (hp : pick ∈ [pickBeam, pickStation, pickIdentify, pickKey, pickAttendant, pickHelp, pickDone, pickPaperOut, pickJam])
    (r : Report) (act) (a : NodeId) (x : Attach) (u : State) (hr : pick r = some act) (hu : TablesKept s u) :
    TablesKept s (act a x u) := by
  have ops := tablesKept_sampleOps s
  simp only [List.mem_cons, List.not_mem_nil, or_false] at hp
  rcases hp with rfl | rfl | rfl | rfl | rfl | rfl | rfl | rfl | rfl
  all_goals
    cases r <;> cases hr
    cases x <;> try exact hu
  · exact ops.beamReport hu
  · exact ops.stationReport hu
  · exact ops.identifyReport hu
  · exact ops.keyReport hu
  · exact ops.attendantReport hu
  · exact ops.record hu
  · exact ops.doneReport hu
  · exact ops.printerTrouble hu
  · exact ops.printerTrouble hu

theorem completes (hu : TablesKept s u) (he : (Host.Outcome.next u : Host.Outcome State Fault Refusal) = .next t) :
    TablesKept s t := Host.Outcome.next.inj he ▸ hu

theorem fresh (s : State) : TablesKept s (fresh s) := .refl s

theorem act {f : State → State} (hf : ∀ u, TablesKept s u → TablesKept s (f u)) (he : act f s = .next t) :
    TablesKept s t := by
  unfold Machine.act at he
  split at he <;> cases he
  · exact hf _ (.refl s)
  · exact .refl s

theorem request {code layout owner} (ho : KeepsTables owner)
    (he : Machine.act (Machine.takeRequest code layout owner) s = .next t) : TablesKept s t :=
  act (fun u hu => hu.takeRequest fun tag vs => ho tag vs u) he

theorem report {pick} (hp : pick ∈ [pickBeam, pickStation, pickIdentify, pickKey, pickAttendant, pickHelp, pickDone,
    pickPaperOut, pickJam]) (he : Machine.act (Machine.takeHead pick) s = .next t) : TablesKept s t :=
  act (fun _ hu => (tablesKept_sampleOps s).takeHead (picked hp) hu) he

/-- A command that is neither a cold reset nor a writer of the tables leaves what the tables hold. -/
theorem exec {c : Instr} (hc : c ∉ tableWriters) (he : exec c s = .next t) : TablesKept s t := by
  have ops := tablesKept_sampleOps s
  have cycle := ops.cycleOps
  cases c
  case coldReset | putVehicle | dropVehicle | putAccount | dropAccount | putTariffRow | dropTariffRow =>
    exact absurd (by simp [tableWriters]) hc
  case warmReset => exact act (fun _ hu => hu.askReset _) he
  case calEnableAssert | calEnableDeassert => exact completes ((fresh s).setCalEnable _) he
  case yardStopAssert | yardStopDeassert => exact completes ((fresh s).setYardStop _) he
  case powerLoss => exact completes (u := losePower (Machine.fresh s)) (fresh s) he
  case scanCycleStart => exact act (fun _ hu => cycle.cycleDue hu) he
  case sample | present | ack | nakRefused | reply | report | descriptor =>
    exact act (fun _ hu => cycle.answerArrives hu) he
  case noResponse => exact act (fun _ hu => cycle.noAnswer hu) he
  case responseError => exact act (fun _ hu => cycle.errorArrives hu) he
  case attentionWindow => exact act (fun _ hu => cycle.windowRead hu) he
  case enumerationSlot => exact act (fun _ hu => cycle.slotRead hu) he
  case beam | station | identify | key | attendant | help | done | paperOut | jam => exact report (by simp) he
  case zeroTrackingExpiry => exact act (fun _ hu => hu.trackExpiry _) he
  case level1Expiry => exact act (fun _ hu => ops.level1Expiry hu) he
  case level2Expiry => exact act (fun _ hu => ops.level2Expiry hu) he
  case holdOffExpiry =>
    refine act (fun u hu => ?_) he
    unfold holdOffEnds
    split
    · exact ops.endHoldOff hu
    · exact hu
  case attentionRetryExpiry => exact act (fun _ hu => ops.attentionRetry hu) he
  case calStepTimeout => exact act (fun _ hu => ops.endStep hu) he
  case intrusionEmptyExpiry => exact act (fun _ hu => ops.pauseExpiry hu) he
  case entryTimerExpiry => exact act (fun _ hu => ops.entryExpiry hu) he
  case askTimerExpiry => exact act (fun _ hu => ops.askExpiry hu) he
  case stabilityTimerExpiry => exact act (fun _ hu => ops.stabilityExpiry hu) he
  case clearanceTimerExpiry => exact act (fun _ hu => ops.clearanceExpiry hu) he
  case motionTimerExpiry => exact act (fun _ hu => ops.motionExpiry hu) he
  case stationRetryExpiry => exact act (fun _ hu => ops.stationRetryExpiry hu) he
  case driveRetryExpiry => exact act (fun _ hu => ops.driveRetryExpiry hu) he
  case printTimerExpiry => exact act (fun _ hu => ops.printTimeout hu) he
  case printRetryExpiry => exact act (fun _ hu => ops.printRetry hu) he
  case silenceTimerExpiry => exact act (fun _ hu => hu.silenceExpiry) he
  case liveIntervalExpiry => exact act (fun _ hu => hu.liveExpiry) he
  case frameGapTimeout | frameDiscard => exact act (fun _ hu => hu) he
  case secondsTick => exact act (fun _ hu => hu.tickSecond) he
  case commitRecordWriteDone => exact act (fun _ hu => hu.onWrite fun _ hv => hv.recordWritten) he
  case commitCounterWriteDone => exact act (fun _ hu => hu.onWrite fun _ hv => hv.counterWritten) he
  case ticketNumberWriteDone => exact act (fun _ hu => hu.onWrite fun _ hv => hv.ticketNumbered) he
  case setTicketNumberWriteDone => exact act (fun _ hu => hu.onWrite fun _ hv => hv.numberSet) he
  case officeFrame => exact act (fun _ hu => hu.receiveFrame _) he
  case frameSent => exact act (fun _ hu => hu.frameGone) he
  case unknownRequest => exact act (fun _ hu => hu.takeUnknown) he
  case zeroBridge | setBridgeParameters | calZero | calSpan | calCorner | calTrim | setScanPeriod | readBus
    | setSilenceTimeout | releaseRecords | subscribeLive | readStatus | setTicketHeader =>
    exact request (keepsTables_setter (by simp [setters])) he
  case readBridge | readCalibration | readNode | readPlanEntry | readLane | readVehicle | readVehicleNext | readAccount
    | readAccountNext | readTariffRow | readTariffRowNext | readTables | readVisit | readVisitByVehicle | readVisitNext
    | readTickets | readRecords =>
    exact request (keepsTables_reader (by simp [readers])) he
  case setBridgeService => exact request keepsTables_setBridgeService he
  case calBegin => exact request keepsTables_calBegin he
  case calSetLimits => exact request keepsTables_calSetLimits he
  case calCommit => exact request keepsTables_calCommit he
  case calAbort => exact request keepsTables_calAbort he
  case enumerate => exact request keepsTables_enumerate he
  case resetNode => exact request keepsTables_resetNode he
  case releaseNode => exact request keepsTables_releaseNode he
  case putPlanEntry => exact request keepsTables_putPlanEntry he
  case dropPlanEntry => exact request keepsTables_dropPlanEntry he
  case putLane => exact request keepsTables_putLane he
  case openLane => exact request keepsTables_openLane he
  case closeLane => exact request keepsTables_closeLane he
  case holdLane => exact request keepsTables_holdRequest he
  case releaseLane => exact request keepsTables_releaseLane he
  case barrierOverride => exact request keepsTables_barrierOverride he
  case setClock => exact request keepsTables_setClock he
  case setBalance => exact request keepsTables_setBalance he
  case setTariffSwitch => exact request keepsTables_setTariffSwitch he
  case openVisit => exact request keepsTables_openWalkIn he
  case voidVisit => exact request keepsTables_voidRequest he
  case resolveVisit => exact request keepsTables_resolveVisit he
  case restoreVisit => exact request keepsTables_restoreVisit he
  case setTareTolerance => exact request keepsTables_setTareTolerance he
  case setTicketNumber => exact request keepsTables_setTicketNumber he
  case reprintTicket => exact request keepsTables_reprintTicket he
  case sendToNode => exact request keepsTables_sendToNode he
  case restart => exact request keepsTables_restart he

theorem idle (s : State) : TablesKept s (idle s) := by
  unfold Machine.idle
  split
  · refine ⟨rfl, rfl, fun _ => rfl, id, fun l hl => ?_⟩
    simpa [idleTick, Printer.tick] using hl
  · exact .refl s

end TablesKept

/-! ### The writers of the tables -/

theorem TableLaw.of_kept {s t : State} (h : TableLaw s) (k : TablesKept s t) : TableLaw t := by
  obtain ⟨vehicles, accounts, rows, visits, queues⟩ := h
  obtain ⟨vehicles', accounts', rows', visits', queues'⟩ := k
  exact ⟨vehicles' ▸ vehicles, accounts' ▸ accounts, fun b => rows' b ▸ rows b, visits' visits,
    fun l => queues' l (queues l)⟩

end Sys2Proof.Machine

namespace Sys2Proof.Machine

/-! ### Entries placed by their key (R132, R146) -/

section Placed
variable {α κ : Type} [DecidableEq κ] (key : α → κ) (before : α → α → Bool) (x : α) (xs : List α)

/-- A table with an entry written: the one with its key is replaced whole, or the entry takes its place in order. -/
def placed : List α :=
  if xs.any (fun y => key y = key x) then xs.map (fun y => if key y = key x then x else y) else insertBy before x xs

theorem writeVehicle_place (v : Vehicle) (vs : List Vehicle) :
    writeVehicle.place v vs = placed Vehicle.id (fun a b => idBefore a.id b.id) v vs := rfl

theorem writeRow_place (r : TariffRow) (rows : List TariffRow) :
    writeRow.place r rows = placed TariffRow.material (fun y z => y.material < z.material) r rows := rfl

variable {key x xs}

/-- A placement keeps to the size, a new key finding room. -/
theorem length_placed_le {n : Nat} (fits : xs.length ≤ n)
    (room : xs.find? (fun y => key y = key x) = none → xs.length < n) : (placed key before x xs).length ≤ n := by
  unfold placed
  split
  · simpa using fits
  · rename_i new
    rw [length_insertBy]
    exact room (List.find?_eq_none.2 fun y hy same => new (List.any_eq_true.2 ⟨y, hy, same⟩))

end Placed

theorem TableLaw.putVehicle {s : State} (h : TableLaw s) (tag : Byte) (vs : List (Option Value)) :
    TableLaw (putVehicle tag vs s).1 := by
  unfold Machine.putVehicle
  split
  · split_ifs with range full
    · exact h
    · exact h
    · obtain ⟨vehicles, rest⟩ := h
      refine ⟨length_placed_le (key := Vehicle.id) _ vehicles fun absent => ?_, rest⟩
      exact Nat.not_le.1 fun many => full ⟨Option.isNone_iff_eq_none.2 absent, many⟩
  · exact h

theorem TableLaw.dropVehicle {s : State} (h : TableLaw s) (tag : Byte) (vs : List (Option Value)) :
    TableLaw (dropVehicle tag vs s).1 := by
  unfold Machine.dropVehicle
  split
  · split_ifs
    · exact h
    · obtain ⟨vehicles, rest⟩ := h
      exact ⟨(List.length_filter_le _ _).trans vehicles, rest⟩
  · exact h

theorem TableLaw.putAccount {s : State} (h : TableLaw s) (tag : Byte) (vs : List (Option Value)) :
    TableLaw (putAccount tag vs s).1 := by
  unfold Machine.putAccount
  split
  · dsimp only
    split_ifs with range full
    · exact h
    · exact h
    · refine TableLaw.of_kept ?_ ((tablesKept_sampleOps _).evaluateOverLimit (.refl _))
      unfold writeAccount
      split
      · exact h.of_kept .account
      · rename_i absent
        obtain ⟨vehicles, accounts, rest⟩ := h
        refine ⟨vehicles, (length_insertBy _ _ _).trans_le ?_, rest⟩
        exact Nat.not_le.1 fun many => full ⟨by simpa using absent, many⟩
  · exact h

theorem TableLaw.dropAccount {s : State} (h : TableLaw s) (tag : Byte) (vs : List (Option Value)) :
    TableLaw (dropAccount tag vs s).1 := by
  unfold Machine.dropAccount
  split
  · split
    · exact h
    · split
      · exact h
      · split
        · exact h
        · obtain ⟨vehicles, accounts, rest⟩ := h
          exact ⟨vehicles, (List.length_filter_le _ _).trans accounts, rest⟩
  · exact h

/-- A bank written within its size. -/
theorem TableLaw.bank {s : State} (h : TableLaw s) {b : BankId} {f : Bank → Bank}
    (hf : (f s.tables.banks[b]).rows.length ≤ Config.tariffRows) :
    TableLaw (modTables (fun t => { t with banks := alter t.banks b f }) s) := by
  obtain ⟨vehicles, accounts, rows, rest⟩ := h
  refine ⟨vehicles, accounts, fun c => ?_, rest⟩
  simp only [modTables_tables, Fin.getElem_fin, getElem_alter]
  split
  · rename_i same
    exact same ▸ hf
  · exact rows c

theorem TableLaw.putTariffRow {s : State} (h : TableLaw s) (tag : Byte) (vs : List (Option Value)) :
    TableLaw (putTariffRow tag vs s).1 := by
  unfold Machine.putTariffRow
  split
  · split
    · exact h
    · rename_i b _
      split
      · exact h
      · split
        · exact h
        · split
          · exact h
          · split
            · exact h
            · rename_i full
              have ⟨_, _, rows, _⟩ := h
              refine h.bank (length_placed_le (key := TariffRow.material) _ (rows b) fun absent => ?_)
              exact Nat.not_le.1 fun many => full ⟨Option.isNone_iff_eq_none.2 absent, many⟩
  · exact h

theorem TableLaw.dropTariffRow {s : State} (h : TableLaw s) (tag : Byte) (vs : List (Option Value)) :
    TableLaw (dropTariffRow tag vs s).1 := by
  unfold Machine.dropTariffRow
  split
  · split
    · exact h
    · rename_i b _
      split_ifs
      · exact h
      · exact h
      · exact h
      · have ⟨_, _, rows, _⟩ := h
        exact h.bank ((List.length_filter_le _ _).trans (rows b))
  · exact h

/-- A request whose owner keeps the sizes keeps them. -/
theorem TableLaw.request {code layout owner} {s t : State} (h : TableLaw s)
    (ho : ∀ {u}, TableLaw u → ∀ tag vs, TableLaw (owner tag vs u).1)
    (he : act (takeRequest code layout owner) s = .next t) : TableLaw t := by
  unfold act at he
  split at he <;> cases he
  · obtain ⟨u, kept, same | ⟨tag, vs, owned⟩⟩ := TablesKept.takeRequest_owned (code := code) (layout := layout)
      (owner := owner) (fresh s)
    · exact TableLaw.of_kept (same ▸ h) kept
    · exact TableLaw.of_kept (owned ▸ ho (u := fresh s) h tag vs) kept
  · exact h

/-- A cold reset empties the tables, and what follows in its row opens no visit and takes no ticket. -/
theorem coldReset_tableLaw (s : State) : TableLaw (coldReset s) := by
  unfold coldReset coldValues
  extract_lets store v
  have empty : TableLaw v := by
    refine ⟨Nat.zero_le _, Nat.zero_le _, fun b => ?_, Nat.zero_le _, fun l => ?_⟩
    · simp [v, Tables.cold]
    · simp [v, Tickets.cold, Printer.cold]
  have ops := tablesKept_sampleOps v
  exact empty.of_kept (ops.cycleOps.startCycle (TablesKept.stopAtReset (ops.record (TablesKept.refl v).deriveAtReset)))

/-- Every command keeps the sizes of the tables. -/
theorem TableLaw.exec {c : Instr} {s t : State} (h : TableLaw s) (he : exec c s = .next t) : TableLaw t := by
  by_cases writer : c ∈ tableWriters
  · simp only [tableWriters, List.mem_cons, List.not_mem_nil, or_false] at writer
    rcases writer with rfl | rfl | rfl | rfl | rfl | rfl | rfl
    · exact Host.Outcome.next.inj he ▸ coldReset_tableLaw s
    · exact h.request (fun hu => hu.putVehicle) he
    · exact h.request (fun hu => hu.dropVehicle) he
    · exact h.request (fun hu => hu.putAccount) he
    · exact h.request (fun hu => hu.dropAccount) he
    · exact h.request (fun hu => hu.putTariffRow) he
    · exact h.request (fun hu => hu.dropTariffRow) he
  · exact h.of_kept (.exec writer he)

/-! ### The rows of a locked bank (R145, R146, R147) -/

/-- The rows of a bank stand. -/
def RowsStand (b : BankId) (s t : State) : Prop := (t.tables.banks[b]).rows = (s.tables.banks[b]).rows

theorem TablesKept.rowsStand {s t : State} (h : TablesKept s t) (b : BankId) : RowsStand b s t := by
  obtain ⟨-, -, rows, -⟩ := h
  exact rows b

theorem putVehicle_rowsStand (b : BankId) (tag : Byte) (vs : List (Option Value)) (s : State) :
    RowsStand b s (putVehicle tag vs s).1 := by
  unfold putVehicle
  split
  · split_ifs <;> rfl
  · rfl

theorem dropVehicle_rowsStand (b : BankId) (tag : Byte) (vs : List (Option Value)) (s : State) :
    RowsStand b s (dropVehicle tag vs s).1 := by
  unfold dropVehicle
  split
  · split_ifs <;> rfl
  · rfl

theorem putAccount_rowsStand (b : BankId) (tag : Byte) (vs : List (Option Value)) (s : State) :
    RowsStand b s (putAccount tag vs s).1 := by
  unfold putAccount
  split
  · dsimp only
    split_ifs
    · rfl
    · rfl
    · refine (TablesKept.rowsStand ((tablesKept_sampleOps _).evaluateOverLimit (.refl _)) b).trans ?_
      unfold writeAccount
      split <;> rfl
  · rfl

theorem dropAccount_rowsStand (b : BankId) (tag : Byte) (vs : List (Option Value)) (s : State) :
    RowsStand b s (dropAccount tag vs s).1 := by
  unfold dropAccount
  split
  · split
    · rfl
    · split
      · rfl
      · split <;> rfl
  · rfl

theorem rowsStand_otherBank {b c : BankId} (hne : c ≠ b) (f : Bank → Bank) (s : State) :
    RowsStand b s (modTables (fun t => { t with banks := alter t.banks c f }) s) := by
  unfold RowsStand
  simp [hne]

/-- PUT TARIFF ROW is answered LOCKED for a locked bank and writes no other than its own. -/
theorem putTariffRow_rowsStand {b : BankId} {s : State} (locked : bankLocked s b = true) (tag : Byte)
    (vs : List (Option Value)) : RowsStand b s (putTariffRow tag vs s).1 := by
  unfold putTariffRow
  split
  · split
    · rfl
    · rename_i c _
      split
      · rfl
      · split
        · rfl
        · split
          · rfl
          · split
            · rfl
            · rename_i refused _
              refine rowsStand_otherBank ?_ _ s
              rintro rfl
              exact refused locked
  · rfl

/-- DROP TARIFF ROW is answered LOCKED for a locked bank and writes no other than its own. -/
theorem dropTariffRow_rowsStand {b : BankId} {s : State} (locked : bankLocked s b = true) (tag : Byte)
    (vs : List (Option Value)) : RowsStand b s (dropTariffRow tag vs s).1 := by
  unfold dropTariffRow
  split
  · split
    · rfl
    · rename_i c _
      split_ifs with code refused absent
      · rfl
      · rfl
      · rfl
      · refine rowsStand_otherBank ?_ _ s
        rintro rfl
        exact refused locked
  · rfl

theorem RowsStand.request {code layout owner} {b : BankId} {s t : State}
    (ho : ∀ tag vs, RowsStand b s (owner tag vs (fresh s)).1)
    (he : act (takeRequest code layout owner) s = .next t) : RowsStand b s t := by
  unfold act at he
  split at he <;> cases he
  · obtain ⟨u, kept, same | ⟨tag, vs, owned⟩⟩ := TablesKept.takeRequest_owned (code := code) (layout := layout)
      (owner := owner) (fresh s)
    · subst same
      exact kept.rowsStand b
    · subst owned
      exact (kept.rowsStand b).trans (ho tag vs)
  · rfl

/-- Every command but a cold reset leaves the rows of a locked bank. -/
theorem exec_rowsStand {c : Instr} {b : BankId} {s t : State} (locked : bankLocked s b = true) (hc : c ≠ .coldReset)
    (he : exec c s = .next t) : RowsStand b s t := by
  by_cases writer : c ∈ tableWriters
  · simp only [tableWriters, List.mem_cons, List.not_mem_nil, or_false] at writer
    rcases writer with rfl | rfl | rfl | rfl | rfl | rfl | rfl
    · exact absurd rfl hc
    · exact .request (owner := putVehicle) (fun tag vs => putVehicle_rowsStand b tag vs (fresh s)) he
    · exact .request (owner := dropVehicle) (fun tag vs => dropVehicle_rowsStand b tag vs (fresh s)) he
    · exact .request (owner := putAccount) (fun tag vs => putAccount_rowsStand b tag vs (fresh s)) he
    · exact .request (owner := dropAccount) (fun tag vs => dropAccount_rowsStand b tag vs (fresh s)) he
    · exact .request (owner := putTariffRow) (fun tag vs => putTariffRow_rowsStand (s := fresh s) locked tag vs) he
    · exact .request (owner := dropTariffRow) (fun tag vs => dropTariffRow_rowsStand (s := fresh s) locked tag vs) he
  · exact (TablesKept.exec writer he).rowsStand b

theorem bankLocked_iff {s : State} {b : BankId} :
    bankLocked s b = true ↔ s.tables.active = b ∨ 0 < (s.tables.banks[b]).refs := by
  simp [bankLocked]

end Sys2Proof.Machine

namespace Sys2Proof.Certificates
open Sys2Proof.Machine

/-- Settles O6: the writers of the tables test for room, and every other command leaves what the tables hold or tests it. -/
theorem tableLawKept : Obligations.TableLawKept := by
  unfold Obligations.TableLawKept
  intro s t law he
  unfold step at he
  split at he
  · rename_i c rest _
    have law : TableLaw { s with pending := rest } := law
    exact law.exec he
  · cases he
    exact law.of_kept (.idle s)

/-- Settles O9: the two requests that write rows are LOCKED for such a bank, and no other command writes any. -/
theorem lockedBankRowsStand : Obligations.LockedBankRowsStand := by
  unfold Obligations.LockedBankRowsStand
  intro s t b locked front he
  unfold step at he
  split at he
  · rename_i c rest waiting
    refine exec_rowsStand (s := { s with pending := rest }) (bankLocked_iff.2 locked) (fun same => front ?_) he
    rw [waiting, same]
    rfl
  · cases he
    exact (TablesKept.idle s).rowsStand b

end Sys2Proof.Certificates

namespace Sys2Proof.Machine

/-! ### Lookups by a key in a table written (R132, R133, R136, R137, R146, R147) -/

section Lookup
variable {α κ : Type} [DecidableEq κ] {key : α → κ} {before : α → α → Bool} {x : α} {xs : List α} {k : κ}

theorem find?_insertBy_other {p : α → Bool} (hx : p x = false) : (insertBy before x xs).find? p = xs.find? p := by
  induction xs with
  | nil => simp [insertBy, hx]
  | cons y ys ih =>
    unfold insertBy
    split
    · rw [List.find?_cons, hx]
    · rw [List.find?_cons, List.find?_cons, ih]

theorem find?_insertBy_new {p : α → Bool} (hx : p x = true) (new : xs.find? p = none) :
    (insertBy before x xs).find? p = some x := by
  induction xs with
  | nil => simp [insertBy, hx]
  | cons y ys ih =>
    obtain ⟨hy, rest⟩ : p y = false ∧ ys.find? p = none := by
      rw [List.find?_cons] at new
      split at new
      · cases new
      · rename_i hy
        exact ⟨hy, new⟩
    unfold insertBy
    split
    · rw [List.find?_cons, hx]
    · rw [List.find?_cons, hy, ih rest]

/-- A change of the entries of one key that leaves the key. -/
theorem find?_mapKey {f : α → α} {n : κ} (hf : ∀ y, key y = n → key (f y) = n) :
    (xs.map fun y => if key y = n then f y else y).find? (fun y => key y = k)
      = (xs.find? fun y => key y = k).map fun y => if key y = n then f y else y := by
  have same : ((fun y => decide (key y = k)) ∘ fun y => if key y = n then f y else y) = fun y => decide (key y = k) := by
    funext y
    simp only [Function.comp_apply]
    split
    · rename_i hy
      rw [hf y hy, hy]
    · rfl
  rw [List.find?_map, same]

theorem find?_mapKey_other {f : α → α} {n : κ} (hf : ∀ y, key y = n → key (f y) = n) (hk : k ≠ n) :
    (xs.map fun y => if key y = n then f y else y).find? (fun y => key y = k) = xs.find? fun y => key y = k := by
  rw [find?_mapKey hf]
  rcases hfound : xs.find? (fun y => decide (key y = k)) with _ | y
  · rfl
  · have hy : key y = k := by simpa using List.find?_some hfound
    rw [Option.map_some, if_neg (hy ▸ hk)]

/-- The entry placed is the one found under its key. -/
theorem find?_placed_self : (placed key before x xs).find? (fun y => key y = key x) = some x := by
  unfold placed
  split
  · rename_i held
    rw [find?_mapKey fun _ _ => rfl]
    rcases hfound : xs.find? (fun y => decide (key y = key x)) with _ | y
    · obtain ⟨y, hy, same⟩ := List.any_eq_true.1 held
      exact absurd same (List.find?_eq_none.1 hfound y hy)
    · have hy : key y = key x := by simpa using List.find?_some hfound
      rw [Option.map_some, if_pos hy]
  · rename_i new
    exact find?_insertBy_new (decide_eq_true rfl)
      (List.find?_eq_none.2 fun y hy same => new (List.any_eq_true.2 ⟨y, hy, same⟩))

/-- A placement leaves what is found under every other key. -/
theorem find?_placed_other (hk : k ≠ key x) :
    (placed key before x xs).find? (fun y => key y = k) = xs.find? fun y => key y = k := by
  unfold placed
  split
  · exact find?_mapKey_other (fun _ _ => rfl) hk
  · exact find?_insertBy_other (decide_eq_false fun same => hk same.symm)

theorem find?_dropKey_self : (xs.filter fun y => key y ≠ k).find? (fun y => key y = k) = none :=
  List.find?_eq_none.2 fun y hy same => by simp_all

theorem find?_dropKey_other {n : κ} (hk : k ≠ n) :
    (xs.filter fun y => key y ≠ n).find? (fun y => key y = k) = xs.find? fun y => key y = k := by
  rw [List.find?_filter]
  congr 1
  funext y
  by_cases hy : key y = k
  · simp [hy, hk]
  · simp [hy]

/-- What stands in a table after an insertion is the entry or stood there. -/
theorem eq_or_mem_of_mem_insertBy {z : α} (hz : z ∈ insertBy before x xs) : z = x ∨ z ∈ xs := by
  induction xs with
  | nil => exact .inl (List.mem_singleton.1 hz)
  | cons y ys ih =>
    unfold insertBy at hz
    split at hz
    · exact List.mem_cons.1 hz
    · rcases List.mem_cons.1 hz with rfl | hz
      · exact .inr List.mem_cons_self
      · exact (ih hz).imp_right (List.mem_cons_of_mem y)

/-- An entry whose key is new takes a place that leaves the keys rising. -/
theorem pairwise_insertBy {m : α → Nat} (rising : xs.Pairwise fun y z => m y < m z) (new : ∀ y ∈ xs, m y ≠ m x) :
    (insertBy (fun y z => m y < m z) x xs).Pairwise fun y z => m y < m z := by
  induction xs with
  | nil => exact List.pairwise_singleton _ _
  | cons y ys ih =>
    obtain ⟨least, rest⟩ := List.pairwise_cons.1 rising
    unfold insertBy
    split
    · rename_i below
      have below : m x < m y := by simpa using below
      refine List.pairwise_cons.2 ⟨fun z hz => ?_, rising⟩
      rcases List.mem_cons.1 hz with rfl | hz
      · exact below
      · exact below.trans (least z hz)
    · rename_i above
      have above : m y < m x := by
        have differ := new y List.mem_cons_self
        have above : ¬ m x < m y := by simpa using above
        omega
      refine List.pairwise_cons.2 ⟨fun z hz => ?_, ih rest fun z hz => new z (List.mem_cons_of_mem y hz)⟩
      rcases eq_or_mem_of_mem_insertBy hz with rfl | hz
      · exact above
      · exact least z hz

/-- A placement leaves the keys rising. -/
theorem pairwise_placed {m : α → Nat} (rising : xs.Pairwise fun y z => m y < m z) :
    (placed m (fun y z => m y < m z) x xs).Pairwise fun y z => m y < m z := by
  unfold placed
  split
  · have keys : ∀ y, m (if m y = m x then x else y) = m y := fun y => by
      split
      · rename_i same
        exact same.symm
      · rfl
    rw [List.pairwise_map]
    simpa only [keys] using rising
  · rename_i new
    exact pairwise_insertBy rising fun y hy same => new (List.any_eq_true.2 ⟨y, hy, decide_eq_true same⟩)

end Lookup

end Sys2Proof.Machine

namespace Sys2Proof.Machine

/-! ## Requests of the table unit (R130 to R138, R142, R146, R147) -/

@[simp] theorem asInt_map (i : Option Int) : asInt (i.map .int) = i := by cases i <;> rfl

theorem bankOf_none {n : Nat} (h : 1 < n) : bankOf n = none := by
  simp [bankOf]
  omega

/-- A key that is held, or a table with room, is not the case that FULL answers. -/
theorem not_full {α : Type} {found : Option α} {k n : Nat} (room : found ≠ none ∨ k < n) :
    ¬ (found.isNone = true ∧ n ≤ k) :=
  fun ⟨new, many⟩ => room.elim (fun held => held (Option.isNone_iff_eq_none.1 new)) (Nat.not_lt.2 many)

/-! ### Tariff rows (R146, R147) -/

/-- A field that is not encoded as its layout states fails the body, whatever the others hold (R197). -/
theorem readFields_none {fs : List Field} {cut : List (Option Bytes)} {i : Nat} {f : Field} {b : Bytes}
    (hf : fs[i]? = some f) (hb : cut[i]? = some (some b)) (bad : readValue f.type b = none) : readFields fs cut = none := by
  induction fs generalizing cut i with
  | nil => simp at hf
  | cons g gs ih =>
    rcases cut with _ | ⟨x, xs⟩
    · simp at hb
    · cases i with
      | zero =>
        obtain rfl : g = f := by simpa using hf
        obtain rfl : x = some b := by simpa using hb
        simp only [readFields, bad]
      | succ i =>
        have rest : readFields gs xs = none := ih (by simpa using hf) (by simpa using hb)
        rcases x with _ | y
        · simp [readFields, rest]
        · rw [readFields, rest]
          cases readValue g.type y <;> rfl

/-- A code that is none of the first two is not encoded as its field states (R214). -/
theorem readValue_code_two {k : Byte} (h1 : k ≠ 1) (h2 : k ≠ 2) : readValue (.code 2) [k] = none := by
  have n1 : k.toNat ≠ 1 := fun h => h1 (BitVec.eq_of_toNat_eq h)
  have n2 : k.toNat ≠ 2 := fun h => h2 (BitVec.eq_of_toNat_eq h)
  have code : beNat [k] = k.toNat := by simp [beNat]
  simp only [readValue, code]
  rw [if_neg (by omega)]

/-- The row that PUT TARIFF ROW writes. -/
def givenRow (m kind gate levy : Nat) (minimum : Int) (restricted : Bool) : TariffRow :=
  { material := m, kind := if kind = 1 then .delivery else .collection, gate := gate, levy := levy,
    minimum := minimum.toNat, restricted := restricted }

/-- The codes and amounts of a row lie within R144's ranges. -/
def RowInRange (m gate levy : Nat) (minimum : Int) : Prop :=
  1 ≤ m ∧ m ≤ 255 ∧ gate ≤ 99999 ∧ levy ≤ 99999 ∧ 0 ≤ minimum ∧ minimum ≤ 999999

section PutTariffRow
variable (tag : Byte) {bank m kind gate levy : Nat} {minimum : Int} {restricted : Bool} {b : BankId} {s : State}

/-- The values of PUT TARIFF ROW's fields. -/
def rowValues (bank m kind gate levy : Nat) (minimum : Int) (restricted : Bool) : List (Option Value) :=
  [some (.num bank), some (.num m), some (.num kind), some (.num gate), some (.num levy), some (.int minimum),
    some (.flag restricted)]

theorem putTariffRow_range (bad : 1 < bank ∨ ¬ RowInRange m gate levy minimum) :
    putTariffRow tag (rowValues bank m kind gate levy minimum restricted) s = reply .range s := by
  simp only [putTariffRow, rowValues]
  split
  · rfl
  · rename_i b known
    have bank : ¬ 1 < bank := fun h => by simp [bankOf_none h] at known
    have bad := bad.resolve_left bank
    split
    · rfl
    · rename_i code
      refine if_pos ?_
      simp only [within, Bool.not_eq_true', Bool.and_eq_false_iff, decide_eq_false_iff_not]
      unfold RowInRange at bad
      omega

/-- With every field in range the lock and the room decide. -/
theorem putTariffRow_inRange (good : RowInRange m gate levy minimum) :
    putTariffRow tag (rowValues b.val m kind gate levy minimum restricted) s =
      if bankLocked s b then reply .locked s
      else if (rowIn s b m).isNone ∧ Config.tariffRows ≤ (s.tables.banks[b]).rows.length then reply .full s
      else reply .done (writeRow b (givenRow m kind gate levy minimum restricted) s) := by
  obtain ⟨m1, m255, gate1, levy1, min0, min1⟩ := good
  simp only [putTariffRow, rowValues, bankOf_val]
  rw [if_neg (by omega), if_neg (by simp [within]; omega)]
  rfl

theorem dropTariffRow_range (bad : 1 < bank ∨ m < 1 ∨ 255 < m) :
    dropTariffRow tag [some (.num bank), some (.num m)] s = reply .range s := by
  simp only [dropTariffRow]
  split
  · rfl
  · rename_i b known
    have bank : ¬ 1 < bank := fun h => by simp [bankOf_none h] at known
    exact if_pos (bad.resolve_left bank)

theorem dropTariffRow_inRange (m1 : 1 ≤ m) (m255 : m ≤ 255) :
    dropTariffRow tag [some (.num b.val), some (.num m)] s =
      if bankLocked s b then reply .locked s
      else if (rowIn s b m).isNone then reply .notFound s
      else reply .done (modTables (fun t => { t with banks := alter t.banks b (fun x =>
        { x with rows := x.rows.filter (fun y => y.material ≠ m) }) }) s) := by
  simp only [dropTariffRow, bankOf_val]
  rw [if_neg (by omega)]

end PutTariffRow

/-- The rows of a bank changed: what both requests do when they are DONE. -/
def modRows (b : BankId) (f : List TariffRow → List TariffRow) (s : State) : State :=
  modTables (fun t => { t with banks := alter t.banks b (fun x => { x with rows := f x.rows }) }) s

theorem writeRow_modRows (b : BankId) (r : TariffRow) (s : State) : writeRow b r s = modRows b (writeRow.place r) s := rfl

theorem modRows_rows (b : BankId) (f : List TariffRow → List TariffRow) (s : State) :
    ((modRows b f s).tables.banks[b]).rows = f (s.tables.banks[b]).rows := by
  simp only [modRows, modTables_tables, Fin.getElem_fin, getElem_alter_self]

theorem rowIn_modRows (b : BankId) (f : List TariffRow → List TariffRow) (s : State) (k : Nat) :
    rowIn (modRows b f s) b k = (f (s.tables.banks[b]).rows).find? fun r => r.material = k := by
  rw [rowIn, modRows_rows]

/-- Nothing but the rows of that bank is changed. -/
theorem modRows_eq (b : BankId) (f : List TariffRow → List TariffRow) (s : State) :
    modRows b f s = modTables (fun x => { x with
      banks := put x.banks b { (x.banks[b]) with rows := ((modRows b f s).tables.banks[b]).rows } }) s := by
  rw [modRows_rows]
  rfl

theorem bankLocked_false {s : State} {b : BankId} (idle : s.tables.active ≠ b) (unref : (s.tables.banks[b]).refs = 0) :
    bankLocked s b = false := by
  rw [Bool.eq_false_iff, ne_eq, bankLocked_iff]
  exact not_or.2 ⟨idle, Nat.not_lt.2 unref.le⟩

end Sys2Proof.Machine

namespace Sys2Proof.Certificates
open Sys2Proof.Machine

/-- Settles O53: the tests of each request in their order, then the row written or taken out under its code. -/
theorem tariffRowRequests : Obligations.TariffRowRequests := by
  unfold Obligations.TariffRowRequests
  refine ⟨fun s tag body cut k head cutBody third k1 k2 => ?_, fun s tag bank m kind gate levy minimum restricted _ h => ?_,
    fun s tag bank m h => ?_⟩
  · refine take_badBody putTariffRow head ?_
    unfold readBody
    rw [cutBody]
    dsimp only
    rw [readFields_none (i := 2) rfl third (readValue_code_two k1 k2)]
  · have row : RequestAt s 40 putTariffRowLayout tag (rowValues bank m kind gate levy minimum restricted) := h
    refine ⟨fun bad => answers_of_owner rfl row (putTariffRow_range tag ?_), ?_⟩
    · unfold RowInRange
      omega
    · rintro b rfl m1 m255 gate1 levy1 min0 min1
      have owner := putTariffRow_inRange (kind := kind) (restricted := restricted) (b := b) (s := fresh s) tag
        ⟨m1, m255, gate1, levy1, min0, min1⟩
      refine ⟨fun locked => answers_of_owner rfl row (owner.trans (if_pos (bankLocked_iff.2 locked))), fun idle unref => ?_⟩
      rw [if_neg (by simp [bankLocked_false idle unref])] at owner
      refine ⟨fun new many => answers_of_owner rfl row (owner.trans (if_pos ⟨by simp [new], many⟩)), fun room => ?_⟩
      refine ⟨_, answers_of_owner rfl row (owner.trans (if_neg (not_full room))), modRows_eq b _ _, ?_, fun k hk => ?_,
        fun rising => ?_⟩
      · rw [writeRow_modRows, rowIn_modRows]
        exact find?_placed_self (key := TariffRow.material) (x := givenRow m kind gate levy minimum restricted)
      · rw [writeRow_modRows, rowIn_modRows]
        exact find?_placed_other (key := TariffRow.material) hk
      · rw [writeRow_modRows, modRows_rows]
        exact pairwise_placed rising
  · refine ⟨fun bad => answers_of_owner rfl h (dropTariffRow_range tag bad), ?_⟩
    rintro b rfl m1 m255
    have owner := dropTariffRow_inRange (b := b) (s := fresh s) tag m1 m255
    refine ⟨fun locked => answers_of_owner rfl h (owner.trans (if_pos (bankLocked_iff.2 locked))), fun idle unref => ?_⟩
    rw [if_neg (by simp [bankLocked_false idle unref])] at owner
    refine ⟨fun absent => answers_of_owner rfl h (owner.trans (if_pos (by simp [absent]))), fun held => ?_⟩
    rw [if_neg (by simpa using held)] at owner
    refine ⟨_, answers_of_owner rfl h owner, modRows_eq b _ _, ?_, fun k hk => ?_⟩
    · exact (rowIn_modRows b _ _ m).trans find?_dropKey_self
    · exact (rowIn_modRows b _ _ k).trans (find?_dropKey_other hk)

end Sys2Proof.Certificates

namespace Sys2Proof.Machine

/-! ### Vehicles (R132, R133) -/

/-- A vehicle entry as PUT VEHICLE gives it. -/
def givenVehicle (id : Text) (account : Nat) (tare : Option Int) (expiry : Option Nat) (gross : Option Int)
    (material : Option Nat) (permit attendance : Bool) : Vehicle :=
  { id := id, account := account, tare := tare.map Int.toNat, expiry := expiry, maxGross := gross.map Int.toNat,
    material := material, permit := permit, attendance := attendance }

theorem putVehicle_eq (tag : Byte) (id : Text) (account : Nat) (tare gross : Option Int) (expiry material : Option Nat)
    (permit attendance : Bool) (s : State) :
    putVehicle tag [some (.text id), some (.num account), tare.map .int, expiry.map .num, gross.map .int, material.map .num,
        some (.flag permit), some (.flag attendance)] s =
      if !vehicleInRange id account tare expiry gross material then reply .range s
      else if (findVehicle s id).isNone ∧ Config.vehicleSlots ≤ s.tables.vehicles.length then reply .full s
      else reply .done (writeVehicle (givenVehicle id account tare expiry gross material permit attendance) s) := by
  simp only [putVehicle, asInt_map, asNum_map]
  rfl

theorem findVehicle_writeVehicle_self (v : Vehicle) (s : State) : findVehicle (writeVehicle v s) v.id = some v :=
  find?_placed_self (key := Vehicle.id)

theorem findVehicle_writeVehicle_other {v : Vehicle} {k : Text} (hk : k ≠ v.id) (s : State) :
    findVehicle (writeVehicle v s) k = findVehicle s k :=
  find?_placed_other (key := Vehicle.id) hk

/-! ### Accounts (R136, R137, R138, R142) -/

theorem findAccount_number {s : State} {n : Nat} {x : Account} (found : findAccount s n = some x) : x.number = n := by
  simpa using List.find?_some found

theorem findAccount_modAccount_other {n k : Nat} {f : Account → Account} (number : ∀ a, (f a).number = a.number)
    (hk : k ≠ n) (s : State) : findAccount (modAccount n f s) k = findAccount s k :=
  find?_mapKey_other (key := Account.number) (fun a ha => (number a).trans ha) hk

/-- The flag of an account that is found is set by the balance, and a record may follow (R138). -/
theorem evaluateOverLimit_frame {s : State} {n : Nat} {x : Account} (found : findAccount s n = some x) :
    RecordFrame (modAccount n (fun a => { a with overLimit := overLimit a }) s) (evaluateOverLimit n s) := by
  unfold evaluateOverLimit
  rw [found]
  dsimp only
  split
  · exact (queueRecord_spec _ _).1
  · exact .refl _

theorem evaluateOverLimit_tables {s : State} {n : Nat} {x : Account} (found : findAccount s n = some x) :
    (evaluateOverLimit n s).tables = (modAccount n (fun a => { a with overLimit := overLimit a }) s).tables := by
  rw [(evaluateOverLimit_frame found).rest]

theorem findAccount_evaluateOverLimit {s : State} {n : Nat} {x : Account} (found : findAccount s n = some x) :
    findAccount (evaluateOverLimit n s) n = some { x with overLimit := overLimit x } :=
  (findAccount_of_tables (evaluateOverLimit_tables found) n).trans
    (findAccount_modAccount (f := fun a => { a with overLimit := overLimit a }) (fun _ => rfl) found)

theorem findAccount_evaluateOverLimit_other {s : State} {n k : Nat} {x : Account} (found : findAccount s n = some x)
    (hk : k ≠ n) : findAccount (evaluateOverLimit n s) k = findAccount s k :=
  (findAccount_of_tables (evaluateOverLimit_tables found) k).trans (findAccount_modAccount_other (by exact fun _ => rfl) hk s)

theorem overLimit_iff (x : Account) : overLimit x = true ↔ x.kind ≠ .council ∧ (x.limit : Int) < x.balance := by
  simp [overLimit]

/-- The account PUT ACCOUNT writes: what stood keeps its balance, reserved total and visit count (R136). -/
def givenAccount (former : Option Account) (n : Nat) (kind : AccountKind) (limit reserve : Nat) (held : Bool) : Account :=
  { number := n, kind := kind, balance := (former.map (·.balance)).getD 0, limit := limit, reserve := reserve,
    isHeld := held, overLimit := (former.map (·.overLimit)).getD false, reserved := (former.map (·.reserved)).getD 0,
    visits := (former.map (·.visits)).getD 0 }

theorem findAccount_writeAccount (n : Nat) (kind : AccountKind) (limit reserve : Nat) (held : Bool) (s : State) :
    findAccount (writeAccount n kind limit reserve held s) n
      = some (givenAccount (findAccount s n) n kind limit reserve held) := by
  unfold writeAccount
  rcases found : findAccount s n with _ | x
  · exact find?_insertBy_new (decide_eq_true rfl) found
  · obtain rfl := findAccount_number found
    exact findAccount_modAccount
      (f := fun a => { a with kind := kind, limit := limit, reserve := reserve, isHeld := held }) (fun _ => rfl) found

theorem findAccount_writeAccount_other {n k : Nat} (hk : k ≠ n) (kind : AccountKind) (limit reserve : Nat) (held : Bool)
    (s : State) : findAccount (writeAccount n kind limit reserve held s) k = findAccount s k := by
  unfold writeAccount
  split
  · exact findAccount_modAccount_other (by exact fun _ => rfl) hk s
  · exact find?_insertBy_other (decide_eq_false hk.symm)

theorem putAccount_inRange (tag : Byte) {n kind : Nat} {limit reserve : Int} {held : Bool} {s : State}
    (good : accountInRange n (accountKindOf kind) limit reserve = true) :
    putAccount tag [some (.num n), some (.num kind), some (.int limit), some (.int reserve), some (.flag held)] s =
      if (findAccount s n).isNone ∧ Config.accountSlots ≤ s.tables.accounts.length then reply .full s
      else reply .done
        (evaluateOverLimit n (writeAccount n (accountKindOf kind) limit.toNat reserve.toNat held s)) := by
  simp only [putAccount]
  rw [if_neg (by simp [good])]

theorem dropAccount_held (tag : Byte) {n : Nat} {x : Account} {s : State} (n1 : 1 ≤ n) (n2 : n ≤ 999999)
    (found : findAccount s n = some x) : dropAccount tag [some (.num n)] s =
      if 0 < x.visits then reply .state s
      else reply .done (modTables (fun t => { t with accounts := t.accounts.filter (fun a => a.number ≠ n) }) s) := by
  simp only [dropAccount, found]
  rw [if_neg (by omega)]

theorem setBalance_found (tag : Byte) {n : Nat} {expected new : Int} {x : Account} {s : State} (n1 : 1 ≤ n)
    (n2 : n ≤ 999999) (e1 : -2000000000 ≤ expected) (e2 : expected ≤ 2000000000) (b1 : -2000000000 ≤ new)
    (b2 : new ≤ 2000000000) (found : findAccount s n = some x) :
    setBalance tag [some (.num n), some (.int expected), some (.int new)] s =
      if x.balance ≠ expected then replyWith .mismatch (money8 x.balance) s
      else replyWith .done (money8 new) (evaluateOverLimit n (modAccount n (fun a => { a with balance := new }) s)) := by
  simp only [setBalance, found]
  rw [if_neg (by simp [within]; omega)]

/-! ### The five requests, each at its answers -/

section Requests
variable {s : State} {tag : Byte}

theorem putVehicle_answers {id : Text} {account : Nat} {tare gross : Option Int} {expiry material : Option Nat}
    {permit attendance : Bool}
    (h : RequestAt s 31 putVehicleLayout tag [some (.text id), some (.num account), tare.map .int, expiry.map .num,
      gross.map .int, material.map .num, some (.flag permit), some (.flag attendance)])
    (good : vehicleInRange id account tare expiry gross material = true) :
    (findVehicle s id = none → 1024 ≤ s.tables.vehicles.length → Answers .putVehicle s tag .full [] (fresh s))
      ∧ (findVehicle s id ≠ none ∨ s.tables.vehicles.length < 1024 → Answers .putVehicle s tag .done []
          (writeVehicle (givenVehicle id account tare expiry gross material permit attendance) (fresh s))) := by
  have owner := putVehicle_eq tag id account tare gross expiry material permit attendance (fresh s)
  rw [if_neg (by simp [good])] at owner
  exact ⟨fun new many => answers_of_owner rfl h (owner.trans (if_pos ⟨by simp [new], many⟩)),
    fun room => answers_of_owner rfl h (owner.trans (if_neg (not_full room)))⟩

theorem dropVehicle_answers {id : Text} (h : RequestAt s 32 dropVehicleLayout tag [some (.text id)]) :
    (findVehicle s id = none → Answers .dropVehicle s tag .notFound [] (fresh s))
      ∧ (findVehicle s id ≠ none → Answers .dropVehicle s tag .done []
          (modTables (fun t => { t with vehicles := t.vehicles.filter (fun v => v.id ≠ id) }) (fresh s))) :=
  ⟨fun absent => answers_of_owner rfl h (if_pos (by simp [absent])),
    fun held => answers_of_owner rfl h (if_neg (by simpa using held))⟩

theorem putAccount_answers {n kind : Nat} {limit reserve : Int} {held : Bool}
    (h : RequestAt s 35 putAccountLayout tag
      [some (.num n), some (.num kind), some (.int limit), some (.int reserve), some (.flag held)])
    (good : accountInRange n (accountKindOf kind) limit reserve = true) :
    (findAccount s n = none → 256 ≤ s.tables.accounts.length → Answers .putAccount s tag .full [] (fresh s))
      ∧ (findAccount s n ≠ none ∨ s.tables.accounts.length < 256 → Answers .putAccount s tag .done []
          (evaluateOverLimit n (writeAccount n (accountKindOf kind) limit.toNat reserve.toNat held (fresh s)))) := by
  have owner := putAccount_inRange tag (held := held) (s := fresh s) good
  exact ⟨fun new many => answers_of_owner rfl h (owner.trans (if_pos ⟨by simp [new], many⟩)),
    fun room => answers_of_owner rfl h (owner.trans (if_neg (not_full room)))⟩

end Requests

end Sys2Proof.Machine

namespace Sys2Proof.Certificates
open Sys2Proof.Machine

/-- Settles O52: each request by its owner's tests, then the lookups of what it has written. -/
theorem vehicleAndAccountRequests : Obligations.VehicleAndAccountRequests := by
  unfold Obligations.VehicleAndAccountRequests
  refine ⟨fun s tag id account tare gross expiry material permit attendance h => ⟨fun bad => ?_, fun good => ?_⟩,
    fun s tag id h => ?_, fun s tag n kind limit reserve held h good => ?_, fun s tag n x h n1 n2 found => ?_,
    fun s tag n expected new x h n1 n2 e1 e2 b1 b2 found => ?_⟩
  · exact answers_of_owner rfl h
      ((putVehicle_eq tag id account tare gross expiry material permit attendance _).trans (if_pos (by simp [bad])))
  · obtain ⟨full, done⟩ := putVehicle_answers h good
    exact ⟨full, fun room => ⟨_, done room, rfl, findVehicle_writeVehicle_self _ _,
      fun k hk => findVehicle_writeVehicle_other hk _⟩⟩
  · obtain ⟨absent, done⟩ := dropVehicle_answers h
    exact ⟨absent, fun held => ⟨_, done held, rfl, find?_dropKey_self (key := Vehicle.id),
      fun k hk => find?_dropKey_other (key := Vehicle.id) hk⟩⟩
  · obtain ⟨full, done⟩ := putAccount_answers h good
    refine ⟨full, fun room => ⟨_, _, done room, findAccount_evaluateOverLimit (findAccount_writeAccount _ _ _ _ _ _),
      rfl, rfl, rfl, rfl, overLimit_iff _, fun y found => ?_, fun absent => ?_, fun k hk => ?_⟩⟩
    · rw [findAccount_fresh, found]
      exact ⟨rfl, rfl, rfl⟩
    · rw [findAccount_fresh, absent]
      exact ⟨rfl, rfl, rfl⟩
    · exact (findAccount_evaluateOverLimit_other (findAccount_writeAccount _ _ _ _ _ _) hk).trans
        (findAccount_writeAccount_other hk _ _ _ _ _)
  · have owner := dropAccount_held tag (s := fresh s) n1 n2 found
    exact ⟨fun counted => answers_of_owner rfl h (owner.trans (if_pos counted)),
      fun none_ => ⟨_, answers_of_owner rfl h (owner.trans (if_neg (by omega))), rfl,
        find?_dropKey_self (key := Account.number), fun k hk => find?_dropKey_other (key := Account.number) hk⟩⟩
  · have owner := setBalance_found tag (s := fresh s) n1 n2 e1 e2 b1 b2 found
    exact ⟨fun differs => answers_of_owner rfl h (owner.trans (if_pos differs)),
      fun stands => ⟨_, answers_of_owner rfl h (owner.trans (if_neg (not_not_intro stands))),
        findAccount_evaluateOverLimit 
          (findAccount_modAccount (f := fun a => { a with balance := new }) (s := fresh s) (fun _ => rfl) found)⟩⟩

end Sys2Proof.Certificates

namespace Sys2Proof.Machine

/-! ## The clock and the tariff switch (R127, R128, R148) -/

/-- The clock at or past the switch time switches the bank (R148). -/
theorem switchTest_fires {s : State} {k : Nat} (due : s.tables.switchTime = some k) (set : s.tables.clock.set = true)
    (past : k ≤ s.tables.clock.secs) :
    switchTest s = queueRecord (.tariffSwitched s.tables.active (otherBank s.tables.active) k s.tables.clock.secs)
      (modTables (fun x => { x with active := otherBank x.active, switchTime := none }) s) := by
  unfold switchTest
  rw [due]
  exact if_pos ⟨set, past⟩

theorem switchTest_waits {s : State}
    (early : ∀ k, s.tables.switchTime = some k → s.tables.clock.set = false ∨ s.tables.clock.secs < k) :
    switchTest s = s := by
  unfold switchTest
  split
  · rename_i k due
    refine if_neg fun ⟨set, past⟩ => ?_
    rcases early k due with unset | before
    · exact Bool.noConfusion (set.symm.trans unset)
    · omega
  · rfl

/-- A second counted, before the switch test (R127). -/
def secondCounted (s : State) : State :=
  modTables (fun t => { t with clock := { t.clock with ms := 0, secs := t.clock.secs + 1 } }) s

theorem tickSecond_saturated {s : State} (full : Config.max32 ≤ s.tables.clock.secs) :
    tickSecond s = modTables (fun t => { t with clock := { t.clock with ms := 0 } }) s := if_pos full

theorem tickSecond_counts {s : State} (room : s.tables.clock.secs < Config.max32) :
    tickSecond s = switchTest (secondCounted s) := if_neg (Nat.not_le.2 room)

/-- The clock set, before the switch test (R128). -/
def clockSet (n : Nat) (s : State) : State :=
  modTables (fun t => { t with clock := { secs := n, ms := 0, set := true } }) s

theorem setClock_eq (tag : Byte) (n : Nat) (s : State) :
    setClock tag [some (.num n)] s = reply .done (switchTest (clockSet n s)) := rfl

/-- The switch time set, before the switch test (R148). -/
def switchSet (n : Nat) (s : State) : State := modTables (fun t => { t with switchTime := some n }) s

theorem setTariffSwitch_eq (tag : Byte) (n : Nat) (s : State) :
    setTariffSwitch tag [some (.num n)] s = reply .done (switchTest (switchSet n s)) := rfl

/-! ## A millisecond (R127) -/

theorem step_idle {s : State} (still : s.pending = []) (powered : s.powered = true) : step s = .next (idleTick s) := by
  unfold step idle
  rw [still]
  dsimp only
  rw [if_pos powered]

theorem idleTick_lane (l : LaneId) (s : State) : (idleTick s).seq.lanes[l] = (s.seq.lanes[l]).tick :=
  Vector.getElem_map _ _

theorem idleTick_engine (b : BridgeId) (s : State) : (idleTick s).engine[b] = (s.engine[b]).tick := Vector.getElem_map _ _

theorem idleTick_step (s : State) : ((idleTick s).cal.session.bind (·.step)).map (·.timer)
    = (s.cal.session.bind (·.step)).map (fun r => r.timer - 1) := by
  unfold idleTick
  dsimp only
  rcases s.cal.session with _ | x
  · rfl
  · simp only [Option.map_some, Option.bind_some, Session.tick, Option.map_map]
    rfl

end Sys2Proof.Machine

namespace Sys2Proof.Certificates
open Sys2Proof.Machine

/-- Settles O2: an empty queue leaves the tick of every timer. -/
theorem idleMillisecondRunsTheTimers : Obligations.IdleMillisecondRunsTheTimers := by
  unfold Obligations.IdleMillisecondRunsTheTimers
  intro s still powered
  refine ⟨idleTick s, step_idle still powered, rfl, fun l => ?_, fun l => ?_, fun b => idleTick_engine b s, rfl,
    idleTick_step s, rfl, rfl, still⟩
  · rw [idleTick_lane]
    rfl
  · rw [idleTick_lane]
    rfl

/-- Settles O36: each of the three commands moves the clock or the switch time, and the switch test follows. -/
theorem clockAndTariffSwitch : Obligations.ClockAndTariffSwitch := by
  unfold Obligations.ClockAndTariffSwitch
  refine ⟨fun s powered full => ?_, fun s powered room early => ?_, fun s n powered room set due past => ?_,
    fun s tag n h => ⟨fun early => ?_, fun k due past => ?_⟩, fun s tag h => ?_,
    fun s tag n h => ⟨fun early => ?_, fun set past => ?_⟩⟩
  · exact (act_of_powered powered).trans (congrArg _ (tickSecond_saturated (s := fresh s) full))
  · exact (act_of_powered powered).trans (congrArg _ ((tickSecond_counts (s := fresh s) room).trans
      (switchTest_waits (s := secondCounted (fresh s)) early)))
  · exact (act_of_powered powered).trans (congrArg _ ((tickSecond_counts (s := fresh s) room).trans
      (switchTest_fires (s := secondCounted (fresh s)) due set past)))
  · refine answers_of_owner rfl h ((setClock_eq tag n (fresh s)).trans (congrArg _ ?_))
    exact switchTest_waits (s := clockSet n (fresh s)) fun k due => .inr (early k due)
  · refine answers_of_owner rfl h ((setClock_eq tag n (fresh s)).trans (congrArg _ ?_))
    exact switchTest_fires (s := clockSet n (fresh s)) due rfl past
  · exact answers_of_owner rfl h rfl
  · refine answers_of_owner rfl h ((setTariffSwitch_eq tag n (fresh s)).trans (congrArg _ ?_))
    refine switchTest_waits (s := switchSet n (fresh s)) fun k due => ?_
    obtain rfl : n = k := Option.some.inj due
    exact early
  · refine answers_of_owner rfl h ((setTariffSwitch_eq tag n (fresh s)).trans (congrArg _ ?_))
    exact switchTest_fires (s := switchSet n (fresh s)) rfl set past

end Sys2Proof.Certificates

namespace Sys2Proof.Machine

/-! ## Captures (R159 to R164) -/

/-! ### A visit changed in place, and its claimed records (R153, R156) -/

theorem RecordFrame.visits {s t : State} (h : RecordFrame s t) : t.visits = s.visits := by
  rw [h.rest]

theorem RecordFrame.tables {s t : State} (h : RecordFrame s t) : t.tables = s.tables := by
  rw [h.rest]

theorem findVisit_of_visits {s t : State} (visits : t.visits = s.visits) (n : Nat) : findVisit t n = findVisit s n := by
  unfold findVisit
  rw [visits]

/-- A visit changed in place is found changed. -/
theorem findVisit_modVisit {n : Nat} {f : Visit → Visit} {v : Visit} {s : State} (number : ∀ x, (f x).number = x.number)
    (found : findVisit s n = some v) : findVisit (modVisit n f s) n = some (f v) := by
  have listed : v.number = n := by simpa using List.find?_some found
  refine (find?_mapKey (key := Visit.number) fun x hx => (number x).trans hx).trans ?_
  rw [show s.visits.table.find? (fun x => x.number = n) = some v from found, Option.map_some, if_pos listed]

/-- A visit's claimed record spends one claim of the visit and of the port, and stands in the queue (R156). -/
theorem spendVisitClaim_spec {n : Nat} {v : Visit} {s : State} (body : RecordBody) (found : findVisit s n = some v)
    (claims : 1 ≤ s.port.claims) :
    findVisit (spendVisitClaim n body s) n = some { v with claims := v.claims - 1 }
      ∧ (spendVisitClaim n body s).tables = s.tables ∧ (spendVisitClaim n body s).port.claims = s.port.claims - 1
      ∧ ∃ r ∈ (spendVisitClaim n body s).port.records, r.body = body := by
  have counted := findVisit_modVisit (f := fun v => { v with claims := v.claims - 1 }) (fun _ => rfl) found
  obtain ⟨frame, spent, records⟩ :=
    spendClaim_spec body (modVisit n (fun v => { v with claims := v.claims - 1 }) s) claims
  unfold spendVisitClaim
  refine ⟨(findVisit_of_visits frame.visits n).trans counted, frame.tables, spent, ?_⟩
  rw [records]
  exact ⟨_, List.mem_append_right _ (List.mem_singleton_self _), rfl⟩

/-! ### First captures (R159) -/

theorem captureVisit_admitted {v : Visit} {s : State} (w : WeightRecord) (found : findVisit s v.number = some v)
    (state : v.state = .admitted) : captureVisit v.number w s = firstCapture v w s := by
  unfold captureVisit
  rw [found]
  dsimp only
  rw [state]

theorem captureVisit_leaving {v : Visit} {s : State} (w : WeightRecord) (found : findVisit s v.number = some v)
    (state : v.state = .leaving) : captureVisit v.number w s = secondCapture v w s := by
  unfold captureVisit
  rw [found]
  dsimp only
  rw [state]

/-- A visit whose first weight is accepted. -/
def firstAccepted (w : WeightRecord) (kind : MaterialKind) (v : Visit) : Visit :=
  { v with first := some w, held := none, hold := none, state := .onSite,
           overweight := v.overweight || (kind == .delivery && overGross v.maxGross w.weight) }

theorem acceptFirst_spec {n : Nat} {w : WeightRecord} {kind : MaterialKind} {v : Visit} {s : State}
    (found : findVisit s n = some v) (claims : 1 ≤ s.port.claims) :
    findVisit (acceptFirst n w kind s) n
        = some { firstAccepted w kind v with claims := v.claims - 1 }
      ∧ (acceptFirst n w kind s).tables = s.tables ∧ (acceptFirst n w kind s).port.claims = s.port.claims - 1
      ∧ ∃ r ∈ (acceptFirst n w kind s).port.records,
          r.body = .firstWeight n v.vehicle w v.bank (firstAccepted w kind v).overweight := by
  have accepted : findVisit (modVisit n (firstAccepted w kind) s) n = some (firstAccepted w kind v) :=
    findVisit_modVisit (fun _ => rfl) found
  have whole : acceptFirst n w kind s = spendVisitClaim n (.firstWeight n v.vehicle w v.bank (firstAccepted w kind v).overweight)
      (modVisit n (firstAccepted w kind) s) := by
    unfold acceptFirst
    dsimp only
    split
    · rename_i x stands
      obtain rfl := Option.some.inj (accepted.symm.trans stands)
      rfl
    · rename_i gone
      cases accepted.symm.trans gone
  rw [whole]
  exact spendVisitClaim_spec _ accepted claims

/-- The bank fixed on a visit, with the maximum gross of the lookup (R145, R159). -/
def bankFixed (v : Visit) (s : State) : State :=
  modVisit v.number (fun x => { x with
    bank := some s.tables.active, maxGross := ((findVehicle s v.vehicle).bind (·.maxGross)).or x.maxGross })
    (refBank s.tables.active s)

theorem rowIn_refBank (b c : BankId) (s : State) (m : Nat) : rowIn (refBank c s) b m = rowIn s b m := by
  unfold rowIn
  rw [show ((refBank c s).tables.banks[b]).rows = (s.tables.banks[b]).rows from
    (TablesKept.bank fun _ => rfl : TablesKept s (refBank c s)).rowsStand b]

theorem firstCapture_accepts {v : Visit} {w : WeightRecord} {row : TariffRow} {s : State} (unfixed : v.bank = none)
    (trade : w.trade = true) (tariff : rowIn s s.tables.active v.material = some row) :
    firstCapture v w s = (acceptFirst v.number w row.kind (bankFixed v s), some .release) := by
  have tariff : rowIn (bankFixed v s) s.tables.active v.material = some row := (rowIn_refBank _ _ s _).trans tariff
  unfold firstCapture
  rw [unfixed]
  dsimp only [Option.isNone_none, Option.getD_none]
  rw [if_pos rfl]
  split
  · rename_i gone
    cases tariff.symm.trans gone
  · rename_i r stands
    obtain rfl := Option.some.inj (tariff.symm.trans stands)
    rw [if_neg (by simp [trade])]
    rfl

theorem findVisit_bankFixed {v : Visit} {s : State} (found : findVisit s v.number = some v) :
    findVisit (bankFixed v s) v.number = some { v with
      bank := some s.tables.active, maxGross := ((findVehicle s v.vehicle).bind (·.maxGross)).or v.maxGross } :=
  findVisit_modVisit (s := refBank s.tables.active s) (f := fun x => { x with
    bank := some s.tables.active, maxGross := ((findVehicle s v.vehicle).bind (·.maxGross)).or x.maxGross })
    (fun _ => rfl) found

theorem bankFixed_refs (v : Visit) (s : State) : ((bankFixed v s).tables.banks[s.tables.active]).refs
    = (s.tables.banks[s.tables.active]).refs + 1 := by
  simp only [bankFixed, modVisit, refBank, modVisits_tables, modTables_tables, Fin.getElem_fin, getElem_alter_self]

/-! ### Holds (R164) -/

theorem visitHold_spec {n : Nat} {reason : HoldReason} {v : Visit} {s : State} (found : findVisit s n = some v) :
    findVisit (visitHold n reason s) n = some { v with state := .held, hold := some (reason, v.state) } := by
  unfold visitHold
  rw [found]
  refine (findVisit_of_visits (queueRecord_spec _ _).1.visits n).trans ?_
  exact findVisit_modVisit (f := fun x => { x with state := .held, hold := some (reason, x.state) }) (fun _ => rfl) found

/-- A capture hold leaves the capture on the visit as the held weight. -/
theorem captureHold_spec {n : Nat} {slot : WeightSlot} {w : WeightRecord} {reason : HoldReason} {v : Visit} {s : State}
    (found : findVisit s n = some v) : ∃ t, captureHold n slot w reason s = (t, some (.hold reason))
      ∧ findVisit t n = some { v with held := some (slot, w), state := .held, hold := some (reason, v.state) } :=
  ⟨_, rfl, visitHold_spec (findVisit_modVisit (f := fun v => { v with held := some (slot, w) }) (fun _ => rfl) found)⟩

/-- A second capture outside the tare tolerance is held (R160, R161). -/
theorem secondCapture_mismatch {v : Visit} {w w1 : WeightRecord} {row : TariffRow} {bank : BankId} {k : Nat} {s : State}
    (fixed : v.bank = some bank) (tariff : rowIn s bank v.material = some row) (first : v.first = some w1)
    (trade : w.trade = true) (tare : v.tare.value = some k)
    (outside : tareTestFails s.visits.tolerance k (unladen row.kind w1.weight w.weight) = true) :
    secondCapture v w s = captureHold v.number .second w .tareMismatch s := by
  unfold secondCapture
  rw [fixed, Option.bind_some, tariff, first]
  simp only [trade, tare, outside]
  rfl

/-- A second capture within the tare tolerance, with a net of at least 0, completes the visit (R160, R161). -/
theorem secondCapture_completes {v : Visit} {w w1 : WeightRecord} {row : TariffRow} {bank : BankId} {s : State}
    (fixed : v.bank = some bank) (tariff : rowIn s bank v.material = some row) (first : v.first = some w1)
    (trade : w.trade = true)
    (inside : ∀ k, v.tare.value = some k → tareTestFails s.visits.tolerance k (unladen row.kind w1.weight w.weight) = false)
    (net : 0 ≤ netWeight row.kind v.tare w1.weight w.weight) :
    secondCapture v w s = (complete v w1 w row v.tare s, some .ticket) := by
  unfold secondCapture
  rw [fixed, Option.bind_some, tariff, first]
  dsimp only
  rw [if_neg (by simp [trade]), if_neg, if_neg (Int.not_lt.2 net)]
  split
  · rename_i k tare
    simp [inside k tare]
  · exact Bool.false_ne_true

/-! ### Completion (R163) -/

/-- A posting leaves the visits and the claims (R140). -/
theorem post_rest (n k total : Nat) (s : State) :
    (post n k total s).visits = s.visits ∧ (post n k total s).port.claims = s.port.claims := by
  unfold post evaluateOverLimit
  split
  · exact ⟨rfl, rfl⟩
  · dsimp only
    split
    · obtain ⟨frame, claims, -⟩ := queueRecord_spec _ _
      exact ⟨frame.visits, claims⟩
    · exact ⟨rfl, rfl⟩

/-- The charge joins the balance, up to its greatest value, and the reserve leaves the reserved total (R140). -/
theorem findAccount_post {n k total : Nat} {a : Account} {s : State} (found : findAccount s n = some a) :
    ∃ x, findAccount (post n k total s) n = some x ∧ x.balance = min Config.maxBalance (a.balance + total)
      ∧ x.reserved = a.reserved - k ∧ x.visits = a.visits := by
  have joined := findAccount_modAccount (f := fun a : Account =>
    { a with reserved := a.reserved - k, balance := min Config.maxBalance (a.balance + total) }) (fun _ => rfl) found
  exact ⟨_, findAccount_evaluateOverLimit joined, rfl, rfl, rfl⟩

/-- The start of a numbering is the ticket unit's and the store's. -/
theorem startNumbering_rest (s : State) : (startNumbering s).visits = s.visits ∧ (startNumbering s).tables = s.tables
    ∧ (startNumbering s).port = s.port := by
  have asked : ∀ w u, (askWriteBehindReset w u).visits = u.visits ∧ (askWriteBehindReset w u).tables = u.tables
      ∧ (askWriteBehindReset w u).port = u.port := fun w u => by
    rcases askWriteBehindReset_cases w u with ⟨-, -, hq⟩ | ⟨-, hq⟩ <;> rw [hq] <;> exact ⟨rfl, rfl, rfl⟩
  unfold startNumbering
  split
  · split
    · exact asked _ _
    · exact ⟨rfl, rfl, rfl⟩
  · exact ⟨rfl, rfl, rfl⟩

/-- A visit handed over is left, or has its ticket taken; tables and port are left (R166, R179). -/
theorem handOver_spec {n : Nat} {l : LaneId} {x : Visit} {s : State} (found : findVisit s n = some x)
    (state : x.state = .weighedOut) : (∃ st, (st = .weighedOut ∨ st = .ticketing)
        ∧ findVisit (handOver n l s) n = some { x with state := st })
      ∧ (handOver n l s).tables = s.tables ∧ (handOver n l s).port = s.port := by
  have stays : findVisit s n = some { x with state := .weighedOut } := state ▸ found
  unfold handOver
  split
  · exact ⟨⟨_, .inl rfl, stays⟩, rfl, rfl⟩
  · split
    · obtain ⟨visits, tables, port⟩ := startNumbering_rest (ticketTaken n
        (modTickets (fun x => { x with numbering := x.numbering ++ [(n, l)] }) (modPrinter l _ s)))
      refine ⟨⟨.ticketing, .inr rfl, (findVisit_of_visits visits n).trans ?_⟩, tables, port⟩
      refine (findVisit_modVisit (fun v => ?_) (s := modTickets _ (modPrinter l _ s)) found).trans ?_
      · split <;> rfl
      · rw [state]
    · exact ⟨⟨_, .inl rfl, stays⟩, rfl, rfl⟩

/-- A visit weighed out, before its posting (R163). -/
def weighedOut (second : WeightRecord) (tare : TareSource) (charge : Charge) (heavy : Bool) (v : Visit) : Visit :=
  { v with second := some second, held := none, overweight := heavy, tare := tare, charge := some charge }

/-- The charge of a visit posted, if it has an account (R140, R163). -/
def chargePosted (v : Visit) (total : Nat) (s : State) : State :=
  if v.account = 0 then s else post v.account v.reserve total s

theorem chargePosted_rest (v : Visit) (total : Nat) (s : State) :
    (chargePosted v total s).visits = s.visits ∧ (chargePosted v total s).port.claims = s.port.claims := by
  unfold chargePosted
  split
  · exact ⟨rfl, rfl⟩
  · exact post_rest _ _ _ _

/-- The post call's marks on the visit (R163). -/
def postMarked (saturated : Bool) (v : Visit) : Visit := { v with posted := v.account != 0, saturated := saturated }

/-- The visit weighed out, its charge posted and the marks set: what the record of the second weight finds (R163). -/
def completionPosted (v : Visit) (second : WeightRecord) (tare : TareSource) (charge : Charge) (heavy saturated : Bool)
    (s : State) : State :=
  modVisit v.number (fun x => { x with posted := v.account != 0, saturated := saturated })
    (chargePosted v charge.total (modVisit v.number (weighedOut second tare charge heavy) s))

section Posted
variable {v : Visit} {second : WeightRecord} {tare : TareSource} {charge : Charge} {heavy saturated : Bool} {s : State}

theorem findVisit_completionPosted (found : findVisit s v.number = some v) :
    findVisit (completionPosted v second tare charge heavy saturated s) v.number
      = some (postMarked saturated (weighedOut second tare charge heavy v)) := by
  have weighed : findVisit (modVisit v.number (weighedOut second tare charge heavy) s) v.number
      = some (weighedOut second tare charge heavy v) := findVisit_modVisit (fun _ => rfl) found
  exact findVisit_modVisit (f := fun x => { x with posted := v.account != 0, saturated := saturated }) (fun _ => rfl)
    ((findVisit_of_visits (chargePosted_rest _ _ _).1 _).trans weighed)

theorem completionPosted_claims :
    (completionPosted v second tare charge heavy saturated s).port.claims = s.port.claims :=
  (chargePosted_rest v charge.total (modVisit v.number (weighedOut second tare charge heavy) s)).2

theorem findAccount_completionPosted {a : Account} (account : v.account ≠ 0) (found : findAccount s v.account = some a) :
    ∃ x, findAccount (completionPosted v second tare charge heavy saturated s) v.account = some x
      ∧ x.balance = min Config.maxBalance (a.balance + charge.total) ∧ x.reserved = a.reserved - v.reserve
      ∧ x.visits = a.visits := by
  obtain ⟨x, posted, amounts⟩ := findAccount_post (k := v.reserve) (total := charge.total)
    (s := modVisit v.number (weighedOut second tare charge heavy) s) found
  refine ⟨x, (findAccount_of_tables ?_ _).trans posted, amounts⟩
  have whole : chargePosted v charge.total (modVisit v.number (weighedOut second tare charge heavy) s)
      = post v.account v.reserve charge.total (modVisit v.number (weighedOut second tare charge heavy) s) := if_neg account
  exact (congrArg State.tables whole :)

end Posted

/-- A visit complete goes to the ticket unit for the printer of its outbound lane, if it has one (R163, R179). -/
def ticketAsked (v : Visit) (s : State) : State :=
  match v.outLane with
  | some l => handOver v.number l s
  | none => s

theorem ticketAsked_spec {v x : Visit} {s : State} (found : findVisit s v.number = some x) (state : x.state = .weighedOut) :
    (∃ st, (st = .weighedOut ∨ st = .ticketing) ∧ findVisit (ticketAsked v s) v.number = some { x with state := st })
      ∧ (ticketAsked v s).tables = s.tables ∧ (ticketAsked v s).port = s.port := by
  unfold ticketAsked
  split
  · exact handOver_spec found state
  · exact ⟨⟨_, .inl rfl, state ▸ found⟩, rfl, rfl⟩

/-- The charge of a completion (R161, R162). -/
def completionCharge (first second : WeightRecord) (row : TariffRow) (tare : TareSource) : Charge :=
  chargeFor row (netWeight row.kind tare first.weight second.weight).toNat

/-- The overweight mark of a completion (R160). -/
def completionHeavy (v : Visit) (second : WeightRecord) (row : TariffRow) : Bool :=
  v.overweight || (row.kind == .collection && overGross v.maxGross second.weight)

/-- The saturation mark of a completion (R140). -/
def completionSaturates (v : Visit) (charge : Charge) (s : State) : Bool :=
  v.account != 0 && postSaturates s v.account charge.total

/-- The record of a second weight (R163, R218). -/
def secondBody (v : Visit) (first second : WeightRecord) (tare : TareSource) (charge : Charge) (heavy saturated : Bool) :
    RecordBody :=
  .secondWeight v.number second tare (tareShown tare first.weight second.weight) charge v.bank saturated heavy

theorem complete_eq (v : Visit) (first second : WeightRecord) (row : TariffRow) (tare : TareSource) (s : State) :
    complete v first second row tare s =
      let charge := completionCharge first second row tare
      let heavy := completionHeavy v second row
      let saturated := completionSaturates v charge s
      ticketAsked v (modVisit v.number (fun v => { v with state := .weighedOut, hold := none })
        (spendVisitClaim v.number (secondBody v first second tare charge heavy saturated)
          (completionPosted v second tare charge heavy saturated s))) := rfl

/-- What a completion leaves on the visit, on its account and in the record queue (R140, R156, R163). -/
theorem complete_spec {v : Visit} {first second : WeightRecord} {row : TariffRow} {tare : TareSource} {charge : Charge}
    {s : State} (priced : completionCharge first second row tare = charge) (found : findVisit s v.number = some v)
    (claims : 1 ≤ s.port.claims) :
    ∃ t x, complete v first second row tare s = t ∧ findVisit t v.number = some x ∧ x.second = some second ∧ x.held = none
      ∧ x.charge = some charge ∧ x.posted = (v.account != 0) ∧ (x.state = .weighedOut ∨ x.state = .ticketing)
      ∧ x.claims = v.claims - 1 ∧ x.saturated = completionSaturates v charge s ∧ t.port.claims = s.port.claims - 1
      ∧ (∀ a, v.account ≠ 0 → findAccount s v.account = some a → ∃ a', findAccount t v.account = some a'
          ∧ a'.balance = min Config.maxBalance (a.balance + charge.total) ∧ a'.reserved = a.reserved - v.reserve
          ∧ a'.visits = a.visits)
      ∧ ∃ r ∈ t.port.records, r.body = secondBody v first second tare charge x.overweight x.saturated := by
  rw [complete_eq, priced]
  dsimp only
  have posted := findVisit_completionPosted (second := second) (tare := tare) (charge := charge)
    (heavy := completionHeavy v second row) (saturated := completionSaturates v charge s) found
  have owed := completionPosted_claims (v := v) (second := second) (tare := tare) (charge := charge)
    (heavy := completionHeavy v second row) (saturated := completionSaturates v charge s) (s := s)
  have account := fun a nonzero known => findAccount_completionPosted (second := second) (tare := tare) (charge := charge)
    (heavy := completionHeavy v second row) (saturated := completionSaturates v charge s) (v := v) (s := s) (a := a)
    nonzero known
  generalize completionPosted v second tare charge (completionHeavy v second row) (completionSaturates v charge s) s = u
    at posted owed account ⊢
  obtain ⟨spent, tables, left, queued⟩ := spendVisitClaim_spec
    (secondBody v first second tare charge (completionHeavy v second row) (completionSaturates v charge s)) posted
    (owed ▸ claims)
  generalize spendVisitClaim v.number _ u = w at spent tables left queued ⊢
  have out := findVisit_modVisit (f := fun v => { v with state := .weighedOut, hold := none }) (fun _ => rfl) spent
  obtain ⟨⟨st, states, asked⟩, tables', port⟩ := ticketAsked_spec (v := v) out rfl
  refine ⟨_, _, rfl, asked, rfl, rfl, rfl, rfl, states, rfl, rfl, ?_, fun a nonzero known => ?_, ?_⟩
  · rw [port]
    exact left.trans (congrArg (· - 1) owed)
  · obtain ⟨a', stands, amounts⟩ := account a nonzero known
    exact ⟨a', (findAccount_of_tables (tables'.trans tables) _).trans stands, amounts⟩
  · rw [port]
    exact queued

end Sys2Proof.Machine

namespace Sys2Proof.Certificates
open Sys2Proof.Machine

/-- Settles O44: the tests of a capture in their order, then what its outcome leaves on the visit and in the record queue. -/
theorem capturesAreWeighedIn : Obligations.CapturesAreWeighedIn := by
  unfold Obligations.CapturesAreWeighedIn
  refine ⟨fun s v w row found state unfixed trade tariff claims => ?_,
    fun s v w w1 row bank found state fixed tariff first trade => ⟨fun ⟨k, tare, outside⟩ => ?_,
      fun inside net claims => ?_⟩⟩
  · have run := (captureVisit_admitted w found state).trans (firstCapture_accepts unfixed trade tariff)
    obtain ⟨accepted, tables, spent, queued⟩ :=
      acceptFirst_spec (w := w) (kind := row.kind) (findVisit_bankFixed found) claims
    refine ⟨_, _, run, accepted, rfl, rfl, rfl, rfl, rfl, rfl, rfl, ?_, spent, queued⟩
    rw [tables]
    exact bankFixed_refs v s
  · have run := (captureVisit_leaving w found state).trans (secondCapture_mismatch fixed tariff first trade tare outside)
    obtain ⟨t, held, stands⟩ := captureHold_spec (slot := .second) (w := w) (reason := .tareMismatch) found
    exact ⟨t, _, run.trans held, stands, rfl, by rw [state], rfl, rfl⟩
  · have run := (captureVisit_leaving w found state).trans (secondCapture_completes fixed tariff first trade inside net)
    intro charge
    obtain ⟨t, x, whole, stands, second, held, charged, posted, states, counted, saturated, spent, account, queued⟩ :=
      complete_spec (first := w1) (second := w) (row := row) (tare := v.tare) (charge := charge) rfl found claims
    rw [secondBody, fixed] at queued
    refine ⟨t, x, run.trans (congrArg (·, _) whole), stands, second, held, charged, posted, states, counted, spent,
      fun a nonzero known => ?_, queued⟩
    obtain ⟨a', found', balance, reserved, visits⟩ := account a nonzero known
    refine ⟨a', found', balance, reserved, visits, ?_⟩
    rw [saturated, completionSaturates, postSaturates, known, bne_iff_ne.2 nonzero]
    rfl

end Sys2Proof.Certificates

namespace Sys2Proof.Machine

/-! ## Charges (R162) -/

/-- A quotient rounded half up is the number whose double, taken with the divisor, brackets the double of the dividend. -/
theorem roundHalfUp_bounds (p : Nat) {d : Nat} (pos : 0 < d) :
    2 * d * roundHalfUp p d ≤ 2 * p + d ∧ 2 * p + d < 2 * d * (roundHalfUp p d + 1) :=
  ⟨Nat.mul_div_le _ _, Nat.lt_mul_div_succ _ (by omega)⟩

/-! ## Numbers as bytes (R214) -/

theorem beBytes_length (k n : Nat) : (beBytes k n).length = k := by
  induction k with
  | zero => rfl
  | succ k ih => exact congrArg (· + 1) ih

/-- Bytes read behind a number already read. -/
theorem foldl_beBytes (k n a : Nat) :
    (beBytes k n).foldl (fun n b => n * 256 + b.toNat) a = a * 256 ^ k + n % 256 ^ k := by
  induction k generalizing a with
  | zero => simp [beBytes, Nat.mod_one]
  | succ k ih =>
    rw [beBytes, List.foldl_cons, ih, BitVec.toNat_ofNat, Nat.mod_pow_succ (x := n) (b := 256) (k := k)]
    generalize n % 256 ^ k = rest
    ring

theorem beNat_beBytes (k n : Nat) : beNat (beBytes k n) = n % 256 ^ k :=
  (foldl_beBytes k n 0).trans (by simp)

/-- A signed number whose double fits `k` bytes is read back from them. -/
theorem beSigned_beInt {k : Nat} {i : Int} (low : -((256 ^ k : Nat) : Int) ≤ 2 * i) (high : 2 * i < ((256 ^ k : Nat) : Int)) :
    beSigned (beInt k i) = i := by
  unfold beSigned beInt
  rw [beNat_beBytes, beBytes_length]
  generalize 256 ^ k = m at low high
  have within : (i % m).toNat < m := by
    have := Int.emod_lt_of_pos i (b := m) (by omega)
    have := Int.emod_nonneg i (b := m) (by omega)
    omega
  rw [Nat.mod_eq_of_lt within]
  dsimp only
  rcases lt_or_ge i 0 with negative | positive
  · have wraps : i % m = i + m := by
      rw [← Int.add_emod_right, Int.emod_eq_of_lt (by omega) (by omega)]
    rw [wraps]
    split <;> omega
  · rw [Int.emod_eq_of_lt positive (by omega)]
    split <;> omega

/-! ## Lines cut into parts (R184) -/

/-- Chunks run together to the text; all but the last have the full size. -/
theorem chunks_spec {k : Nat} (pos : 1 ≤ k) (fuel : Nat) (t : Text) (enough : t.length ≤ fuel) :
    ∃ parts last, chunks k fuel t = parts ++ [last] ∧ (∀ x ∈ parts, x.length = k) ∧ last.length ≤ k
      ∧ parts.flatten ++ last = t := by
  induction fuel generalizing t with
  | zero => exact ⟨[], t, rfl, by simp, by omega, rfl⟩
  | succ fuel ih =>
    unfold chunks
    split
    · rename_i short
      exact ⟨[], t, rfl, by simp, short, rfl⟩
    · obtain ⟨parts, last, cut, full, rest, whole⟩ := ih (t.drop k) (by rw [List.length_drop]; omega)
      refine ⟨t.take k :: parts, last, by rw [cut, List.cons_append], ?_, rest, ?_⟩
      · exact List.forall_mem_cons.2 ⟨by rw [List.length_take]; omega, full⟩
      · rw [List.flatten_cons, List.append_assoc, whole, List.take_append_drop]

/-- The parts of a line: full ones marked MORE, then the last of them marked LAST. -/
theorem lineParts_spec {size : Nat} (pos : 1 ≤ size) (line : Text) :
    ∃ (parts : List Text) (last : Text), lineParts size line = parts.map (fun p => (false, p)) ++ [(true, last)]
      ∧ (∀ x ∈ parts, x.length = size) ∧ last.length ≤ size ∧ parts.flatten ++ last = line := by
  obtain ⟨parts, last, cut, spec⟩ := chunks_spec pos line.length line le_rfl
  exact ⟨parts, last, by simp [lineParts, cut], spec⟩

/-! ## The assignment of a visit number (R152) -/

/-- The numbers counted upward from one, 65,535 being followed by 1. -/
theorem nextVisitNumber_iterate {n : Nat} (low : 1 ≤ n) (high : n ≤ 65535) (i : Nat) :
    nextVisitNumber^[i] n = (n - 1 + i) % 65535 + 1 := by
  induction i with
  | zero => rw [Function.iterate_zero_apply]; omega
  | succ i ih =>
    rw [Function.iterate_succ_apply', ih, nextVisitNumber, Config.max16]
    split <;> omega

/-- The search stops at the first number that is not held, or when its fuel is spent on held ones. -/
theorem freeVisitNumber_spec (held : List Nat) (fuel n : Nat) :
    ∃ j ≤ fuel, freeVisitNumber held fuel n = nextVisitNumber^[j] n ∧ (∀ i < j, nextVisitNumber^[i] n ∈ held)
      ∧ (j < fuel → nextVisitNumber^[j] n ∉ held) := by
  induction fuel generalizing n with
  | zero => exact ⟨0, le_rfl, rfl, by simp, by simp⟩
  | succ fuel ih =>
    unfold freeVisitNumber
    split
    · rename_i taken
      obtain ⟨j, le, stops, before, free⟩ := ih (nextVisitNumber n)
      refine ⟨j + 1, by omega, stops, fun i hi => ?_, fun lt => free (by omega)⟩
      cases i with
      | zero => simpa using taken
      | succ i => exact before i (by omega)
    · rename_i free
      exact ⟨0, by omega, rfl, by simp, fun _ => by simpa using free⟩

/-- Fewer numbers held than the fuel cannot stop the search. -/
theorem freeVisitNumber_free {held : List Nat} {fuel n : Nat} (low : 1 ≤ n) (high : n ≤ 65535) (few : held.length < fuel)
    (small : fuel ≤ 65535) : freeVisitNumber held fuel n ∉ held := by
  obtain ⟨j, le, stops, before, free⟩ := freeVisitNumber_spec held fuel n
  rw [stops]
  refine free (lt_of_le_of_ne le fun spent => ?_)
  subst spent
  have distinct : ((List.range j).map fun i => nextVisitNumber^[i] n).Nodup := by
    refine List.Nodup.map_on (fun a ha b hb same => ?_) List.nodup_range
    rw [List.mem_range] at ha hb
    rw [nextVisitNumber_iterate low high, nextVisitNumber_iterate low high] at same
    omega
  have inside : ((List.range j).map fun i => nextVisitNumber^[i] n) ⊆ held := by
    intro m hm
    obtain ⟨i, hi, rfl⟩ := List.mem_map.1 hm
    exact before i (List.mem_range.1 hi)
  have count := (List.subperm_of_subset distinct inside).length_le
  rw [List.length_map, List.length_range] at count
  omega

theorem assignVisitNumber_spec {s : State} (few : s.visits.table.length ≤ 64) (low : 1 ≤ s.visits.next)
    (high : s.visits.next ≤ 65535) :
    1 ≤ assignVisitNumber s ∧ assignVisitNumber s ≤ 65535 ∧ findVisit s (assignVisitNumber s) = none := by
  have free : assignVisitNumber s ∉ s.visits.table.map (·.number) :=
    freeVisitNumber_free low high (by rw [List.length_map]; exact Nat.lt_succ_of_le few) (by decide)
  obtain ⟨j, -, stops, -⟩ := freeVisitNumber_spec (s.visits.table.map (·.number)) (Config.visitSlots + 1) s.visits.next
  have place : assignVisitNumber s = (s.visits.next - 1 + j) % 65535 + 1 :=
    stops.trans (nextVisitNumber_iterate low high j)
  refine ⟨by omega, by omega, List.find?_eq_none.2 fun v hv same => free (List.mem_map.2 ⟨v, hv, ?_⟩)⟩
  exact of_decide_eq_true same

end Sys2Proof.Machine

namespace Sys2Proof.Certificates
open Sys2Proof.Machine

/-- Settles O59: gate fee and levy are the two quotients, each bracketed by its product. -/
theorem chargeOfANetWeight : Obligations.ChargeOfANetWeight := by
  unfold Obligations.ChargeOfANetWeight
  intro row n
  obtain ⟨gateLow, gateHigh⟩ := roundHalfUp_bounds (n * row.gate) (d := 1000) (by omega)
  obtain ⟨levyLow, levyHigh⟩ := roundHalfUp_bounds (n * row.levy) (d := 1000) (by omega)
  refine ⟨_, _, gateLow, gateHigh, levyLow, levyHigh, ?_⟩
  rw [chargeFor, max_comm]

/-- Settles O60: each encoding by the lemma that reads it back, and the visit number by counting the numbers held. -/
theorem encodingsKeepWhatTheyCarry : Obligations.EncodingsKeepWhatTheyCarry := by
  unfold Obligations.EncodingsKeepWhatTheyCarry
  refine ⟨fun k n fits => ⟨(beNat_beBytes k n).trans (Nat.mod_eq_of_lt fits), beBytes_length k n⟩, fun i low high => ?_,
    fun i low high => beSigned_beInt (by omega) (by omega), fun size line pos => ?_,
    fun s few low high => assignVisitNumber_spec few low high⟩
  · rw [weight4, if_pos ⟨low, high⟩]
    exact beSigned_beInt (by omega) (by omega)
  · obtain ⟨parts, last, cut, full, rest, whole⟩ := lineParts_spec pos line
    rw [cut]
    refine ⟨?_, fun x hx => ?_, _, last, rfl, fun x hx => ?_⟩
    · rw [List.flatMap_append, List.flatMap_map, List.flatMap_singleton, ← whole]
      simp [List.flatMap_id']
    · rcases List.mem_append.1 hx with more | end_
      · obtain ⟨p, hp, rfl⟩ := List.mem_map.1 more
        exact (full p hp).le
      · rw [List.mem_singleton.1 end_]
        exact rest
    · obtain ⟨p, hp, rfl⟩ := List.mem_map.1 hx
      exact ⟨rfl, full p hp⟩

end Sys2Proof.Certificates

namespace Sys2Proof.Machine

/-! ## Visits opened and restored by the office (R152, R155, R157, R174, R175) -/

/-- A visit written with four claims taken, one of them spent on its record (R155, R156). -/
def visitJoined (v : Visit) (s : State) : State :=
  spendVisitClaim v.number (openedBody v.number v) (insertVisit v (takeClaims 4 s))

theorem visitJoined_spec {v : Visit} {s : State} (room : 4 ≤ unclaimedFree s) :
    (visitJoined v s).tables = s.tables ∧ (visitJoined v s).visits.next = s.visits.next
      ∧ (visitJoined v s).port.claims = s.port.claims + 3
      ∧ { v with claims := v.claims - 1 } ∈ (visitJoined v s).visits.table
      ∧ (∃ r ∈ (visitJoined v s).port.records, r.body = openedBody v.number v)
      ∧ (findVisit s v.number = none →
          findVisit (visitJoined v s) v.number = some { v with claims := v.claims - 1 }) := by
  unfold visitJoined
  rw [takeClaims_granted (decide_eq_true room)]
  set u := insertVisit v (modPort (fun p => { p with claims := p.claims + 4 }) s) with hu
  set w := modVisit v.number (fun x => { x with claims := x.claims - 1 }) u with hw
  have claims : w.port.claims = s.port.claims + 4 := rfl
  obtain ⟨frame, spent, records⟩ := spendClaim_spec (openedBody v.number v) w (by omega)
  refine ⟨frame.tables, ?_, ?_, ?_, ⟨_, records ▸ List.mem_append_right _ (List.mem_singleton_self _), rfl⟩, fun new => ?_⟩
  · exact (congrArg Visits.next frame.visits :)
  · show (spendClaim (openedBody v.number v) w).port.claims = s.port.claims + 3
    omega
  · have listed : { v with claims := v.claims - 1 } ∈ w.visits.table :=
      List.mem_map.2 ⟨v, mem_insertBy _ v _, if_pos rfl⟩
    exact (congrArg Visits.table frame.visits).symm ▸ listed
  · have found : findVisit u v.number = some v := find?_insertBy_new (decide_eq_true rfl) new
    exact (findVisit_of_visits frame.visits _).trans (findVisit_modVisit (fun _ => rfl) found)

/-! ### OPEN VISIT (R157) -/

theorem openVisit_walkIn {build : Nat → Visit} {s : State} (number : (build (assignVisitNumber s)).number = assignVisitNumber s)
    (account : (build (assignVisitNumber s)).account = 0) :
    openVisit build s = visitJoined (build (assignVisitNumber s))
      (modVisits (fun t => { t with next := nextVisitNumber (assignVisitNumber s) }) s) := by
  unfold openVisit visitJoined
  dsimp only
  rw [if_pos account, number]
  rfl

/-- The visit OPEN VISIT opens. -/
def walkInVisit (s : State) (id : Text) (m : Nat) (tare : TareSource) (n : Nat) : Visit :=
  freshVisit s n id 0 m 0 tare none (((findVehicle s id).map (·.attendance)).getD false) true

section OpenVisit
variable {s : State} {id : Text} {m source : Nat} {value : Option Int} {permit : Bool} {tare : TareSource}

/-- The values of an OPEN VISIT. -/
def openValues (id : Text) (m source : Nat) (value : Option Int) (permit : Bool) : List (Option Value) :=
  [some (.text id), some (.num m), some (.num source), value.map .int, some (.flag permit)]

theorem openWalkIn_held (tag : Byte) (given : tareOf source value = some tare) (unstored : source ≠ 1)
    (valid : validId id = true) (m1 : 1 ≤ m) (held : (visitOf s id).isSome = true) :
    openWalkIn tag (openValues id m source value permit) s = refuse .state 2 s := by
  simp only [openWalkIn, openValues, asInt_map, given]
  rw [if_neg (by simp [valid, unstored]; omega), if_pos held]

theorem openWalkIn_noRow (tag : Byte) (given : tareOf source value = some tare) (unstored : source ≠ 1)
    (valid : validId id = true) (m1 : 1 ≤ m) (new : visitOf s id = none) (room : s.visits.table.length < Config.visitSlots)
    (tariff : activeRow s m = none) :
    openWalkIn tag (openValues id m source value permit) s = refuse .notFound 5 s := by
  simp only [openWalkIn, openValues, asInt_map, given, tariff]
  rw [if_neg (by simp [valid, unstored]; omega), if_neg (by simp [new]), if_neg (Nat.not_le.2 room)]

theorem openWalkIn_opens (tag : Byte) {row : TariffRow} (given : tareOf source value = some tare) (unstored : source ≠ 1)
    (valid : validId id = true) (m1 : 1 ≤ m) (new : visitOf s id = none) (room : s.visits.table.length < Config.visitSlots)
    (tariff : activeRow s m = some row) (allowed : row.restricted = true → permit = true) (claims : 4 ≤ unclaimedFree s) :
    openWalkIn tag (openValues id m source value permit) s
      = replyWith .done (u16 (assignVisitNumber s)) (openVisit (walkInVisit s id m tare) s) := by
  simp only [openWalkIn, openValues, asInt_map, given, tariff]
  rw [if_neg (by simp [valid, unstored]; omega), if_neg (by simp [new]), if_neg (Nat.not_le.2 room),
    if_neg (by simpa using allowed), if_neg (by simp [canClaim, claims])]
  rfl

end OpenVisit

/-! ### RESTORE VISIT (R174) -/

/-- The reserve of a restored visit made, and its bank referenced (R139, R145). -/
def restoreReserved (v : Visit) (s : State) : State :=
  let s := if v.account = 0 then s else reserve v.account v.reserve s
  match v.bank with
  | some b => refBank b s
  | none => s

theorem restoreReserved_rest (v : Visit) (s : State) :
    restoreReserved v s = { s with tables := (restoreReserved v s).tables } := by
  unfold restoreReserved
  split <;> split <;> rfl

theorem findAccount_restoreReserved {v : Visit} {x : Account} {s : State} (account : v.account ≠ 0)
    (found : findAccount s v.account = some x) : findAccount (restoreReserved v s) v.account
      = some { x with reserved := x.reserved + v.reserve, visits := x.visits + 1 } := by
  have reserved : findAccount (reserve v.account v.reserve s) v.account
      = some { x with reserved := x.reserved + v.reserve, visits := x.visits + 1 } :=
    findAccount_modAccount (fun _ => rfl) found
  unfold restoreReserved
  rw [if_neg account]
  split <;> exact reserved

theorem restoreReserved_refs {v : Visit} {b : BankId} (s : State) (bank : v.bank = some b) :
    ((restoreReserved v s).tables.banks[b]).refs = (s.tables.banks[b]).refs + 1 := by
  have banks : (if v.account = 0 then s else reserve v.account v.reserve s).tables.banks = s.tables.banks := by
    split <;> rfl
  unfold restoreReserved
  rw [bank]
  simp only [refBank, modTables_tables, Fin.getElem_fin, getElem_alter_self, banks]

/-- A visit past ADMITTED gives back the claim of its first weight (R174). -/
theorem restoreInto_eq {v : Visit} {s : State} (past : v.state ≠ .admitted) : restoreInto v s
    = releaseClaims 1 (modVisit v.number (fun x => { x with claims := x.claims - 1 }) (visitJoined v (restoreReserved v s))) :=
  if_neg past

theorem restoreInto_spec {v : Visit} {s : State} (past : v.state ≠ .admitted) (new : findVisit s v.number = none)
    (room : 4 ≤ unclaimedFree s) :
    findVisit (restoreInto v s) v.number = some { v with claims := v.claims - 1 - 1 }
      ∧ (restoreInto v s).port.claims = s.port.claims + 2 ∧ (restoreInto v s).visits.next = s.visits.next
      ∧ (∀ b, v.bank = some b → ((restoreInto v s).tables.banks[b]).refs = (s.tables.banks[b]).refs + 1)
      ∧ (∀ x, v.account ≠ 0 → findAccount s v.account = some x → findAccount (restoreInto v s) v.account
          = some { x with reserved := x.reserved + v.reserve, visits := x.visits + 1 }) := by
  have rest := restoreReserved_rest v s
  obtain ⟨tables, next, claims, -, -, joined⟩ := visitJoined_spec (v := v) (s := restoreReserved v s) (by rw [rest]; exact room)
  have found := joined (by rw [rest]; exact new)
  obtain ⟨owed, counter⟩ : (restoreReserved v s).port.claims = s.port.claims
      ∧ (restoreReserved v s).visits.next = s.visits.next := by
    rw [rest]
    exact ⟨rfl, rfl⟩
  rw [restoreInto_eq past]
  generalize visitJoined v (restoreReserved v s) = u at tables next claims found
  refine ⟨findVisit_modVisit (f := fun x => { x with claims := x.claims - 1 }) (fun _ => rfl) found, ?_, next.trans counter,
    fun b bank => ?_, fun x account known => ?_⟩
  · show u.port.claims - 1 = s.port.claims + 2
    omega
  · show (u.tables.banks[b]).refs = _
    rw [tables]
    exact restoreReserved_refs s bank
  · exact (findAccount_of_tables (t := u) tables _).trans (findAccount_restoreReserved account known)

section RestoreVisit
variable {s : State} {n account m source : Nat} {id : Text} {value gross : Option Int} {reserve_ : Int} {opened : Stamp}
  {byOffice attendance : Bool}

/-- The values of a RESTORE VISIT in a state, with its bank and first weight. -/
def restoreValues (n : Nat) (id : Text) (account m source : Nat) (value : Option Int) (reserve_ : Int) (st : Nat)
    (opened : Stamp) (byOffice attendance : Bool) (bank first : Option Value) (gross : Option Int) : List (Option Value) :=
  [some (.num n), some (.text id), some (.num account), some (.num m), some (.num source), value.map .int,
    some (.int reserve_), some (.num st), some (.time opened), some (.flag byOffice), some (.flag attendance), bank, first,
    gross.map .int]

/-- A reserve out of its range is RANGE, whatever the tare and the state given. -/
theorem restoreVisit_badReserve (tag : Byte) (st : Nat) (bank first : Option Value)
    (bad : restoredReserveFits s account reserve_ = false) :
    restoreVisit tag (restoreValues n id account m source value reserve_ st opened byOffice attendance bank first gross) s
      = reply .range s := by
  unfold restoreVisit restoreValues
  dsimp only
  split
  · exact if_pos (by simp [bad])
  · rfl

/-- The visit RESTORE VISIT writes in ON_SITE. -/
def restoredVisit (s : State) (n : Nat) (id : Text) (account m : Nat) (tare : TareSource) (reserve_ : Int) (opened : Stamp)
    (byOffice attendance : Bool) (b : BankId) (w : WeightRecord) (gross : Option Int) : Visit :=
  { freshVisit s n id account m reserve_.toNat tare none attendance byOffice with
    bank := some b, first := some w, maxGross := gross.map Int.toNat, state := .onSite, opened := opened, restored := true }

theorem restoreVisit_restores (tag : Byte) {b : BankId} {w : WeightRecord} {tare : TareSource} (n1 : 1 ≤ n)
    (valid : validId id = true) (low : account ≤ 999999) (m1 : 1 ≤ m) (given : tareOf source value = some tare)
    (fits : restoredReserveFits s account reserve_ = true) (grossFits : ∀ g ∈ gross, 1 ≤ g ∧ g ≤ 150000)
    (weight : restoredWeightFits w = true) (new : findVisit s n = none) (alone : visitOf s id = none)
    (room : s.visits.table.length < Config.visitSlots) (known : account ≠ 0 → (findAccount s account).isSome = true)
    (claims : 4 ≤ unclaimedFree s) :
    restoreVisit tag (restoreValues n id account m source value reserve_ 2 opened byOffice attendance (some (.num b.val))
      (some (.weightRecord w)) gross) s
      = reply .done (restoreInto (restoredVisit s n id account m tare reserve_ opened byOffice attendance b w gross) s) := by
  have inRange : within 1 150000 gross = true := by
    cases gross with
    | none => rfl
    | some g => simpa [within] using grossFits g rfl
  simp only [restoreVisit, restoreValues, asInt_map, given, visitStateOf, asNum, Option.map_some, bankOf_val]
  rw [if_neg (by simp [valid, inRange, fits]; omega), if_neg (by simp), if_neg (by simp [weight]),
    if_neg (by simp [new, alone]), if_neg (Nat.not_le.2 room), if_neg (by simpa [Option.isSome_iff_ne_none] using known),
    if_neg (by simp [canClaim, claims])]
  rfl

end RestoreVisit

/-! ### SET TARE TOLERANCE (R175) -/

theorem setTareTolerance_range (tag : Byte) {n : Nat} (s : State) (outside : n < 1 ∨ 20 < n) :
    setTareTolerance tag [some (.num n)] s = reply .range s := if_pos outside

theorem setTareTolerance_sets (tag : Byte) {n : Nat} (s : State) (low : 1 ≤ n) (high : n ≤ 20) :
    setTareTolerance tag [some (.num n)] s = reply .done (modVisits (fun t => { t with tolerance := n }) s) :=
  if_neg (by omega)

end Sys2Proof.Machine

namespace Sys2Proof.Certificates
open Sys2Proof.Machine

/-- Settles O54: each request at its owner, and the visit opened or restored as it joins the table. -/
theorem visitsOpenedByTheOffice : Obligations.VisitsOpenedByTheOffice := by
  unfold Obligations.VisitsOpenedByTheOffice
  refine ⟨fun s tag id m source value permit h tare given unstored valid m1 => ⟨fun held => ?_, fun new room =>
      ⟨fun tariff => ?_, fun row tariff allowed claims => ?_⟩⟩,
    fun s tag n account m source id value gross reserve_ opened byOffice attendance b w tare h n1 valid low m1 given
      reserve1 reserve2 walkIn council grossFits weight new alone room known claims => ?_,
    fun s tag n account m source st id value gross reserve_ opened byOffice attendance bank first h bad => ?_,
    fun s tag n h => ⟨fun ⟨low, high⟩ => ?_, fun outside => ?_⟩⟩
  · exact answers_of_owner rfl h (openWalkIn_held (s := fresh s) tag given unstored valid m1 held)
  · exact answers_of_owner rfl h (openWalkIn_noRow (s := fresh s) tag given unstored valid m1 new room tariff)
  · have owner := openWalkIn_opens (s := fresh s) tag given unstored valid m1 new room tariff allowed claims
    have opens := openVisit_walkIn (build := walkInVisit (fresh s) id m tare) (s := fresh s) rfl rfl
    obtain ⟨tables, next, taken, listed, ⟨r, queued, body⟩, -⟩ := visitJoined_spec
      (v := walkInVisit (fresh s) id m tare (assignVisitNumber (fresh s)))
      (s := modVisits (fun t => { t with next := nextVisitNumber (assignVisitNumber (fresh s)) }) (fresh s)) claims
    rw [opens] at owner
    have run : Answers .openVisit s tag .done (u16 (assignVisitNumber s)) _ := answers_of_owner rfl h owner
    generalize visitJoined _ _ = t at tables next taken listed queued run
    exact ⟨t, run, tables, next, taken, _, listed, rfl, rfl, rfl, rfl, rfl, rfl, rfl, rfl, rfl, rfl,
      rfl, r, queued, body⟩
  · have fits : restoredReserveFits (fresh s) account reserve_ = true :=
      (restoredReserveFits_iff s account reserve_).2 ⟨reserve1, reserve2, walkIn, council⟩
    have owner := restoreVisit_restores (s := fresh s) tag (b := b) (opened := opened) (byOffice := byOffice)
      (attendance := attendance) n1 valid low m1 given fits grossFits weight new alone room known claims
    obtain ⟨found, taken, next, refs, reserved⟩ := restoreInto_spec (s := fresh s)
      (v := restoredVisit (fresh s) n id account m tare reserve_ opened byOffice attendance b w gross)
      (fun same => VisitState.noConfusion same) new claims
    have run : Answers .restoreVisit s tag .done [] _ := answers_of_owner rfl h owner
    generalize restoreInto _ _ = t at found taken next refs reserved run
    exact ⟨t, run, found, taken, next, refs b rfl, reserved⟩
  · refine answers_of_owner rfl h (restoreVisit_badReserve (s := fresh s) tag st _ _ (Bool.eq_false_iff.2 fun fits => ?_))
    obtain ⟨low, high, walkIn, council⟩ := (restoredReserveFits_iff s account reserve_).1 fits
    rcases bad with below | above | ⟨zero, some_⟩ | ⟨x, found, kind, some_⟩
    · omega
    · omega
    · exact some_ (walkIn zero)
    · exact some_ (council x found kind)
  · exact answers_of_owner rfl h (setTareTolerance_sets tag (fresh s) low high)
  · exact answers_of_owner rfl h (setTareTolerance_range tag (fresh s) outside)

end Sys2Proof.Certificates

namespace Sys2Proof.Machine

/-! ## Visits closed (R141, R145, R167) -/

/-- The account's share of a visit closed given up, and its bank (R141, R145). -/
def closeReleased (v : Visit) (s : State) : State :=
  let s := if v.account = 0 then s else release v.account v.reserve v.posted s
  match v.bank with
  | some b => unrefBank b s
  | none => s

theorem closeReleased_rest (v : Visit) (s : State) : closeReleased v s = { s with tables := (closeReleased v s).tables } := by
  unfold closeReleased
  split <;> split <;> rfl

theorem findAccount_closeReleased {v : Visit} {x : Account} {s : State} (account : v.account ≠ 0)
    (found : findAccount s v.account = some x) : findAccount (closeReleased v s) v.account
      = some { x with reserved := if v.posted then x.reserved else x.reserved - v.reserve, visits := x.visits - 1 } := by
  have released : findAccount (release v.account v.reserve v.posted s) v.account
      = some { x with reserved := if v.posted then x.reserved else x.reserved - v.reserve, visits := x.visits - 1 } :=
    findAccount_modAccount (f := fun a : Account =>
      { a with reserved := if v.posted then a.reserved else a.reserved - v.reserve, visits := a.visits - 1 })
      (fun _ => rfl) found
  unfold closeReleased
  rw [if_neg account]
  split <;> exact released

theorem closeReleased_refs {v : Visit} {b : BankId} (s : State) (bank : v.bank = some b) :
    ((closeReleased v s).tables.banks[b]).refs = (s.tables.banks[b]).refs - 1 := by
  have banks : (if v.account = 0 then s else release v.account v.reserve v.posted s).tables.banks = s.tables.banks := by
    split <;> rfl
  unfold closeReleased
  rw [bank]
  simp only [unrefBank, modTables_tables, Fin.getElem_fin, getElem_alter_self, banks]

theorem closeVisit_eq {v : Visit} {c : ClosedVisit} {k : Option Nat} {f : Option TicketFailure} {s : State}
    (found : findVisit s v.number = some v) (closed : closedOf v k f = some c) : closeVisit v.number k f s
      = removeVisit v.number (closeReleased v (spendVisitClaim v.number (.visitClosed c) s)) := by
  unfold closeVisit
  rw [found]
  dsimp only
  rw [closed]
  rfl

/-- A visit closed leaves the table; its record is paid by a claim, and account and bank are given up (R156, R167). -/
theorem closeVisit_spec {v : Visit} {c : ClosedVisit} {k : Option Nat} {f : Option TicketFailure} {s : State}
    (found : findVisit s v.number = some v) (closed : closedOf v k f = some c) (claims : 1 ≤ s.port.claims) :
    (closeVisit v.number k f s).tickets = s.tickets ∧ (closeVisit v.number k f s).port.claims = s.port.claims - 1
      ∧ (closeVisit v.number k f s).port.records
          = s.port.records ++ [{ number := s.port.nextRecord, time := stamp s, body := .visitClosed c }]
      ∧ (∀ x, v.account ≠ 0 → findAccount s v.account = some x → findAccount (closeVisit v.number k f s) v.account
          = some { x with reserved := if v.posted then x.reserved else x.reserved - v.reserve, visits := x.visits - 1 })
      ∧ (∀ b, v.bank = some b →
          ((closeVisit v.number k f s).tables.banks[b]).refs = (s.tables.banks[b]).refs - 1) := by
  set w := modVisit v.number (fun x => { x with claims := x.claims - 1 }) s with hw
  obtain ⟨frame, spent, records⟩ := spendClaim_spec (.visitClosed c) w claims
  have paid : spendVisitClaim v.number (.visitClosed c) s = spendClaim (.visitClosed c) w := rfl
  have tickets : (spendClaim (.visitClosed c) w).tickets = s.tickets := by rw [frame.rest]; rfl
  rw [closeVisit_eq found closed, paid]
  generalize spendClaim (.visitClosed c) w = u at frame spent records tickets
  have rest := closeReleased_rest v u
  refine ⟨?_, ?_, ?_, fun x account known => ?_, fun b bank => ?_⟩
  · show (closeReleased v u).tickets = s.tickets
    rw [rest]
    exact tickets
  · show (closeReleased v u).port.claims = s.port.claims - 1
    rw [rest]
    exact spent
  · show (closeReleased v u).port.records = _
    rw [rest]
    exact records
  · exact findAccount_closeReleased account ((findAccount_of_tables frame.tables _).trans known)
  · refine (closeReleased_refs u bank).trans ?_
    rw [frame.tables]
    rfl

/-! ## What a lane told its ticket's outcome leaves of the tickets and the visits (R107, R112, R113) -/

/-- The claims, the records queued, the tickets but for the command state of a printer, and the visits that are not there. -/
structure TicketKept (s t : State) : Prop where
  claims : t.port.claims = s.port.claims
  records : ∀ r ∈ s.port.records, r ∈ t.port.records
  handOver : t.tickets.handOver = s.tickets.handOver
  printers : ∀ l : LaneId, (t.tickets.printers[l]).core = (s.tickets.printers[l]).core
  visits : ∀ n, findVisit s n = none → findVisit t n = none

namespace TicketKept
variable {s t u : State}

theorem refl (s : State) : TicketKept s s := ⟨rfl, fun _ => id, rfl, fun _ => rfl, fun _ => id⟩

theorem trans (h : TicketKept s t) (k : TicketKept t u) : TicketKept s u :=
  ⟨k.claims.trans h.claims, fun r hr => k.records r (h.records r hr), k.handOver.trans h.handOver,
    fun l => (k.printers l).trans (h.printers l), fun n hn => k.visits n (h.visits n hn)⟩

/-- A change of other blocks. -/
theorem of_eq (tickets : t.tickets = s.tickets) (port : t.port = s.port) (visits : t.visits = s.visits) : TicketKept s t :=
  ⟨by rw [port], fun _ hr => port ▸ hr, by rw [tickets], fun l => by rw [tickets],
    fun n hn => (findVisit_of_visits visits n).trans hn⟩

theorem offered (k : OfferFrame s t) : TicketKept s t where
  claims := k.claims
  records _ hr := k.records ▸ hr
  handOver := by rw [k.tickets]
  printers := k.printers
  visits n hn := (findVisit_of_visits k.visits n).trans hn

theorem queued (body : RecordBody) (s : State) : TicketKept s (queueRecord body s) := by
  obtain ⟨frame, claims, -⟩ := queueRecord_spec body s
  have tickets : (queueRecord body s).tickets = s.tickets := by rw [frame.rest]
  exact ⟨claims, fun _ hr => mem_queueRecord hr, by rw [tickets], fun l => by rw [tickets],
    fun n hn => (findVisit_of_visits frame.visits n).trans hn⟩

/-- Lane work keeps the tickets and opens no visit. -/
theorem laneOps (s : State) : LaneOps (TicketKept s) where
  capture _ h := h.trans (.of_eq rfl rfl rfl)
  lane _ h := h.trans (.of_eq rfl rfl rfl)
  station h := h.trans (.of_eq rfl rfl rfl)
  bridge h := h.trans (.of_eq rfl rfl rfl)
  offer _ h := h.trans (.offered (offer_frame _ _ _ _))
  record h := h.trans (.queued _ _)

theorem laneDrops (n : Nat) (l : LaneId) (s : State) : TicketKept s (laneDrops n l s) :=
  ⟨rfl, fun _ => id, rfl, fun _ => rfl, (ResetFrame.modVisit n s fun v => by split <;> rfl).visits⟩

theorem dropVisit (l : LaneId) (s : State) : TicketKept s (dropVisit l s) := by
  unfold Machine.dropVisit
  split
  · have given : TicketKept s (modLane l (fun x => { x with visit := none }) s) := .of_eq rfl rfl rfl
    exact given.trans (laneDrops _ l _)
  · exact .refl s

/-- PRINT_FAILED is no hold that the visit unit is told. -/
theorem printFailed (l : LaneId) (st : LaneState) (s : State) : TicketKept s (holdLane l .printFailed st s) := by
  have ops := laneOps s
  unfold holdLane
  extract_lets u v w
  have still : TicketKept s w := ops.settleStill (ops.lane (fun _ => ⟨rfl, rfl, rfl, rfl⟩) (ops.withdraw (.refl s)))
  split
  · rw [if_neg (by decide)]
    exact still
  · exact still

theorem actOutcome (l : LaneId) (printed : Bool) (s : State) : TicketKept s (actOutcome l printed s) := by
  have dropped := dropVisit l s
  unfold Machine.actOutcome
  dsimp only
  split
  · exact (laneOps s).enterPlain dropped
  · exact dropped.trans (printFailed l .releasing _)

theorem told (l : LaneId) (printed : Bool) (s : State) : TicketKept s (ticketTold l printed s) := by
  unfold ticketTold
  split
  · exact actOutcome l printed s
  · exact .of_eq rfl rfl rfl
  · exact .of_eq rfl rfl rfl
  · exact .refl s

end TicketKept

/-! ## Tickets that end (R166, R185 to R188) -/

/-- A change of a printer is the change it makes of what stands there. -/
theorem modPrinter_congr {l : LaneId} {f g : Printer → Printer} {s : State}
    (same : f s.tickets.printers[l] = g s.tickets.printers[l]) : modPrinter l f s = modPrinter l g s := by
  simp only [modPrinter, alter, same]

/-- The head ticket has left its printer's queue, and the last job carries its outcome (R188). -/
def ticketGone (l : LaneId) (t : Ticket) (f : Option TicketFailure) (s : State) : State :=
  modPrinter l (fun p => { p with
    queue := p.queue.tail, timer := none, retry := none, outstanding := false,
    lastJob := some { kind := t.kind, number := t.number, jobTag := t.jobTag, failure := f } }) s

theorem ticketGone_printer (l : LaneId) (t : Ticket) (f : Option TicketFailure) (s : State) :
    (ticketGone l t f s).tickets.printers[l] = { s.tickets.printers[l] with
      queue := (s.tickets.printers[l]).queue.tail, timer := none, retry := none, outstanding := false,
      lastJob := some { kind := t.kind, number := t.number, jobTag := t.jobTag, failure := f } } :=
  getElem_alter_self ..

/-- With no visit waiting for the printer, a freed place stays free (R179). -/
theorem fillPlace_none {l : LaneId} {s : State} (none_ : ∀ x ∈ s.tickets.handOver, x.2 ≠ l) : fillPlace l s = s := by
  unfold fillPlace
  rw [List.find?_eq_none.2 fun x hx => by simpa using none_ x hx]

theorem startHead_empty {l : LaneId} {s : State} (empty : (s.tickets.printers[l]).queue = []) : startHead l s = s := by
  unfold startHead runHead
  rw [empty]

/-- A ticket's end with nothing behind it: no ticket takes the place and none starts. -/
theorem ticketEnd_alone {l : LaneId} {f : Option TicketFailure} {s u : State} (ended : endTicket l f s = fillPlace l u)
    (empty : (u.tickets.printers[l]).queue = []) (none_ : ∀ x ∈ u.tickets.handOver, x.2 ≠ l) : ticketEnd l f s = u := by
  rw [ticketEnd, ended, fillPlace_none none_, startHead_empty empty]

theorem ticketEnd_copy {l : LaneId} {t : Ticket} {f : Option TicketFailure} {s : State}
    (queue : (s.tickets.printers[l]).queue = [t]) (kind : t.kind = .copy) (none_ : ∀ x ∈ s.tickets.handOver, x.2 ≠ l) :
    ticketEnd l f s = ticketGone l t f s := by
  refine ticketEnd_alone ?_ ?_ none_
  · unfold endTicket
    rw [queue]
    dsimp only
    rw [kind]
    simp only [ticketGone, kind]
  · rw [ticketGone_printer, queue]
    rfl

/-- The lane that carried a visit is told its ticket's outcome, if one did (R188). -/
def carrierTold (lane : Option LaneId) (printed : Bool) (s : State) : State :=
  match lane with
  | some k => ticketTold k printed s
  | none => s

theorem carrierTold_kept (lane : Option LaneId) (printed : Bool) (s : State) : TicketKept s (carrierTold lane printed s) := by
  cases lane with
  | some k => exact .told k printed s
  | none => exact .refl s

theorem endTicket_original {l : LaneId} {t : Ticket} {rest : List Ticket} {f : Option TicketFailure} {s : State}
    (queue : (s.tickets.printers[l]).queue = t :: rest) (kind : t.kind = .original) : endTicket l f s
      = fillPlace l (carrierTold ((findVisit s t.content.visit).bind (·.lane)) f.isNone
          (closeVisit t.content.visit t.number f (ticketGone l t f s))) := by
  unfold endTicket
  rw [queue]
  dsimp only
  rw [kind]
  simp only [ticketGone, kind] <;> rfl

/-- What the end of an ORIGINAL leaves: the visit closed with its record, and the printer idle with its last job. -/
def OriginalEnded (s : State) (l : LaneId) (n : Nat) (x : ClosedVisit) (job : LastJob) (u : State) : Prop :=
  findVisit u n = none ∧ u.port.claims = s.port.claims - 1 ∧ (∃ r ∈ u.port.records, r.body = .visitClosed x)
    ∧ (u.tickets.printers[l]).queue = [] ∧ (u.tickets.printers[l]).timer = none
    ∧ (u.tickets.printers[l]).lastJob = some job

theorem ticketEnd_original {l : LaneId} {t : Ticket} {f : Option TicketFailure} {v : Visit} {x : ClosedVisit} {s : State}
    {tag : Option Nat} (queue : (s.tickets.printers[l]).queue = [t]) (kind : t.kind = .original)
    (none_ : ∀ x ∈ s.tickets.handOver, x.2 ≠ l) (found : findVisit s v.number = some v) (visit : t.content.visit = v.number)
    (claims : 1 ≤ s.port.claims) (job : t.jobTag = tag) (closed : closedOf v t.number f = some x) :
    OriginalEnded s l v.number x { kind := .original, number := t.number, jobTag := tag, failure := f }
      (ticketEnd l f s) := by
  subst job
  obtain ⟨tickets, spent, records, -, -⟩ := closeVisit_spec (s := ticketGone l t f s) found closed claims
  have removed := closeVisit_findVisit v.number t.number f (ticketGone l t f s)
  have queued : ∃ r ∈ (closeVisit v.number t.number f (ticketGone l t f s)).port.records, r.body = .visitClosed x :=
    ⟨_, records ▸ List.mem_append_right _ (List.mem_singleton_self _), rfl⟩
  have ended := endTicket_original (f := f) queue kind
  rw [visit] at ended
  generalize closeVisit v.number t.number f (ticketGone l t f s) = w at tickets spent queued removed ended
  have kept := carrierTold_kept ((findVisit s v.number).bind (·.lane)) f.isNone w
  generalize carrierTold _ f.isNone w = u at kept ended
  have core : (u.tickets.printers[l]).core = ((ticketGone l t f s).tickets.printers[l]).core := tickets ▸ kept.printers l
  rw [ticketGone_printer, queue, kind] at core
  have empty : (u.tickets.printers[l]).queue = [] := (congrArg Printer.queue core :)
  rw [ticketEnd_alone ended empty (by rw [kept.handOver, tickets]; exact none_)]
  obtain ⟨r, member, body⟩ := queued
  exact ⟨kept.visits _ removed, kept.claims.trans spent, ⟨r, kept.records r member, body⟩, empty,
    (congrArg Printer.timer core :), (congrArg Printer.lastJob core :)⟩

/-! ## The four commands that end a ticket, and the print retry (R185 to R187) -/

section Ends
variable {s : State} {l : LaneId} {t : Ticket} {rest : List Ticket}

theorem headPrints_awaiting (queue : (s.tickets.printers[l]).queue = t :: rest) (stage : t.stage = .awaitingDone) :
    headPrints s l = true := by
  unfold headPrints
  rw [queue]
  dsimp only
  rw [stage]
  rfl

theorem doneReport_ends {tag : Nat} (queue : (s.tickets.printers[l]).queue = t :: rest) (stage : t.stage = .awaitingDone)
    (answered : t.parts.length ≤ t.pos) (job : t.jobTag = some tag) : doneReport l tag s = ticketEnd l none s := by
  unfold doneReport
  rw [queue]
  exact if_pos (by simp [headPrints_awaiting queue stage, answered, job])

theorem printerTrouble_ends (queue : (s.tickets.printers[l]).queue = t :: rest) (stage : t.stage = .awaitingDone)
    (f : TicketFailure) : printerTrouble l f s = ticketEnd l (some f) s :=
  if_pos (headPrints_awaiting queue stage)

theorem exec_done {tag : Nat} {a : NodeId} (queue : (s.tickets.printers[l]).queue = t :: rest)
    (stage : t.stage = .awaitingDone) (answered : t.parts.length ≤ t.pos) (job : t.jobTag = some tag)
    (report : ReportAt s (.done tag) a (.printer l)) :
    exec .done s = .next (settleReports (ticketEnd l none (reportTaken s))) :=
  takeHead_reportAt (pick := pickDone) report rfl (doneReport_ends (s := reportTaken s) queue stage answered job)

theorem exec_paperOut {k : Nat} {a : NodeId} (queue : (s.tickets.printers[l]).queue = t :: rest)
    (stage : t.stage = .awaitingDone) (report : ReportAt s (.paperOut k) a (.printer l)) :
    exec .paperOut s = .next (settleReports (ticketEnd l (some .paperOut) (reportTaken s))) :=
  takeHead_reportAt (pick := pickPaperOut) report rfl (printerTrouble_ends (s := reportTaken s) queue stage .paperOut)

theorem exec_jam {k : Nat} {a : NodeId} (queue : (s.tickets.printers[l]).queue = t :: rest)
    (stage : t.stage = .awaitingDone) (report : ReportAt s (.jam k) a (.printer l)) :
    exec .jam s = .next (settleReports (ticketEnd l (some .jam) (reportTaken s))) :=
  takeHead_reportAt (pick := pickJam) report rfl (printerTrouble_ends (s := reportTaken s) queue stage .jam)

theorem exec_printTimer (powered : s.powered = true) (runs : (s.tickets.printers[l]).timer.isSome = true) :
    exec (.printTimerExpiry l) s = .next (ticketEnd l (some .timeout) (fresh s)) :=
  (act_of_powered powered).trans (congrArg _ (if_pos runs))

/-- A command of a head ticket is a PRINT LINE or the PRINT END. -/
theorem Ticket.command_ne_driveOff (t : Ticket) : t.command ≠ .driveOff := by
  unfold Ticket.command
  split <;> simp

/-- The queue takes the head ticket's command (R185). -/
theorem offerPart_taken {a : NodeId} {x : Serial} (queue : (s.tickets.printers[l]).queue = t :: rest)
    (node : (roleOf s (.printer l)).node = some (a, x)) (active : (s.bus.nodes[a]).state = .active)
    (fits : t.command.payload.length ≤ ((s.bus.nodes[a]).desc.map (·.maxPayload)).getD 32) (room : s.bus.queue.length < 16) :
    offerPart l s = (modPrinter l (fun p => { p with outstanding := true }) (modBus (fun y => { y with queue := y.queue
      ++ [{ node := a, frame := t.command, origin := .ticket l (t.jobTag.getD 0), sent := false }] }) s), none) := by
  unfold offerPart
  rw [queue, node]
  dsimp only
  rw [offer_taken active fits t.command_ne_driveOff room]

/-- The retry timer of a printer has run out. -/
def retryEnded (l : LaneId) (s : State) : State := modPrinter l (fun p => { p with retry := none }) s

theorem retryEnded_queue (l : LaneId) (s : State) :
    ((retryEnded l s).tickets.printers[l]).queue = (s.tickets.printers[l]).queue :=
  (congrArg Printer.queue (getElem_alter_self s.tickets.printers l fun p => { p with retry := none }) :)

theorem printRetry_offers {a : NodeId} {x : Serial} {n : Nat} (runs : (s.tickets.printers[l]).retry = some n)
    (queue : (s.tickets.printers[l]).queue = t :: rest) (node : (roleOf s (.printer l)).node = some (a, x))
    (active : (s.bus.nodes[a]).state = .active)
    (fits : t.command.payload.length ≤ ((s.bus.nodes[a]).desc.map (·.maxPayload)).getD 32) (room : s.bus.queue.length < 16) :
    printRetry l s = modPrinter l (fun p => { p with retry := none, outstanding := true })
      (modBus (fun y => { y with queue := y.queue
        ++ [{ node := a, frame := t.command, origin := .ticket l (t.jobTag.getD 0), sent := false }] }) s) := by
  have taken := offerPart_taken (s := retryEnded l s) ((retryEnded_queue l s).trans queue) node active fits room
  unfold printRetry offerOrEnd
  rw [if_pos (by rw [runs]; rfl), show modPrinter l (fun p => { p with retry := none }) s = retryEnded l s from rfl, taken]
  simp only [retryEnded, modPrinter, modBus, alter_alter]

end Ends

end Sys2Proof.Machine

namespace Sys2Proof.Certificates
open Sys2Proof.Machine

/-- Settles O31: the four commands each reach the ticket's end, which for an ORIGINAL closes its visit. -/
theorem printingGoesOnAndEnds : Obligations.PrintingGoesOnAndEnds := by
  unfold Obligations.PrintingGoesOnAndEnds
  refine ⟨fun s l t rest a x n powered runs queue node active fits room => ?_,
    fun s l t tag queue kind stage answered job none_ => ?_,
    fun s l t tag v queue kind stage answered job none_ found visit claims => ?_,
    fun s v c k f found closed claims => ?_⟩
  · exact (act_of_powered powered).trans
      (congrArg _ (printRetry_offers (s := fresh s) runs queue node active fits room))
  · intro gone
    have ends : ∀ (f : Option TicketFailure) (u : State), u.tickets = s.tickets → ticketEnd l f u = gone f u := by
      intro f u tickets
      rw [← tickets] at queue none_
      rw [ticketEnd_copy queue kind none_]
      exact modPrinter_congr (by rw [queue, kind, job]; rfl)
    refine ⟨fun a report => ?_, fun a k report => ?_, fun a k report => ?_, fun powered runs => ?_⟩
    · exact (exec_done queue stage answered job report).trans (by rw [ends none (reportTaken s) rfl])
    · exact (exec_paperOut queue stage report).trans (by rw [ends (some .paperOut) (reportTaken s) rfl])
    · exact (exec_jam queue stage report).trans (by rw [ends (some .jam) (reportTaken s) rfl])
    · exact (exec_printTimer powered runs).trans (by rw [ends (some .timeout) (fresh s) rfl])
  · intro ends
    have ended := fun (f : Option TicketFailure) (x : ClosedVisit) =>
      ticketEnd_original (f := f) (x := x) (s := reportTaken s) queue kind none_ found visit claims job
    exact ⟨fun a report x closed => ⟨_, exec_done queue stage answered job report, ended none x closed⟩,
      fun a k report x closed => ⟨_, exec_paperOut queue stage report, ended (some .paperOut) x closed⟩,
      fun a k report x closed => ⟨_, exec_jam queue stage report, ended (some .jam) x closed⟩,
      fun powered runs x closed => ⟨_, exec_printTimer powered runs,
        ticketEnd_original (s := fresh s) queue kind none_ found visit claims job closed⟩⟩
  · obtain ⟨-, spent, records, account, bank⟩ := closeVisit_spec found closed claims
    exact ⟨closeVisit_findVisit _ _ _ _, spent, ⟨_, rfl, rfl, records⟩, account, bank⟩

end Sys2Proof.Certificates

namespace Sys2Proof.Machine

/-! ## Properties of the port and of the waiting commands -/

/-- A property of states that reads the port and the waiting commands alone, and is kept by what the parts do to the port:
make frames ready, queue records, take, spend and give back claims, and end pass-through commands. -/
structure PortOps (P : State → Prop) : Prop where
  same : ∀ {s t : State}, P s → t.pending = s.pending → t.port = s.port → P t
  offer : ∀ {a f o s}, P s → P (offer a f o s).1
  record : ∀ {body s}, P s → P (queueRecord body s)
  spendClaim : ∀ {body s}, P s → P (spendClaim body s)
  takeClaims : ∀ {k s}, P s → P (takeClaims k s)
  releaseClaims : ∀ {k s}, P s → P (releaseClaims k s)
  ready : ∀ {f s}, P s → P (makeReady f s)
  passLeaves : ∀ {left s}, P s → P (modPort (fun p => { p with pass := left }) s)

/-- The work of the parts and the bridge samples do no more to the port. -/
theorem PortOps.sampleOps {P : State → Prop} (h : PortOps P) : SampleOps P where
  capture _ hs := h.same hs rfl rfl
  lane _ hs := h.same hs rfl rfl
  station hs := h.same hs rfl rfl
  bridge hs := h.same hs rfl rfl
  offer _ hs := h.offer hs
  record hs := h.record hs
  account hs := h.same hs rfl rfl
  refBank hs := h.same hs rfl rfl
  unrefBank hs := h.same hs rfl rfl
  visit _ hs := h.same hs rfl rfl
  removeVisit hs := h.same hs rfl rfl
  nextVisit hs := h.same hs rfl rfl
  visitOpens _ hs := h.same hs rfl rfl
  takeClaims hs := h.takeClaims hs
  releaseClaims hs := h.releaseClaims hs
  spendClaim hs := h.spendClaim hs
  printer _ hs := h.same hs rfl rfl
  ticketJoins _ hs := h.same hs rfl rfl
  tickets _ hs := h.same hs rfl rfl
  ticketWrite {k s} hs := by
    rcases askWriteBehindReset_cases (.ticket k) s with ⟨-, -, hq⟩ | ⟨-, hq⟩ <;> rw [hq] <;> exact h.same hs rfl rfl
  status hs := h.same hs rfl rfl
  judge {b s} hs := by
    obtain ⟨r, hr⟩ := judge_eq b s
    rw [hr]
    exact h.same hs rfl rfl
  samples _ hs := h.same hs rfl rfl
  planNode hs := h.same hs rfl rfl
  role hs := h.same hs rfl rfl
  ready hs := h.ready hs
  passLeaves _ hs := h.passLeaves hs
  node hs := h.same hs rfl rfl
  queue _ hs := h.same hs rfl rfl
  reports _ hs := h.same hs rfl rfl
  reportJoins _ hs := h.same hs rfl rfl
  scan hs := h.same hs rfl rfl
  enumeration hs := h.same hs rfl rfl
  sendBus hs := h.same hs rfl rfl
  engine hs := h.same hs rfl rfl
  session hs := h.same hs rfl rfl

/-! ## Properties of the records, the claims and the waiting commands (section 9.4) -/

/-- A property of states that reads the records queued, the claims and the waiting commands, and of the first two no more than
that they are few: it is kept wherever neither grows, and by the three operations that let one of them grow. Unlike the
properties of `ExecOps` it may speak of the commands that wait, so that its commands are gone through here. -/
structure RecordOps (P : State → Prop) : Prop where
  keeps : ∀ {s t : State}, P s → t.pending = s.pending → t.port.records.length ≤ s.port.records.length →
    t.port.claims ≤ s.port.claims → P t
  record : ∀ {body s}, P s → P (queueRecord body s)
  spendClaim : ∀ {body s}, P s → P (spendClaim body s)
  takeClaims : ∀ {k s}, P s → P (takeClaims k s)

namespace RecordOps
variable {P : State → Prop} {s : State} (h : RecordOps P)
include h

theorem same {t : State} (hs : P s) (hq : t.pending = s.pending) (hp : t.port = s.port) : P t :=
  h.keeps hs hq (by rw [hp]) (by rw [hp])

theorem offered {t : State} (hs : P s) (k : OfferFrame s t) : P t :=
  h.keeps hs k.pending (by rw [k.records]) (by rw [k.claims])

theorem askWrite {w} (hs : P s) : P (askWrite w s) := by
  by_cases idle : s.cal.store.inFlight = none
  · rw [askWrite_idle _ idle]
    exact h.same hs rfl rfl
  · rw [askWrite_busy _ idle]
    exact h.same hs rfl rfl

theorem writeEnds (hs : P s) : P (writeEnds s) := by
  obtain ⟨w, asked, -, he⟩ := writeEnds_eq s
  rw [he]
  exact h.same hs rfl rfl

theorem portOps : PortOps P where
  same := h.same
  offer hs := h.offered hs (offer_frame _ _ _ _)
  record hs := h.record hs
  spendClaim hs := h.spendClaim hs
  takeClaims hs := h.takeClaims hs
  releaseClaims hs := h.keeps hs rfl le_rfl (Nat.sub_le _ _)
  ready hs := h.offered hs (makeReady_frame _ _)
  passLeaves hs := h.keeps hs rfl le_rfl le_rfl

theorem sampleOps : SampleOps P := h.portOps.sampleOps

/-! ### Owners that set what other blocks hold -/

/-- The owners that write the engine's zero, the open session or a table, and do no work beyond. -/
def writers : List (Byte → List (Option Value) → State → Reply) :=
  [zeroBridge, calZero, calSpan, calCorner, calTrim, putVehicle, dropVehicle, dropAccount, putTariffRow, dropTariffRow]

theorem writer {owner tag vs} (ho : owner ∈ writers) (hs : P s) : P (owner tag vs s).1 := by
  simp only [writers, List.mem_cons, List.not_mem_nil, or_false] at ho
  rcases ho with rfl | rfl | rfl | rfl | rfl | rfl | rfl | rfl | rfl | rfl
  all_goals
    simp only [zeroBridge, calZero, calSpan, calCorner, calTrim, takeStep, putVehicle, dropVehicle, dropAccount,
      putTariffRow, dropTariffRow]
    repeat' split
  all_goals exact h.same hs rfl rfl

theorem putAccount {tag vs} (hs : P s) : P (putAccount tag vs s).1 := by
  unfold Machine.putAccount
  split
  · dsimp only
    split_ifs
    · exact hs
    · exact hs
    · refine h.sampleOps.evaluateOverLimit ?_
      unfold writeAccount
      split <;> exact h.same hs rfl rfl
  · exact hs

theorem requestOps : RequestOps P where
  toCycleOps := h.sampleOps.cycleOps
  port shorter hs := by
    obtain ⟨records, claims, -, -⟩ := shorter _
    exact h.keeps hs rfl records claims.le
  bufferJoins _ hs := h.keeps hs rfl le_rfl le_rfl
  passJoins _ hs := h.keeps hs rfl le_rfl le_rfl
  resetOffered hs := h.offered hs (offer_frame _ _ _ _)
  settings _ hs := h.same hs rfl rfl
  laneSettings hs := h.same hs rfl rfl
  planEntries hs := h.same hs rfl rfl
  clock _ hs := h.same hs rfl rfl
  tolerance hs := h.same hs rfl rfl
  numberWrite hs := h.askWrite hs
  putVehicle hs := h.writer (by simp [writers]) hs
  dropVehicle hs := h.writer (by simp [writers]) hs
  putAccount hs := h.putAccount hs
  dropAccount hs := h.writer (by simp [writers]) hs
  putTariffRow hs := h.writer (by simp [writers]) hs
  dropTariffRow hs := h.writer (by simp [writers]) hs

/-! ### The calibration unit and the store's writes -/

theorem endStep {r} (hs : P s) : P (endStep r s) := h.sampleOps.endStep hs

theorem dropSession (x : Session) (hs : P s) : P (dropSession x s) :=
  h.keeps hs rfl le_rfl (by rw [dropSession_port]; exact Nat.sub_le _ _)

/-- Once a session is out of the way the bridge is judged and its state derived. -/
theorem sessionDropped {b} (x : Session) (hs : P s) : P (deriveBridge b (judge b (Machine.dropSession x s))) :=
  h.sampleOps.deriveBridge (h.sampleOps.judge (h.dropSession x hs))

theorem calBegin {tag vs} (hs : P s) : P (calBegin tag vs s).1 := by
  unfold Machine.calBegin
  split
  · exact hs
  · split
    · extract_lets count
      clear_value count
      split
      · exact hs
      · rename_i b _
        rcases beginCopy (s.cal.store.records[b]) count with _ | work
        · split_ifs <;> exact hs
        · split_ifs
          any_goals exact hs
          exact h.sampleOps.deriveBridge (h.same (h.takeClaims hs) rfl rfl)
    · exact hs

theorem calSetLimits {tag vs} (hs : P s) : P (calSetLimits tag vs s).1 := by
  unfold Machine.calSetLimits
  split
  · exact hs
  · split
    · split
      · exact hs
      · split
        · exact hs
        · split
          · exact hs
          · exact h.sampleOps.deriveBridge (h.same hs rfl rfl)
    · exact hs

theorem calCommit {tag vs} (hs : P s) : P (calCommit tag vs s).1 := by
  unfold Machine.calCommit
  split
  · exact hs
  · split
    · split
      · exact hs
      · split
        · exact hs
        · split_ifs
          any_goals exact hs
          exact h.askWrite (h.sampleOps.session hs)
    · exact hs

theorem calAbort {tag vs} (hs : P s) : P (calAbort tag vs s).1 := by
  unfold Machine.calAbort
  split
  · exact hs
  · split
    · split
      · exact hs
      · split
        · exact hs
        · split
          · exact hs
          · exact h.sessionDropped _ (h.endStep hs)
    · exact hs

theorem lineAbort (hs : P s) : P (lineAbort s) := by
  unfold Machine.lineAbort
  split
  · exact hs
  · rename_i x _
    split
    · exact hs
    · refine h.sessionDropped x ?_
      split
      · exact h.sampleOps.answer (h.endStep hs)
      · exact h.endStep hs

theorem setCalEnable {level} (hs : P s) : P (setCalEnable level s) := by
  have set : P { s with calEnable := level } := h.same hs rfl rfl
  unfold Machine.setCalEnable
  dsimp only
  split
  · exact h.lineAbort set
  · exact set

theorem trackExpiry {b} (hs : P s) : P (trackExpiry b s) := by
  unfold Machine.trackExpiry
  dsimp only
  split
  · split_ifs
    any_goals exact h.same hs rfl rfl
    exact h.record (h.same hs rfl rfl)
  · exact h.same hs rfl rfl

theorem recordWritten (hs : P s) : P (recordWritten s) := by
  unfold Machine.recordWritten
  split
  · exact h.sampleOps.deriveBridge (h.same hs rfl rfl)
  · exact hs

theorem counterWritten (hs : P s) : P (counterWritten s) := by
  have ops := h.sampleOps
  unfold Machine.counterWritten
  split
  · refine LaneOps.foldl (fun _ _ hu => ops.deriveBridge hu) _ (LaneOps.foldl (fun _ _ hu => ops.judge hu) _ ?_)
    have spent : ∀ st body, P (Machine.spendClaim body (Machine.writeEnds (modStore st s))) :=
      fun st body => h.spendClaim (h.writeEnds (h.same hs rfl rfl))
    split
    · exact h.same (ops.answer (spent _ _)) rfl rfl
    · exact h.same (spent _ _) rfl rfl
  · exact hs

theorem ticketNumbered (hs : P s) : P (ticketNumbered s) := by
  have ops := h.sampleOps
  unfold Machine.ticketNumbered
  split
  · exact ops.startHead (ops.startNumbering (ops.modOriginal (ops.tickets (fun _ => rfl) (h.writeEnds (h.same hs rfl rfl)))))
  · exact hs

theorem numberSet (hs : P s) : P (numberSet s) := by
  unfold Machine.numberSet
  split
  · exact h.sampleOps.startNumbering (h.sampleOps.answer (h.writeEnds (h.same hs rfl rfl)))
  · exact hs

/-! ### Resets and lines -/

theorem stopAtReset (hs : P s) : P (stopAtReset s) := by
  unfold Machine.stopAtReset
  split
  · exact h.sampleOps.assertStop hs
  · exact hs

theorem deriveAtReset (hs : P s) : P (deriveAtReset s) :=
  LaneOps.foldl (fun _ _ hu => h.sampleOps.status hu) _ (LaneOps.foldl (fun _ _ hu => h.sampleOps.judge hu) _ hs)

/-- A cold reset starts with no record and no claim (R28). -/
theorem coldValues (hs : P s) : P (coldValues s) := by
  unfold Machine.coldValues
  exact h.stopAtReset (h.record (h.deriveAtReset (h.keeps hs rfl (Nat.zero_le _) (Nat.zero_le _))))

theorem resetTickets (hs : P s) : P (resetTickets s) := h.sampleOps.resetTickets (h.same hs rfl rfl)

/-- A warm reset keeps the records and the claims; the visits it closes spend theirs (R192, R212). -/
theorem warmValues {kind} (hs : P s) : P (warmValues kind s) := by
  unfold Machine.warmValues
  extract_lets u kept v
  have aborted : P u := by
    unfold u abortAtReset
    split
    · exact h.dropSession _ hs
    · exact hs
  have set : P v := h.keeps aborted rfl le_rfl le_rfl
  exact h.stopAtReset (h.resetTickets (h.record (h.deriveAtReset set)))

theorem askReset {kind} (hs : P s) : P (askReset kind s) := by
  unfold Machine.askReset
  split_ifs
  · exact hs
  · exact h.keeps hs rfl le_rfl le_rfl
  · exact h.requestOps.startCycle (h.warmValues hs)

theorem onWrite {kind} {f : State → State} (hf : P (f s)) (hs : P s) : P (onWrite kind f s) := by
  unfold Machine.onWrite settleWrite
  split
  · split
    · exact h.requestOps.startCycle (h.warmValues hf)
    · exact hf
  · exact hs

theorem setYardStop {level} (hs : P s) : P (setYardStop level s) := by
  have set : P { s with yardStop := level } := h.same hs rfl rfl
  unfold Machine.setYardStop
  dsimp only
  split_ifs
  · exact set
  · exact h.sampleOps.assertStop set
  · exact h.sampleOps.deassertStop set

/-! ### The port -/

theorem frameGone (hs : P s) : P (frameGone s) := by
  have gone : P (modPort (fun p => { p with sending := none }) s) := h.keeps hs rfl le_rfl le_rfl
  unfold Machine.frameGone
  split
  · exact hs
  · dsimp only
    split
    · exact h.requestOps.sendNext (h.askReset gone)
    · exact h.requestOps.sendNext gone

theorem silenceExpiry (hs : P s) : P (silenceExpiry s) := by
  have down : P (modPort (fun p => { p with up := false, silence := none, live := none, waiting := [] }) s) :=
    h.keeps hs rfl le_rfl le_rfl
  unfold Machine.silenceExpiry linkDown
  split
  · dsimp only
    split
    · exact h.askReset down
    · exact down
  · exact hs

theorem restart {tag vs} (hs : P s) : P (restart tag vs s).1 := by
  have taken : P (modPort (fun p => { p with restarting := true }) s) := h.keeps hs rfl le_rfl le_rfl
  unfold Machine.restart
  dsimp only
  split
  · exact h.sampleOps.ready taken
  · exact h.askReset taken

/-! ### Every command -/

theorem fresh (hs : P s) : P (fresh s) := h.same hs rfl rfl

/-- A picked report's owner keeps the property. -/
theorem picked {pick : Report → Option (NodeId → Attach → State → State)}
    (hp : pick ∈ [pickBeam, pickStation, pickIdentify, pickKey, pickAttendant, pickHelp, pickDone, pickPaperOut, pickJam])
    (r : Report) (act) (a : NodeId) (x : Attach) (u : State) (hr : pick r = some act) (hu : P u) : P (act a x u) := by
  have ops := h.sampleOps
  simp only [List.mem_cons, List.not_mem_nil, or_false] at hp
  rcases hp with rfl | rfl | rfl | rfl | rfl | rfl | rfl | rfl | rfl
  all_goals
    cases r <;> cases hr
    cases x <;> try exact hu
  · exact ops.beamReport hu
  · exact ops.stationReport hu
  · exact ops.identifyReport hu
  · exact ops.keyReport hu
  · exact ops.attendantReport hu
  · exact ops.record hu
  · exact ops.doneReport hu
  · exact ops.printerTrouble hu
  · exact ops.printerTrouble hu

/-- What a command leads to: a state, with the property kept. -/
def Completes (P : State → Prop) (o : Host.Outcome State Fault Refusal) : Prop := ∃ t, o = .next t ∧ P t

theorem act {f : State → State} (hs : P s) (hf : ∀ {u}, P u → P (f u)) : Completes P (act f s) := by
  unfold Machine.act
  split
  · exact ⟨_, rfl, hf (h.fresh hs)⟩
  · exact ⟨_, rfl, hs⟩

theorem request {code layout owner} (hs : P s) (ho : ∀ {tag vs u}, P u → P (owner tag vs u).1) :
    Completes P (Machine.act (Machine.takeRequest code layout owner) s) :=
  h.act hs fun hu => h.requestOps.takeRequest (fun _ _ _ hv => ho hv) hu

theorem report {pick} (hs : P s) (hp : pick ∈ [pickBeam, pickStation, pickIdentify, pickKey, pickAttendant, pickHelp,
    pickDone, pickPaperOut, pickJam]) : Completes P (Machine.act (Machine.takeHead pick) s) :=
  h.act hs fun hu => h.sampleOps.takeHead (h.picked hp) hu

/-- Every command completes and keeps the property. -/
theorem exec (c : Instr) (hs : P s) : Completes P (exec c s) := by
  have ops := h.requestOps
  cases c
  case coldReset => exact ⟨_, rfl, ops.startCycle (h.coldValues hs)⟩
  case calEnableAssert | calEnableDeassert => exact ⟨_, rfl, h.setCalEnable (h.fresh hs)⟩
  case yardStopAssert | yardStopDeassert => exact ⟨_, rfl, h.setYardStop (h.fresh hs)⟩
  case powerLoss => exact ⟨_, rfl, h.same hs rfl rfl⟩
  case warmReset => exact h.act hs h.askReset
  case scanCycleStart => exact h.act hs ops.cycleDue
  case sample | present | ack | nakRefused | reply | report | descriptor => exact h.act hs ops.answerArrives
  case noResponse => exact h.act hs ops.noAnswer
  case responseError => exact h.act hs ops.errorArrives
  case attentionWindow => exact h.act hs ops.windowRead
  case enumerationSlot => exact h.act hs ops.slotRead
  case beam | station | identify | key | attendant | help | done | paperOut | jam => exact h.report hs (by simp)
  case zeroTrackingExpiry => exact h.act hs h.trackExpiry
  case level1Expiry => exact h.act hs ops.level1Expiry
  case level2Expiry => exact h.act hs ops.level2Expiry
  case holdOffExpiry =>
    refine h.act hs fun hu => ?_
    unfold holdOffEnds
    split
    · exact ops.endHoldOff hu
    · exact hu
  case attentionRetryExpiry => exact h.act hs ops.attentionRetry
  case calStepTimeout => exact h.act hs h.endStep
  case intrusionEmptyExpiry => exact h.act hs ops.pauseExpiry
  case entryTimerExpiry => exact h.act hs ops.entryExpiry
  case askTimerExpiry => exact h.act hs ops.askExpiry
  case stabilityTimerExpiry => exact h.act hs ops.stabilityExpiry
  case clearanceTimerExpiry => exact h.act hs ops.clearanceExpiry
  case motionTimerExpiry => exact h.act hs ops.motionExpiry
  case stationRetryExpiry => exact h.act hs ops.stationRetryExpiry
  case driveRetryExpiry => exact h.act hs ops.driveRetryExpiry
  case printTimerExpiry => exact h.act hs ops.printTimeout
  case printRetryExpiry => exact h.act hs ops.printRetry
  case silenceTimerExpiry => exact h.act hs h.silenceExpiry
  case liveIntervalExpiry => exact h.act hs ops.liveExpiry
  case frameGapTimeout | frameDiscard => exact h.act hs id
  case secondsTick => exact h.act hs ops.tickSecond
  case commitRecordWriteDone => exact h.act hs fun hu => h.onWrite (h.recordWritten hu) hu
  case commitCounterWriteDone => exact h.act hs fun hu => h.onWrite (h.counterWritten hu) hu
  case ticketNumberWriteDone => exact h.act hs fun hu => h.onWrite (h.ticketNumbered hu) hu
  case setTicketNumberWriteDone => exact h.act hs fun hu => h.onWrite (h.numberSet hu) hu
  case officeFrame => exact h.act hs ops.receiveFrame
  case frameSent => exact h.act hs h.frameGone
  case unknownRequest => exact h.act hs ops.takeUnknown
  case zeroBridge | calZero | calSpan | calCorner | calTrim | putVehicle | dropVehicle | dropAccount | putTariffRow
    | dropTariffRow => exact h.request hs (h.writer (by simp [writers]))
  case readBridge | readCalibration | readNode | readPlanEntry | readLane | readVehicle | readVehicleNext | readAccount
    | readAccountNext | readTariffRow | readTariffRowNext | readTables | readVisit | readVisitByVehicle | readVisitNext
    | readTickets | readRecords =>
    exact h.request hs fun {tag vs u} hu => by rw [readers_state (by simp [readers]) tag vs u]; exact hu
  case setBridgeParameters => exact h.request hs ops.setBridgeParameters
  case setBridgeService => exact h.request hs ops.setBridgeService
  case calBegin => exact h.request hs h.calBegin
  case calSetLimits => exact h.request hs h.calSetLimits
  case calCommit => exact h.request hs h.calCommit
  case calAbort => exact h.request hs h.calAbort
  case setScanPeriod => exact h.request hs ops.setScanPeriod
  case enumerate => exact h.request hs ops.enumerate
  case resetNode => exact h.request hs ops.resetNode
  case releaseNode => exact h.request hs ops.releaseNode
  case readBus => exact h.request hs ops.readBus
  case putPlanEntry => exact h.request hs ops.putPlanEntry
  case dropPlanEntry => exact h.request hs ops.dropPlanEntry
  case putLane => exact h.request hs ops.putLane
  case openLane => exact h.request hs ops.openLane
  case closeLane => exact h.request hs ops.closeLane
  case holdLane => exact h.request hs ops.holdRequest
  case releaseLane => exact h.request hs ops.releaseLane
  case barrierOverride => exact h.request hs ops.barrierOverride
  case setClock => exact h.request hs ops.setClock
  case putAccount => exact h.request hs h.putAccount
  case setBalance => exact h.request hs ops.setBalance
  case setTariffSwitch => exact h.request hs ops.setTariffSwitch
  case openVisit => exact h.request hs ops.openWalkIn
  case voidVisit => exact h.request hs ops.voidRequest
  case resolveVisit => exact h.request hs ops.resolveVisit
  case restoreVisit => exact h.request hs ops.restoreVisit
  case setTareTolerance => exact h.request hs ops.setTareTolerance
  case setTicketNumber => exact h.request hs ops.setTicketNumber
  case reprintTicket => exact h.request hs ops.reprintTicket
  case setTicketHeader => exact h.request hs ops.setTicketHeader
  case setSilenceTimeout => exact h.request hs ops.setSilenceTimeout
  case releaseRecords => exact h.request hs ops.releaseRecords
  case subscribeLive => exact h.request hs ops.subscribeLive
  case sendToNode => exact h.request hs ops.sendToNode
  case readStatus => exact h.request hs ops.readStatus
  case restart => exact h.request hs h.restart

end RecordOps

/-- The waiting commands are read by none of the three operations of the queue, and kept where nothing else is asked. -/
theorem pending_recordOps (q : List Instr) : RecordOps (fun s => s.pending = q) where
  keeps hs hq _ _ := hq.trans hs
  record {body s} hs := by rw [(queueRecord_spec body s).1.rest]; exact hs
  spendClaim {body s} hs := by rw [(spendClaim_frame body s).rest]; exact hs
  takeClaims {k s} hs := by rw [(takeClaims_frame k s).rest]; exact hs

/-- The law holds wherever neither the records nor the claims grow; each operation of the queue keeps it (R200, R201). -/
theorem recordLaw_recordOps : RecordOps RecordLaw where
  keeps hs _ hr hc := (Nat.add_le_add hr hc).trans hs
  record hs := hs.queueRecord _
  spendClaim hs := hs.spendClaim _
  takeClaims hs := hs.takeClaims _

end Sys2Proof.Machine

namespace Sys2Proof.Certificates
open Sys2Proof.Machine

/-- Settles O4: every command is made of operations that keep the law, and a millisecond leaves records and claims. -/
theorem recordLawKept : Obligations.RecordLawKept := by
  unfold Obligations.RecordLawKept
  intro s t law he
  unfold step at he
  split at he
  · rename_i c rest _
    obtain ⟨u, hu, kept⟩ := recordLaw_recordOps.exec (s := { s with pending := rest }) c law
    cases hu.symm.trans he
    exact kept
  · cases he
    unfold idle
    split <;> exact law

/-- Settles O3: the waiting commands are none of what a command works on. -/
theorem everyCommandCompletes : Obligations.EveryCommandCompletes := by
  unfold Obligations.EveryCommandCompletes
  intro c s
  exact (pending_recordOps s.pending).exec c rfl

end Sys2Proof.Certificates

namespace Sys2Proof.Machine

/-! ## The tests of a request's body (R196, R197) -/

/-- Every request row takes the frame at the head by its kind and layout, and hands it to its owner. -/
theorem exec_request {c : Instr} {code : Nat} {layout : List Field} (h : requestOf c = some (code, layout)) :
    ∃ owner, ∀ s, exec c s = act (takeRequest code layout owner) s := by
  cases c <;> cases h <;> exact ⟨_, fun _ => rfl⟩

theorem readBody_uncut {layout : List Field} {body : Bytes} (h : cutFields layout body = none) :
    readBody layout body = .error .malformed := by
  simp [readBody, h]

theorem readBody_unread {layout : List Field} {body : Bytes} {cut : List (Option Bytes)} (hc : cutFields layout body = some cut)
    (hr : readFields layout cut = none) : readBody layout body = .error .range := by
  simp [readBody, hc, hr]

end Sys2Proof.Machine

namespace Sys2Proof.Certificates
open Sys2Proof.Machine

/-- Settles O39: every request is taken alike, and its body is read before its owner is called. -/
theorem bodiesAreTestedFirst : Obligations.BodiesAreTestedFirst := by
  unfold Obligations.BodiesAreTestedFirst
  refine ⟨fun c code layout s tag body hc head => ?_, fun c code layout s hc powered other => ?_⟩
  · obtain ⟨owner, run⟩ := exec_request hc
    have refused : ∀ {e}, readBody layout body = .error e → Answers c s tag e [] (fresh s) :=
      fun he => (run s).trans (take_badBody owner head he)
    exact ⟨fun uncut => refused (readBody_uncut uncut), fun cut hcut unread => refused (readBody_unread hcut unread)⟩
  · obtain ⟨owner, run⟩ := exec_request hc
    exact (run s).trans (take_otherHead owner powered other)

end Sys2Proof.Certificates

namespace Sys2Proof.Machine

/-! ## Frames of the office link (R193 to R198) -/

section Link
variable {s : State} {f : OfficeFrame}

/-- A frame restarts the silence timer of a link that is UP (R194). -/
theorem linkUp_up (up : s.port.up = true) :
    linkUp s = modPort (fun p => { p with silence := some (p.timeout * 1000) }) s := by
  simp [linkUp, up, modPort]

/-- A frame makes the link UP and starts the silence timer, and records that wait are made known by a NOTICE (R194, R202). -/
theorem linkUp_down (down : s.port.up = false) : (linkUp s).port.up = true
    ∧ (linkUp s).port.silence = some (s.port.timeout * 1000) ∧ (linkUp s).port.buffer = s.port.buffer
    ∧ (s.port.records ≠ [] → .notice (noticeBody s) ∈ outgoing (linkUp s).port) := by
  unfold linkUp
  rw [if_neg (by simp [down])]
  dsimp only
  split
  · rename_i none_
    exact ⟨rfl, rfl, rfl, fun records => absurd (List.isEmpty_iff.1 none_) records⟩
  · refine ⟨?_, ?_, ?_, fun _ => makeReady_mem rfl⟩ <;> rw [makeReady_rest] <;> rfl

theorem receiveFrame_room (valid : frameValid f = true) (room : (linkUp s).port.buffer.length < 4) :
    receiveFrame f s = modPort (fun p => { p with buffer := p.buffer ++ [{ kind := f.kind, tag := f.tag, body := f.body }] })
      (linkUp s) := by
  simp [receiveFrame, bufferFrame, valid, Config.requestSlots, room]

theorem receiveFrame_full (valid : frameValid f = true) (full : 4 ≤ (linkUp s).port.buffer.length) :
    receiveFrame f s = answer f.tag .busy [] (linkUp s) := by
  simp [receiveFrame, bufferFrame, valid, Config.requestSlots, Nat.not_lt.2 full]

/-- The bytes of a frame do not depend on what the transmitter holds. -/
theorem startSending_sending (g : OutFrame) (x : Option Sending) :
    startSending g (modPort (fun p => { p with sending := x }) s) = startSending g s := by
  cases g <;> rfl

/-- A frame other than RESTART's answer has gone (R198). -/
theorem frameGone_plain {x : Sending} (sending : s.port.sending = some x)
    (plain : ∀ tag body, x.frame ≠ .restartAnswer tag body) :
    frameGone s = sendNext (modPort (fun p => { p with sending := none }) s) := by
  unfold frameGone
  rw [sending]
  dsimp only
  split
  · rename_i tag body same
    exact absurd same (plain tag body)
  · rfl

theorem sendNext_nil (none_ : s.port.waiting = []) : sendNext s = s := by simp [sendNext, none_]

theorem sendNext_cons {g : OutFrame} {rest : List OutFrame} (waiting : s.port.waiting = g :: rest) :
    sendNext s = startSending g (modPort (fun p => { p with waiting := rest }) s) := by
  simp [sendNext, waiting]

/-- A kind of no request at the head is answered so (R197). -/
theorem takeUnknown_head {code : Nat} {tag : Byte} {body : Bytes} (head : HeadIs s code tag body) (hc : code = 0 ∨ 64 < code) :
    takeUnknown (fresh s) = answered tag .unknownRequest [] (fresh s) := by
  obtain ⟨-, taking, r, rest, buffer, rfl, rfl, -⟩ := head
  have unknown : ¬ (s.port.restarting = true ∨ (1 ≤ r.kind.toNat ∧ r.kind.toNat ≤ 64)) := by
    rw [taking, Bool.false_eq_true, false_or]
    omega
  simp [takeUnknown, buffer, unknown, answered]

theorem makeReady_idle (f : OutFrame) (up : s.port.up = true) (idle : s.port.sending = none) :
    makeReady f s = startSending f s := by simp [makeReady, up, idle]

theorem makeReady_busy (f : OutFrame) (up : s.port.up = true) (busy : s.port.sending ≠ none) :
    makeReady f s = modPort (fun p => { p with waiting := p.waiting ++ [f] }) s := by
  simp [makeReady, up, busy]

end Link
end Sys2Proof.Machine

namespace Sys2Proof.Certificates
open Sys2Proof.Machine

/-- Settles O38: the link, the buffer and the transmitter in turn. -/
theorem framesOfTheOfficeLink : Obligations.FramesOfTheOfficeLink := by
  unfold Obligations.FramesOfTheOfficeLink
  refine ⟨fun s f powered valid => ⟨fun up room => ?_, fun up full => ?_, fun down room => ?_⟩,
    fun s f powered => act_of_powered powered, fun s x powered sending plain => ⟨fun nil => ?_, fun f rest waiting => ?_⟩,
    fun s code tag body head hc => ?_, fun s f => ⟨makeReady_down f, makeReady_idle f, makeReady_busy f⟩, fun s => rfl⟩
  · have link := linkUp_up (s := fresh s) up
    refine (act_of_powered powered).trans (congrArg _ ?_)
    rw [receiveFrame_room valid (by rw [link]; exact room), link]
    rfl
  · have link := linkUp_up (s := fresh s) up
    refine (act_of_powered powered).trans (congrArg _ ?_)
    rw [receiveFrame_full valid (by rw [link]; exact full), link]
  · obtain ⟨up, silence, buffer, notice⟩ := linkUp_down (s := fresh s) down
    refine ⟨_, act_of_powered powered, ?_⟩
    rw [receiveFrame_room valid (by rw [buffer]; exact room)]
    exact ⟨up, silence, congrArg (· ++ _) buffer, notice⟩
  · refine (act_of_powered powered).trans (congrArg _ ?_)
    rw [frameGone_plain (s := fresh s) sending plain]
    exact sendNext_nil nil
  · refine (act_of_powered powered).trans (congrArg _ ?_)
    rw [frameGone_plain (s := fresh s) sending plain]
    rw [sendNext_cons (s := modPort _ (fresh s)) (by exact waiting)]
    exact startSending_sending (s := modPort (fun p => { p with waiting := rest }) (fresh s)) f none
  · have ⟨powered, _⟩ := head
    exact (act_of_powered powered).trans (congrArg _ (takeUnknown_head head hc))

end Sys2Proof.Certificates

namespace Sys2Proof.Machine

/-! ## Records read and released (R203, R204) -/

/-- The bytes of records laid out one behind the other. -/
def recordsSize (rs : List Record) : Nat := (rs.flatMap Record.bytes).length

theorem recordsSize_cons (r : Record) (rs : List Record) : recordsSize (r :: rs) = r.bytes.length + recordsSize rs := by
  simp [recordsSize]

/-- A longest run of records from the head within a count and a room, the first carried whatever its size where it always
is (R203). -/
structure LongestRun (count room : Nat) (always : Bool) (records run rest : List Record) : Prop where
  whole : records = run ++ rest
  counted : run.length ≤ count
  first : 1 ≤ count → always = true → records ≠ [] → run ≠ []
  fits : recordsSize run ≤ room ∨ (always = true ∧ run.length = 1)
  longest : run.length = count ∨ rest = [] ∨ ∃ r ∈ rest.head?, room < recordsSize (run ++ [r])

theorem recordsThatFit_longest (count room : Nat) (always : Bool) (records : List Record) :
    ∃ rest, LongestRun count room always records (recordsThatFit count room always records) rest := by
  induction count, room, always, records using recordsThatFit.induct with
  | case1 room always records => exact ⟨records, rfl, le_rfl, nofun, .inl (Nat.zero_le _), .inl rfl⟩
  | case2 count room always =>
    exact ⟨[], rfl, Nat.zero_le _, fun _ _ none_ => absurd rfl none_, .inl (Nat.zero_le _), .inr (.inl rfl)⟩
  | case3 count room always r records size fit ih =>
    have run : recordsThatFit (count + 1) room always (r :: records)
        = r :: recordsThatFit count (room - size) false records := if_pos fit
    obtain ⟨rest, whole, counted, -, fits, longest⟩ := ih
    rw [run]
    refine ⟨rest, congrArg (r :: ·) whole, Nat.succ_le_succ counted, fun _ _ _ => List.cons_ne_nil _ _, .inl ?_, ?_⟩
    · have fits := fits.resolve_right nofun
      rw [recordsSize_cons]
      omega
    · rcases longest with full | ended | ⟨x, hx, more⟩
      · exact .inl (congrArg (· + 1) full)
      · exact .inr (.inl ended)
      · refine .inr (.inr ⟨x, hx, ?_⟩)
        rw [List.cons_append, recordsSize_cons]
        omega
  | case4 count room r records size large =>
    have run : recordsThatFit (count + 1) room true (r :: records) = [r] := (if_neg large).trans (if_pos rfl)
    rw [run]
    refine ⟨records, rfl, Nat.succ_le_succ (Nat.zero_le _), fun _ _ _ => List.cons_ne_nil _ _, .inr ⟨rfl, rfl⟩, ?_⟩
    rcases records with _ | ⟨x, records⟩
    · exact .inr (.inl rfl)
    · refine .inr (.inr ⟨x, rfl, ?_⟩)
      rw [List.cons_append, recordsSize_cons]
      omega
  | case5 count room always r records size large later =>
    have run : recordsThatFit (count + 1) room always (r :: records) = [] := (if_neg large).trans (if_neg later)
    rw [run]
    refine ⟨r :: records, rfl, Nat.zero_le _, fun _ first => absurd first later, .inl (Nat.zero_le _),
      .inr (.inr ⟨r, rfl, ?_⟩)⟩
    rw [List.nil_append, recordsSize_cons]
    omega

section Owners
variable {s : State} {tag : Byte}

theorem readRecords_range {n : Nat} (outside : n < 1 ∨ 8 < n) : readRecords tag [some (.num n)] s = reply .range s :=
  if_pos outside

/-- READ RECORDS answers a longest run from the head, and how many records are queued (R203). -/
theorem readRecords_run {n : Nat} (low : 1 ≤ n) (high : n ≤ 8) : readRecords tag [some (.num n)] s = replyWith .done
    (u16 s.port.records.length ++ u8 (recordsThatFit n 1020 true s.port.records).length
      ++ (recordsThatFit n 1020 true s.port.records).flatMap Record.bytes) s := if_neg (by omega)

/-- RELEASE RECORDS takes off the head what is numbered at most n (R204). -/
theorem releaseRecords_releases (n : Nat) : ∃ gone left, s.port.records = gone ++ left ∧ (∀ r ∈ gone, r.number ≤ n)
    ∧ (∀ r ∈ left.head?, n < r.number)
    ∧ releaseRecords tag [some (.num n)] s
        = replyWith .done (u16 gone.length ++ u16 left.length) (modPort (fun p => { p with records := left }) s) := by
  set gone := s.port.records.takeWhile (fun r => decide (r.number ≤ n))
  set left := s.port.records.dropWhile (fun r => decide (r.number ≤ n)) with hl
  have whole : s.port.records = gone ++ left := List.takeWhile_append_dropWhile.symm
  have count : s.port.records.length - left.length = gone.length := by
    rw [whole, List.length_append, Nat.add_sub_cancel]
  refine ⟨gone, left, whole, fun r hr => by simpa using List.mem_takeWhile_imp hr, fun r hr => ?_, ?_⟩
  · have stays := List.head?_dropWhile_not (fun r => decide (r.number ≤ n)) s.port.records
    rw [← hl, Option.mem_def.1 hr] at stays
    simpa using stays
  · rw [← count]
    rfl

/-! ## The silence timeout, the live subscription and messages (R195, R205, R206) -/

theorem setSilenceTimeout_sets (n : Nat) : setSilenceTimeout tag [some (.num n)] s
    = reply (if 5 ≤ n ∧ n ≤ 300 then .done else .doneClamped)
        (modPort (fun p => { p with timeout := min 300 (max 5 n) }) s) := by
  rw [← clamp_eq_min_max (by decide)]
  exact congrArg (reply · _) (if_congr clamp_eq_iff rfl rfl)

theorem subscribeLive_range {set : Text} {interval : Option Value} (h : ∃ x ∈ set, bridgeOf x.toNat = none) :
    subscribeLive tag [some (.text set), interval] s = reply .range s := by
  have outside : set.any (fun b => (bridgeOf b.toNat).isNone) = true := by simpa using h
  exact if_pos outside

theorem subscribeLive_ends (interval : Option Value) : subscribeLive tag [some (.text []), interval] s
    = reply .done (modPort (fun p => { p with live := none, waiting := p.waiting.filter (fun f => f ≠ .live) }) s) := rfl

theorem subscribeLive_replaces {set : Text} {n : Nat} (some_ : set ≠ []) (known : ∀ x ∈ set, bridgeOf x.toNat ≠ none) :
    subscribeLive tag [some (.text set), some (.num n)] s
      = reply (if 100 ≤ n ∧ n ≤ 5000 then .done else .doneClamped) (modPort (fun p => { p with live := some {
          bridges := allBridges.filter (fun b => set.any (fun x => bridgeOf x.toNat = some b)),
          interval := min 5000 (max 100 n), timer := min 5000 (max 100 n) } }) s) := by
  have inside : ¬ set.any (fun b => (bridgeOf b.toNat).isNone) = true := by simpa using known
  rw [← clamp_eq_min_max (by decide)]
  refine ((if_neg inside).trans (if_neg some_)).trans ?_
  exact congrArg (reply · _) (if_congr clamp_eq_iff rfl rfl)

/-- The answer to a message by the outcome of its offer: taken, its entry joins the list (R206). -/
def messageAnswered (e : PassEntry) (s : State) : State × Option OfferRefusal → Reply
  | (taken, none) => reply .done (modPort (fun p => { p with pass := p.pass ++ [e] }) taken)
  | (_, some .tooLong) => reply .range s
  | (_, some .queueFull) => reply .busy s
  | (_, some .notActive) => reply .state s

section Message
variable {x : Attach} {m : Bytes}

theorem sendToNode_range (h : m.length < 1 ∨ 32 < m.length) :
    sendToNode tag [some (.role x), some (.text m)] s = reply .range s := if_pos h

variable (long : 1 ≤ m.length) (short : m.length ≤ 32)
include long short

theorem sendToNode_full (full : 8 ≤ s.port.pass.length) : sendToNode tag [some (.role x), some (.text m)] s = reply .full s :=
  (if_neg (by omega)).trans (if_pos full)

variable (room : s.port.pass.length < 8)
include room

theorem sendToNode_empty (fill : (roleOf s x).fill = .empty) :
    sendToNode tag [some (.role x), some (.text m)] s = reply .notFound s := by
  refine ((if_neg (by omega)).trans (if_neg (Nat.not_le.2 room))).trans ?_
  rw [fill]

theorem sendToNode_degraded (fill : (roleOf s x).fill = .degraded) :
    sendToNode tag [some (.role x), some (.text m)] s = reply .state s := by
  refine ((if_neg (by omega)).trans (if_neg (Nat.not_le.2 room))).trans ?_
  rw [fill]

/-- A message for a FILLED role is offered to the command queue (R206). -/
theorem sendToNode_filled {a : NodeId} {serial : Serial} (role : roleOf s x = { fill := .filled, node := some (a, serial) }) :
    let e : PassEntry := { tag := tag, role := x, node := a, serial := some serial }
    sendToNode tag [some (.role x), some (.text m)] s = messageAnswered e s (offer a (.message m) (.pass e) s) := by
  refine ((if_neg (by omega)).trans (if_neg (Nat.not_le.2 room))).trans ?_
  rw [role]
  rfl

variable {a : NodeId} {serial : Serial} (role : roleOf s x = { fill := .filled, node := some (a, serial) })
  (active : (s.bus.nodes[a]).state = .active)
include role active

theorem sendToNode_tooLong (large : ((s.bus.nodes[a]).desc.map (·.maxPayload)).getD 32 < m.length) :
    sendToNode tag [some (.role x), some (.text m)] s = reply .range s := by
  rw [sendToNode_filled long short room role, offer_tooLong (f := .message m) (.inl active) large]
  rfl

variable (fits : m.length ≤ ((s.bus.nodes[a]).desc.map (·.maxPayload)).getD 32)
include fits

theorem sendToNode_busy (full : 16 ≤ s.bus.queue.length) :
    sendToNode tag [some (.role x), some (.text m)] s = reply .busy s := by
  rw [sendToNode_filled long short room role, offer_fits (f := .message m) (.inl active) fits nofun,
    if_pos (show Config.commandSlots ≤ _ from full)]
  rfl

/-- A MESSAGE that fits and finds room joins the command queue, and its entry the list (R206). -/
theorem sendToNode_queued (free : s.bus.queue.length < 16) :
    let e : PassEntry := { tag := tag, role := x, node := a, serial := some serial }
    sendToNode tag [some (.role x), some (.text m)] s = reply .done (modPort (fun p => { p with pass := p.pass ++ [e] })
      (modBus (fun y => { y with queue := y.queue ++ [{ node := a, frame := .message m, origin := .pass e, sent := false }] })
        s)) := by
  rw [sendToNode_filled long short room role, offer_fits (f := .message m) (.inl active) fits nofun,
    if_neg (show ¬ Config.commandSlots ≤ _ from Nat.not_le.2 free)]
  rfl

end Message
end Owners
end Sys2Proof.Machine

namespace Sys2Proof.Machine

/-! ## Work while the link is DOWN (R194, R198) -/

/-- A port with the record queue, the claims and the pass-through list put aside. -/
def Port.still (p : Port) : Port := { p with records := [], nextRecord := 0, claims := 0, dropped := 0, pass := [] }

theorem Port.still_queue (p : Port) (records : List Record) (next claims dropped : Nat) :
    { p with records := records, nextRecord := next, claims := claims, dropped := dropped : Port }.still = p.still := rfl

/-- The port is as given but for the record queue, the claims and the pass-through list. -/
def Stays (p : Port) (s : State) : Prop := s.port.still = p.still

section Down
variable {p : Port} (silent : p.up = false) {s : State}
include silent

theorem Stays.up_eq (h : Stays p s) : s.port.up = false := (congrArg Port.up h).trans silent

theorem Stays.makeReady {f : OutFrame} (h : Stays p s) : Stays p (makeReady f s) := by
  rw [makeReady_down f (h.up_eq silent)]
  exact h

theorem Stays.record {body : RecordBody} (h : Stays p s) : Stays p (queueRecord body s) := by
  obtain ⟨records, next, dropped, he⟩ := queueRecord_silent (body := body) (h.up_eq silent)
  rw [he]
  exact h

theorem Stays.spendClaim {body : RecordBody} (h : Stays p s) : Stays p (spendClaim body s) := by
  obtain ⟨records, next, claims, dropped, he⟩ := spendClaim_silent (body := body) (h.up_eq silent)
  rw [he]
  exact h

omit silent in
theorem Stays.takeClaims {k : Nat} (h : Stays p s) : Stays p (takeClaims k s) := by
  unfold Machine.takeClaims
  split <;> exact h

theorem Stays.tellDropped {c : Command} (h : Stays p s) : Stays p (tellDropped c s) := by
  unfold Machine.tellDropped
  split
  · unfold holdReset
    split <;> exact h
  · exact h
  · exact h
  · exact h
  · unfold stationRetry
    split <;> exact h
  · split <;> exact h
  · exact Stays.makeReady (s := modPort _ s) silent h

theorem Stays.tellAllDropped (cs : List Command) (h : Stays p s) : Stays p (cs.foldl (fun s c => Machine.tellDropped c s) s) :=
  LaneOps.foldl (fun _ _ hu => hu.tellDropped silent) cs h

theorem Stays.offer {a : NodeId} {f : CommandFrame} {o : Origin} (h : Stays p s) : Stays p (offer a f o s).1 := by
  by_cases off : f = .driveOff
  · subst off
    rcases ho : Machine.offer a .driveOff o s with ⟨t, _ | r⟩
    · rw [offer_driveOff_taken ho]
      exact Stays.tellAllDropped (s := modBus _ _) silent _ (Stays.tellAllDropped (s := modBus _ s) silent _ h)
    · rw [offer_refused ho]
      exact h
  · unfold Stays
    rw [offer_port off]
    exact h

/-- With the link DOWN the work of the parts makes no frame ready and leaves the port but for its queue and claims. -/
theorem stays_portOps : PortOps (Stays p) where
  same h _ hp := (congrArg Port.still hp).trans h
  offer h := h.offer silent
  record h := h.record silent
  spendClaim h := h.spendClaim silent
  takeClaims h := h.takeClaims
  releaseClaims h := h
  ready h := h.makeReady silent
  passLeaves h := h

end Down

/-! ## The warm reset after RESTART (R210, R212) -/

/-- After a warm reset the port is that of R212, whatever the lines, the lanes and the first cycle do. -/
theorem warmReset_stays (kind : ResetKind) (s : State) : ∃ p, Stays (Port.warm kind p) (warmReset kind s) := by
  have ops := (stays_portOps (p := Port.warm kind (abortAtReset s).port) rfl).sampleOps
  have ended : Stays (Port.warm kind (abortAtReset s).port) (resetTickets (warmStarted kind (abortAtReset s))) := by
    exact (congrArg Port.still (resetTickets_warm kind (abortAtReset s)).port).trans (Port.still_queue _ _ _ _ _)
  refine ⟨_, ops.cycleOps.startCycle ?_⟩
  rw [warmValues_eq]
  unfold stopAtReset
  split
  · exact ops.assertStop ended
  · exact ended

section Restarts
variable {s : State} {kind : ResetKind} (unasked : s.port.resetAsked = none)
include unasked

theorem askReset_idle (idle : s.cal.store.inFlight = none) : askReset kind s = warmReset kind s := by
  simp [askReset, unasked, idle]

theorem askReset_busy (busy : s.cal.store.inFlight ≠ none) :
    askReset kind s = modPort (fun p => { p with resetAsked := some kind }) s := by
  simp [askReset, unasked, Option.isSome_iff_ne_none, busy]

end Restarts

section RestartAnswer
variable {s : State} {x : Sending} {tag : Byte} {body : Bytes} (unasked : s.port.resetAsked = none)
include unasked

/-- RESTART taken with the link DOWN and no write in flight: the warm reset follows at once (R210). -/
theorem restart_down (down : s.port.up = false) (idle : s.cal.store.inFlight = none) : ∃ t,
    restart tag [] s = (t, none) ∧ t.port.lastReset = .warmRestart ∧ t.port.restarting = false := by
  have owner : restart tag [] s = (askReset .warmRestart (modPort (fun p => { p with restarting := true }) s), none) :=
    if_neg (by simp [down])
  rw [owner, askReset_idle (by exact unasked) (by exact idle)]
  obtain ⟨p, stays⟩ := warmReset_stays .warmRestart (modPort (fun p => { p with restarting := true }) s)
  generalize warmReset .warmRestart (modPort (fun p => { p with restarting := true }) s) = t at stays
  exact ⟨_, rfl, congrArg Port.lastReset stays, congrArg Port.restarting stays⟩

variable (sending : s.port.sending = some x) (answer : x.frame = .restartAnswer tag body)
include sending answer

omit unasked in
/-- RESTART's answer has gone (R210). -/
theorem frameGone_restart :
    frameGone s = sendNext (askReset .warmRestart (modPort (fun p => { p with sending := none }) s)) := by
  simp only [frameGone, sending, answer]

/-- The warm reset follows the answer, and no frame waits behind it (R210, R212). -/
theorem frameGone_restart_idle (idle : s.cal.store.inFlight = none) : (frameGone s).port.lastReset = .warmRestart
    ∧ (frameGone s).port.up = false ∧ (frameGone s).port.restarting = false ∧ (frameGone s).port.buffer = []
    ∧ (frameGone s).port.sending = none := by
  rw [frameGone_restart sending answer, askReset_idle (by exact unasked) (by exact idle)]
  obtain ⟨p, stays⟩ := warmReset_stays .warmRestart (modPort (fun p => { p with sending := none }) s)
  generalize warmReset .warmRestart (modPort (fun p => { p with sending := none }) s) = t at stays
  rw [sendNext_nil (congrArg Port.waiting stays)]
  exact ⟨congrArg Port.lastReset stays, congrArg Port.up stays, congrArg Port.restarting stays, congrArg Port.buffer stays,
    congrArg Port.sending stays⟩

/-- Behind a write in flight the reset is noted, and the next frame that waits is sent (R210). -/
theorem frameGone_restart_busy (busy : s.cal.store.inFlight ≠ none) : frameGone s
    = sendNext (modPort (fun p => { p with sending := none, resetAsked := some .warmRestart }) s) := by
  rw [frameGone_restart sending answer, askReset_busy (by exact unasked) (by exact busy)]
  rfl

end RestartAnswer
end Sys2Proof.Machine

namespace Sys2Proof.Certificates
open Sys2Proof.Machine

/-- Settles O57: each owner's answer, and the reset that follows RESTART's. -/
theorem portRequests : Obligations.PortRequests := by
  unfold Obligations.PortRequests
  refine ⟨fun s tag n h => answers_of_owner rfl h (setSilenceTimeout_sets n),
    fun s tag n h => ⟨fun outside => ?_, fun low high => ?_⟩,
    fun s tag n h => ?_, fun s tag set interval h => ⟨fun outside => ?_, fun none_ => ?_, fun n some_ known same => ?_⟩,
    fun s tag place m h => ⟨fun length => ?_, fun long short => ⟨fun full => ?_, fun room => ⟨fun fill => ?_, fun fill => ?_,
      fun a x role active => ⟨fun large => ?_, fun fits => ⟨fun full => ?_, fun free => ?_⟩⟩⟩⟩⟩,
    fun s tag h => ⟨fun up => ?_, fun down unasked idle => ?_⟩,
    fun s x tag body powered sending frame unasked => ⟨fun idle => ?_, fun busy => ⟨fun nil => ?_, fun f rest waiting => ?_⟩⟩⟩
  · exact answers_of_owner rfl h (readRecords_range outside)
  · obtain ⟨rest, run⟩ := recordsThatFit_longest n 1020 true s.port.records
    exact ⟨_, rest, run.whole, run.counted, run.first low rfl, answers_of_owner rfl h (readRecords_run low high),
      run.fits.imp_right And.right, run.longest⟩
  · obtain ⟨gone, left, whole, released, kept, run⟩ := releaseRecords_releases (s := fresh s) (tag := tag) n
    exact ⟨gone, left, whole, released, kept, answers_of_owner rfl h run⟩
  · exact answers_of_owner rfl h (subscribeLive_range outside)
  · subst none_
    exact answers_of_owner rfl h (subscribeLive_ends _)
  · subst same
    exact answers_of_owner rfl h (subscribeLive_replaces some_ known)
  · exact answers_of_owner rfl h (sendToNode_range length)
  · exact answers_of_owner rfl h (sendToNode_full (s := fresh s) long short full)
  · exact answers_of_owner rfl h (sendToNode_empty (s := fresh s) long short room fill)
  · exact answers_of_owner rfl h (sendToNode_degraded (s := fresh s) long short room fill)
  · exact answers_of_owner rfl h (sendToNode_tooLong (s := fresh s) long short room role active large)
  · exact answers_of_owner rfl h (sendToNode_busy (s := fresh s) long short room role active fits full)
  · exact answers_of_owner rfl h (sendToNode_queued (s := fresh s) long short room role active fits free)
  · exact deferred_of_owner rfl h (if_pos up)
  · obtain ⟨t, owner, reset, taken⟩ := restart_down (s := fresh s) (tag := tag) unasked down idle
    exact ⟨_, deferred_of_owner rfl h owner, reset, taken⟩
  · exact ⟨_, act_of_powered powered, frameGone_restart_idle (s := fresh s) unasked sending frame idle⟩
  · refine (act_of_powered powered).trans (congrArg _ ?_)
    rw [frameGone_restart_busy (s := fresh s) unasked sending frame busy]
    exact sendNext_nil nil
  · refine (act_of_powered powered).trans (congrArg _ ?_)
    rw [frameGone_restart_busy (s := fresh s) unasked sending frame busy]
    exact sendNext_cons waiting

end Sys2Proof.Certificates

namespace Sys2Proof.Machine

/-! ## Visits voided by the office (R168, R169) -/

/-- A void gives up what a close of a visit not posted does (R141, R145, R168). -/
theorem voidReleased_eq_closeReleased (v : Visit) (s : State) :
    voidReleased v s = closeReleased { v with posted := false } s := rfl

/-- A void spends the visit's last claim on its record, gives the others back, and gives up the reserve and the bank (R168). -/
theorem voidVisit_gives {reason : VoidReason} {v : Visit} {s : State} (found : findVisit s v.number = some v)
    (claimed : 1 ≤ v.claims) (held : v.claims ≤ s.port.claims) :
    (voidVisit v.number reason s).port.claims = s.port.claims - v.claims
      ∧ (∀ x, v.account ≠ 0 → findAccount s v.account = some x → findAccount (voidVisit v.number reason s) v.account
          = some { x with reserved := x.reserved - v.reserve, visits := x.visits - 1 })
      ∧ (∀ b : BankId, v.bank = some b →
          ((voidVisit v.number reason s).tables.banks[b]).refs = (s.tables.banks[b]).refs - 1) := by
  have owed : (releaseClaims (v.claims - 1) (voidReleased v s)).port.claims = s.port.claims - (v.claims - 1) := by
    rw [voidReleased_rest]
    rfl
  obtain ⟨frame, spent, -⟩ := spendClaim_spec (voidBody v reason) (releaseClaims (v.claims - 1) (voidReleased v s))
    (by omega)
  rw [voidVisit_eq found]
  have tables : (removeVisit v.number (spendClaim (voidBody v reason)
      (releaseClaims (v.claims - 1) (voidReleased v s)))).tables = (voidReleased v s).tables := frame.tables
  refine ⟨?_, fun x account known => (findAccount_of_tables tables _).trans ?_, fun b bank => ?_⟩
  · refine spent.trans ?_
    rw [owed]
    omega
  · exact findAccount_closeReleased (v := { v with posted := false }) account known
  · rw [tables]
    exact closeReleased_refs (v := { v with posted := false }) s bank

section Office
variable {v : Visit} {s : State} {tag : Byte} (alone : v.lane = none)
include alone

/-- A void by the office of a visit that no lane carries tells no lane (R168). -/
theorem voidByOffice_alone : voidByOffice v s = voidVisit v.number .office s := by
  simp only [voidByOffice, alone]

theorem tellResolution_alone (r : Resolution) (t : State) : tellResolution v r t = t := by
  simp only [tellResolution, alone]

variable (numbered : 1 ≤ v.number) (found : findVisit s v.number = some v)
include numbered found

omit alone in
theorem voidRequest_late (late : v.underlying.early = false) : voidRequest tag [some (.num v.number)] s = reply .state s := by
  simp [voidRequest, Nat.not_lt.2 numbered, found, late]

theorem voidRequest_voids (early : v.underlying.early = true) :
    voidRequest tag [some (.num v.number)] s = reply .done (voidVisit v.number .office s) := by
  simp [voidRequest, Nat.not_lt.2 numbered, found, early, laneLeavesAlone, alone, voidByOffice_alone]

end Office

theorem findVisit_voidVisit {reason : VoidReason} {v : Visit} {s : State} (found : findVisit s v.number = some v) :
    findVisit (voidVisit v.number reason s) v.number = none := by
  rw [voidVisit_eq found]
  exact findVisit_removeVisit _ _

/-! ## Held visits resolved (R170 to R173) -/

/-! ### The bank taken again by ACCEPT of a visit held NO_TARIFF (R171) -/

theorem rowIn_unrefBank (b c : BankId) (s : State) (m : Nat) : rowIn (unrefBank c s) b m = rowIn s b m := by
  unfold rowIn
  rw [show ((unrefBank c s).tables.banks[b]).rows = (s.tables.banks[b]).rows from
    (TablesKept.bank fun _ => rfl : TablesKept s (unrefBank c s)).rowsStand b]

/-- The visit carries the active bank, whose rows stand. -/
theorem refixBank_spec {v : Visit} {s : State} (found : findVisit s v.number = some v) :
    findVisit (refixBank v s) v.number = some { v with bank := some s.tables.active }
      ∧ ∀ m, rowIn (refixBank v s) s.tables.active m = activeRow s m := by
  unfold refixBank
  rcases v.bank with _ | b
  · exact ⟨findVisit_modVisit (s := refBank s.tables.active s) (f := fun x => { x with bank := some s.tables.active })
      (fun _ => rfl) found, rowIn_refBank _ _ s⟩
  · exact ⟨findVisit_modVisit (s := refBank s.tables.active (unrefBank b s))
      (f := fun x => { x with bank := some s.tables.active }) (fun _ => rfl) found,
      fun m => (rowIn_refBank _ _ (unrefBank b s) m).trans (rowIn_unrefBank _ _ s m)⟩

/-! ### The request and its four actions -/

/-- What the actions do with a visit the request finds held, the action being allowed (R170). -/
def resolved (v : Visit) (s : State) : VisitAction → Reply
  | .accept => resolveAccept v s
  | .useTare value => resolveTare v value s
  | .reweigh => resolveReweigh v s
  | .void => resolveVoid v s

section Resolve
variable {v : Visit} {s : State} {tag : Byte} {k : Nat} {value : Option Int} {a : VisitAction}
  {reason : HoldReason} {resume : VisitState} (numbered : 1 ≤ v.number) (found : findVisit s v.number = some v)
  (action : actionOf k value = some a)
include numbered found action

theorem resolveVisit_unheld (unheld : v.hold = none) :
    resolveVisit tag [some (.num v.number), some (.num k), value.map .int] s = reply .state s := by
  simp [resolveVisit, action, Nat.not_lt.2 numbered, found, unheld]

variable (hold : v.hold = some (reason, resume))
include hold

theorem resolveVisit_refused (refused : allowed reason resume a = false) :
    resolveVisit tag [some (.num v.number), some (.num k), value.map .int] s = reply .state s := by
  simp [resolveVisit, action, Nat.not_lt.2 numbered, found, hold, refused]

theorem resolveVisit_allowed (allow : allowed reason resume a = true) :
    resolveVisit tag [some (.num v.number), some (.num k), value.map .int] s = resolved v s a := by
  cases a <;> simp [resolveVisit, action, Nat.not_lt.2 numbered, found, hold, allow, resolved]

end Resolve

/-- ACCEPT of a second weight is refused on the state the request was taken in where the net is below 0 (R171, R197). -/
theorem acceptHeld_negative {n : Nat} {former s : State} {v : Visit} {reason : HoldReason} {slot : WeightSlot}
    {w w1 : WeightRecord} {row : TariffRow} (found : findVisit s n = some v) (hold : v.hold = some (reason, .leaving))
    (held : v.held = some (slot, w)) (first : v.first = some w1) (tariff : visitRow s v = some row)
    (negative : netWeight row.kind v.tare w1.weight w.weight < 0) : acceptHeld n former s = reply .state former := by
  simp only [acceptHeld, found, hold, held, tariff, first]
  exact if_pos negative

section Actions
variable {v : Visit} {s : State} {slot : WeightSlot} {w w1 : WeightRecord} {row : TariffRow}
  (found : findVisit s v.number = some v) (held : v.held = some (slot, w))
include found held

/-- ACCEPT of a second weight held NO_TARIFF leaves all as it was where the net in the active bank's row is below 0 (R171). -/
theorem resolveAccept_negative (hold : v.hold = some (.noTariff, .leaving)) (first : v.first = some w1)
    (tariff : activeRow s v.material = some row) (negative : netWeight row.kind v.tare w1.weight w.weight < 0) :
    resolveAccept v s = reply .state s := by
  obtain ⟨stands, rows⟩ := refixBank_spec found
  have refixed : resolveAccept v s = acceptHeld v.number s (refixBank v s) := by simp only [resolveAccept, hold]
  exact refixed.trans (acceptHeld_negative stands hold held first ((rows _).trans tariff) negative)

/-- ACCEPT of a first weight held for want of the trade mark takes it (R171). -/
theorem resolveAccept_first (hold : v.hold = some (.notForTrade, .admitted)) (alone : v.lane = none)
    (tariff : visitRow s v = some row) : resolveAccept v s = reply .done (acceptFirst v.number w row.kind s) := by
  simp only [resolveAccept, acceptHeld, found, hold, held, tariff, tellResolution_alone alone]

variable (first : v.first = some w1) (tariff : visitRow s v = some row) {tare : Nat}
include first tariff

omit found in
theorem resolveTare_negative (negative : netWeight row.kind (.declared tare) w1.weight w.weight < 0) :
    resolveTare v tare s = reply .range s := by
  simp only [resolveTare, tariff, first, held]
  exact if_pos negative

omit found in
/-- USE TARE completes the visit with the declared tare (R172). -/
theorem resolveTare_completes (alone : v.lane = none) (net : 0 ≤ netWeight row.kind (.declared tare) w1.weight w.weight) :
    resolveTare v tare s = reply .done (complete v w1 w row (.declared tare) s) := by
  simp only [resolveTare, tariff, first, held, tellResolution_alone alone]
  exact if_neg (Int.not_lt.2 net)

end Actions

/-- The visit a completion leaves: weighed out, its hold cleared and one claim spent (R163). -/
theorem complete_findVisit {v : Visit} {first second : WeightRecord} {row : TariffRow} {tare : TareSource} {s : State}
    (found : findVisit s v.number = some v) (claims : 1 ≤ s.port.claims) :
    ∃ x, findVisit (complete v first second row tare s) v.number = some x ∧ x.second = some second ∧ x.tare = tare
      ∧ x.held = none ∧ x.hold = none ∧ (x.state = .weighedOut ∨ x.state = .ticketing)
      ∧ x.charge = some (completionCharge first second row tare)
      ∧ (complete v first second row tare s).port.claims = s.port.claims - 1 := by
  rw [complete_eq]
  dsimp only
  generalize completionCharge first second row tare = charge
  generalize completionHeavy v second row = heavy
  generalize completionSaturates v charge s = saturated
  have posted := findVisit_completionPosted (second := second) (tare := tare) (charge := charge) (heavy := heavy)
    (saturated := saturated) found
  have owed := completionPosted_claims (v := v) (second := second) (tare := tare) (charge := charge) (heavy := heavy)
    (saturated := saturated) (s := s)
  obtain ⟨spent, -, left, -⟩ := spendVisitClaim_spec (secondBody v first second tare charge heavy saturated) posted
    (owed ▸ claims)
  have out := findVisit_modVisit (f := fun v => { v with state := .weighedOut, hold := none }) (fun _ => rfl) spent
  obtain ⟨⟨st, states, asked⟩, -, port⟩ := ticketAsked_spec (v := v) out rfl
  refine ⟨_, asked, rfl, rfl, rfl, rfl, states, rfl, ?_⟩
  rw [port]
  exact left.trans (congrArg (· - 1) owed)

end Sys2Proof.Machine

namespace Sys2Proof.Certificates
open Sys2Proof.Machine

/-- Settles O55: the void of a visit no lane carries, and the actions on what a hold left. -/
theorem visitsVoidedAndResolved : Obligations.VisitsVoidedAndResolved := by
  unfold Obligations.VisitsVoidedAndResolved
  refine ⟨fun s tag v h numbered found alone => ⟨fun late => ?_, fun early claimed owed => ?_⟩,
    fun s tag v k value act_ h numbered found alone action => ?_⟩
  · exact answers_of_owner rfl h (voidRequest_late (s := fresh s) numbered found late)
  · obtain ⟨-, gone, record⟩ := voidVisit_spec (reason := .office) (s := fresh s) found claimed owed
    exact ⟨_, answers_of_owner rfl h (voidRequest_voids (s := fresh s) alone numbered found early), gone,
      (voidVisit_gives (s := fresh s) found claimed owed).1, record, (voidVisit_gives (s := fresh s) found claimed owed).2⟩
  have run : ∀ {reason resume r body t}, v.hold = some (reason, resume) → allowed reason resume act_ = true →
      resolved v (fresh s) act_ = replyWith r body t → Answers .resolveVisit s tag r body t := fun hold allow done =>
    answers_of_owner rfl h ((resolveVisit_allowed (s := fresh s) numbered found action hold allow).trans done)
  refine ⟨fun unheld => ?_, fun reason resume hold refused => ?_, fun slot w w1 row hold accept held first tariff negative => ?_,
    fun slot w row hold accept held tariff claims => ?_, fun slot w w1 row tare hold use held first tariff =>
      ⟨fun negative => ?_, fun net claims => ?_⟩, fun reason resume hold reweigh allow => ?_,
    fun reason resume hold void allow => ?_⟩
  · exact answers_of_owner rfl h (resolveVisit_unheld (s := fresh s) numbered found action unheld)
  · exact answers_of_owner rfl h (resolveVisit_refused (s := fresh s) numbered found action hold refused)
  · subst accept
    exact run hold rfl (resolveAccept_negative (s := fresh s) found held hold first tariff negative)
  · subst accept
    obtain ⟨stands, -, spent, -⟩ := acceptFirst_spec (w := w) (kind := row.kind) (s := fresh s) found claims
    exact ⟨_, _, run hold rfl (resolveAccept_first (s := fresh s) found held hold alone tariff), stands, rfl, rfl, rfl, rfl,
      rfl, spent⟩
  · subst use
    exact run hold rfl (resolveTare_negative (s := fresh s) held first tariff negative)
  · subst use
    obtain ⟨x, stands, second, tare_, none_, free, states, charge, spent⟩ := complete_findVisit (first := w1) (second := w)
      (row := row) (tare := .declared tare) (s := fresh s) found claims
    exact ⟨_, x, run hold rfl (resolveTare_completes (s := fresh s) held first tariff alone net), stands, second, tare_, none_,
      free, states, charge, spent⟩
  · subst reweigh
    exact run hold allow (congrArg (reply .done) (tellResolution_alone alone _ _))
  · subst void
    exact ⟨_, run hold allow (congrArg (reply .done) (voidByOffice_alone alone)), findVisit_voidVisit (s := fresh s) found⟩

end Sys2Proof.Certificates

namespace Sys2Proof.Machine

/-! ## A command of the queue ("Conventions", Order of events) -/

/-- The other half of `step_idle`: with a command waiting, the step is that command's. -/
theorem step_front {c : Instr} {rest : List Instr} {s : State} (waiting : s.pending = c :: rest) :
    step s = exec c { s with pending := rest } := by
  simp only [step, waiting]

end Sys2Proof.Machine

namespace Sys2Proof.Certificates
open Sys2Proof.Machine

/-- Settles O1: a queue with a command at its front takes the first branch of the step. -/
theorem stepRunsTheFrontCommand : Obligations.StepRunsTheFrontCommand := by
  unfold Obligations.StepRunsTheFrontCommand
  intro c rest s waiting
  exact step_front waiting

end Sys2Proof.Certificates
